-- ==== Sys2Proof/Word.lean ====
section
/-! DEFINITION. The words of the part: a character's value, a two-character number, a module tag
(00 sections 2.2, 2.3; 10 section 10.7). -/

namespace Sys2Proof

/-- The 8-bit value of one character (R1). -/
abbrev Byte := BitVec 8

/-- A two-character number, the check of a frame (R10), and the wrapping 16-bit counters. -/
abbrev Half := BitVec 16

/-- A 48-bit module tag (00 section 2.3). -/
abbrev Tag := BitVec 48

end Sys2Proof
end

