-- ==== Sys2Proof/Config.lean ====
section
/-! DEFINITION. What the part fixes: capacities of its queues and lists, frame codes, and the one
free value the manual leaves open (log 8). -/

namespace Sys2Proof.Config

/-- Room of the Transit Queue (R12). -/
def transitRoom : Nat := 4
/-- Room of the Originate Queue (R13). -/
def originateRoom : Nat := 8
/-- Frames other than REPLY the Originate Queue holds at most (R13). -/
def originateOthers : Nat := 7
/-- Room of the Intake Queue (R27). -/
def intakeRoom : Nat := 16
/-- Room of the command input queue (R186). -/
def commandRoom : Nat := 4
/-- Room of the Candidate Pool (R127). -/
def poolRoom : Nat := 64
/-- Length of the expired list (R182). -/
def expiredRoom : Nat := 8
/-- Characters the error window remembers (R5). -/
def windowLength : Nat := 32
/-- Error flags in the window at which the link loses sync (R5). -/
def windowErrors : Nat := 4
/-- FILL characters in a row that confirm the link (R4). -/
def confirmFills : Nat := 4
/-- The longest frame body (01 section 1.3). -/
def bodyMax : Nat := 240
/-- The value of FILL (R2). -/
def fillValue : Byte := 0x55#8
/-- The broadcast station (00 section 2.6). -/
def broadcast : Byte := 255#8
/-- The lowest own station address; the strap value is added to it (R203). -/
def ownBase : Byte := 240#8
/-- Maximum of the 16-bit saturating counters (R5, R17). -/
def counterMax : Nat := 65535
/-- Maximum of the arrival counter (R38). -/
def arrivalMax : Nat := 4294967295
/-- Milliseconds in a second: rest times and deadlines are given in seconds (R60, R173). -/
def msPerSecond : Nat := 1000

/-- FREE VALUE (log 8): a character of a REPLY whose content the manual does not state, because the
thing it would show is absent. The argument is a count that never repeats within a run. Nothing is
known of its values. -/
opaque freeByte : Nat → Byte

end Sys2Proof.Config
end

