-- ==== Sys2Proof/Syntax.lean ====
section
/-! DEFINITION. The commands of the block: one constructor per row of spec/opcode_table.json. -/

namespace Sys2Proof

/-- What the receiver sees of one character on RING-IN (R1): three samples of each of its eleven
bits, and whether the line was decided as 1 since the last character ended. Bit 0 of a sample is the
start bit, bits 1 to 8 the data bits (least significant first), bit 9 the mark bit, bit 10 the stop
bit. -/
structure LineCharacter where
  lineRose : Bool
  first    : BitVec 11
  second   : BitVec 11
  third    : BitVec 11
  deriving DecidableEq, Repr

/-- The commands, in the order of the table. A row of the management commands takes its parameters
from the head of the command input queue (R187), a row of the Grading Engine its record from the head
of the Intake Queue (R68), so those carry no operand. -/
inductive Instr where
  /-- RESETN goes low (R16). -/
  | resetnAssert
  /-- RESETN goes high with the straps at this value (R203). -/
  | resetnRelease (straps : BitVec 3)
  /-- A character ends on RING-IN (R1). -/
  | characterReceived (c : LineCharacter)
  /-- RING-OUT ends a frame or a FILL (R15). -/
  | egressDecision
  /-- The offered REPLY enters the Originate Queue (R13). -/
  | replyAdmission
  /-- The first ORDER claim is admitted (R173). -/
  | orderAdmission
  /-- The first VERDICT claim is admitted (R94). -/
  | verdictAdmission
  /-- The first NOTICE claim is admitted (R202). -/
  | noticeAdmission
  /-- The Grading Engine takes an ARRIVE record (R44). -/
  | arrive
  /-- The Grading Engine takes a DEPART record (R49). -/
  | depart
  /-- The Grading Engine takes a MEASURE record (R69). -/
  | measure
  /-- The evaluation in progress completes (R81). -/
  | evaluationCompletion
  /-- The settle timer of a module record expires (R62). -/
  | settleExpiry (record : Nat)
  /-- A request is selected (R143). -/
  | selection
  /-- The choice in progress completes (R159). -/
  | choiceCompletion
  /-- The deadline of an order expires (R181). -/
  | orderExpiry (order : Nat)
  /-- A pending commit reaches its safe point (R192). -/
  | commitSafePoint
  /-- LOAD (R189, R190). -/
  | load
  /-- COMMIT (R191). -/
  | commit
  /-- READ-TABLE (R196). -/
  | readTable
  /-- QUERY-MODULE (R54). -/
  | queryModule
  /-- QUERY-SLOT (R125). -/
  | querySlot
  /-- INVENTORY SLOT-EMPTY (R120). -/
  | slotEmpty
  /-- INVENTORY SLOT-HOLDS (R121). -/
  | slotHolds
  /-- INVENTORY SLOT-BLOCK (R123). -/
  | slotBlock
  /-- INVENTORY SLOT-UNBLOCK (R123). -/
  | slotUnblock
  /-- INVENTORY MODULE-TO-POOL (R55). -/
  | moduleToPool
  /-- INVENTORY MODULE-GONE (R56). -/
  | moduleGone
  /-- ORDER-DONE (R175). -/
  | orderDone
  /-- REQUEST-SLOT FILL (R140). -/
  | requestSlotFill
  /-- REQUEST-SLOT WAKE (R141). -/
  | requestSlotWake
  /-- RETIRE-SLOT (R142). -/
  | retireSlot
  /-- HALT (R195). -/
  | halt
  /-- RESUME (R195). -/
  | resume
  /-- CLEAR-ENGINE (R197). -/
  | clearEngine
  /-- READ-COUNTERS (R199). -/
  | readCounters
  /-- READ-STATUS (R200). -/
  | readStatus
  /-- A COMMAND whose body names no command (R188). -/
  | unknownCommand
  deriving DecidableEq, Repr

end Sys2Proof
end

