-- ==== Sys2Proof/WellFormed.lean ====
section
/-! DEFINITION. Which commands name something that exists: a settle timer is tied to one of the 192
module records (R35, R61), a deadline to one of the 8 Order Table records (R168). -/

namespace Sys2Proof

/-- The check. A command that fails it names no timer, and its meaning changes nothing. -/
def Instr.wellFormed : Instr → Bool
  | .settleExpiry record => decide (record < 192)
  | .orderExpiry order => decide (order < 8)
  | .resetnAssert | .resetnRelease _ | .characterReceived _ | .egressDecision | .replyAdmission
  | .orderAdmission | .verdictAdmission | .noticeAdmission | .arrive | .depart | .measure
  | .evaluationCompletion | .selection | .choiceCompletion | .commitSafePoint | .load | .commit
  | .readTable | .queryModule | .querySlot | .slotEmpty | .slotHolds | .slotBlock | .slotUnblock
  | .moduleToPool | .moduleGone | .orderDone | .requestSlotFill | .requestSlotWake | .retireSlot
  | .halt | .resume | .clearEngine | .readCounters | .readStatus | .unknownCommand => true

end Sys2Proof
end

