-- ==== Sys2Proof/Machine/State.lean ====
section
/-! DEFINITION. The state of the TG-24 as plain data, block by block (00 section 1.2), and its value
after device reset (R203). -/

namespace Sys2Proof.Machine

/-! ## Names and numbers shared by the blocks -/

/-- The five grades, best first (00 section 2.1). -/
inductive Grade where
  | a | b | c | d | reject
  deriving DecidableEq, Repr

/-- The four metrics (00 section 2.2). -/
inductive Metric where
  | cap | res | drift | heat
  deriving DecidableEq, Repr

/-- The ten life-cycle states (R39). -/
inductive ModuleState where
  | free | settling | testing | graded | pooled | assigned | inService | watch | outbound | held
  deriving DecidableEq, Repr

/-- A Module Register index. -/
abbrev ModuleIndex := Fin 192

/-- An Order Table index. -/
abbrev OrderIndex := Fin 8

/-- A module as other blocks name it: index and generation (00 section 2.8, R37). -/
structure ModuleRef where
  index      : ModuleIndex
  generation : Byte
  deriving DecidableEq, Repr

/-- A bay: Station Table entry and channel (00 section 2.8). -/
structure Bay where
  entry   : Fin 32
  channel : Fin 4
  deriving DecidableEq, Repr

/-- A slot: string and position (00 section 2.8). -/
structure SlotId where
  string   : Fin 8
  position : Fin 16
  deriving DecidableEq, Repr

/-! ## Ring Port (chapter 1) -/

/-- Link state of RING-IN (01 section 1.2). -/
inductive LinkState where
  | hunt | confirm | locked
  deriving DecidableEq, Repr

/-- A frame in assembly (R8): its kind, the characters after the header so far, and its damaged flag. -/
structure Assembly where
  kind    : Byte
  chars   : List Byte
  damaged : Bool
  deriving DecidableEq, Repr

/-- A complete frame (R205). Its length character is the length of its body. -/
structure Frame where
  kind        : Byte
  destination : Byte
  source      : Byte
  body        : List Byte
  check       : Half
  deriving DecidableEq, Repr

/-- What RING-OUT is sending: held at line level 1 under RESETN (R16), one FILL, the head of the
Transit Queue or the head of the Originate Queue (R15). A head stays in its queue while it is sent
(R12, R13). -/
inductive Sending where
  | heldHigh | fill | transit | originate
  deriving DecidableEq, Repr

/-- The six error counters (R17), each 0..65535. -/
structure Counters where
  rxDamaged      : Nat
  transitOverrun : Nat
  intakeOverrun  : Nat
  cmdOverrun     : Nat
  samplesIgnored : Nat
  syncLosses     : Nat
  deriving DecidableEq, Repr

/-- State of the Ring Port. `window` holds the error flags newest first. `awaitingHigh` is set after
a character error until the line is decided as 1 (R1). `verdictClaims` are the standing VERDICT
claims, the verdict made earliest first (R14). -/
structure RingPort where
  link           : LinkState
  confirmCount   : Nat
  window         : List Bool
  lossesSince    : Nat
  assembly       : Option Assembly
  awaitingHigh   : Bool
  transitQueue   : List Frame
  originateQueue : List Frame
  passOver       : Nat
  sending        : Sending
  counters       : Counters
  verdictClaims  : List ModuleIndex
  resetAsserted  : Bool
  deriving DecidableEq, Repr

/-! ## Intake Unit (chapter 2) -/

/-- What an admitted sample says (R28). -/
inductive Measurement where
  | arrive (tag : Tag) (originClass : Fin 16)
  | depart (tag : Option Tag)
  | measure (metric : Metric) (value : Nat) (temperature : Int)
  deriving DecidableEq, Repr

/-- A measurement record (R28). A station of `none` is VOID (R32). -/
structure MeasurementRecord where
  station : Option (Fin 32)
  channel : Fin 8
  content : Measurement
  deriving DecidableEq, Repr

/-- The live fields of a Station Table entry (R20). -/
structure StationLive where
  lastSequence : Option Byte
  lostCount    : Nat
  bays         : Vector (Option ModuleRef) 4
  deriving DecidableEq, Repr

/-- State of the Intake Unit. -/
structure IntakeUnit where
  live        : Vector StationLive 32
  intakeQueue : List MeasurementRecord
  deriving DecidableEq, Repr

/-! ## Grading Engine (chapters 4 and 5) -/

/-- A running settle timer: the generation it was started for and the instant it expires (R61, R62). -/
structure SettleTimer where
  generation : Byte
  expiresAt  : Nat
  deriving DecidableEq, Repr

/-- The place of an evaluation (R69). -/
inductive Place where
  | bay | service
  deriving DecidableEq, Repr

/-- The result of the rule search (R71). -/
inductive SearchResult where
  | rule (index : Fin 96)
  | noRule
  deriving DecidableEq, Repr

/-- An evaluation in progress and what it holds (R70). `found` is the search result once the search
has ended (04 section 4.10). -/
structure Evaluation where
  module      : ModuleRef
  heldState   : ModuleState
  originClass : Fin 16
  place       : Place
  metric      : Metric
  value       : Nat
  temperature : Int
  reference   : Option Nat
  found       : Option SearchResult
  deriving DecidableEq, Repr

/-- State of the Grading Engine. -/
structure GradingEngine where
  settleTimers   : Vector (Option SettleTimer) 192
  evaluation     : Option Evaluation
  verdictCounter : Half
  deriving DecidableEq, Repr

/-! ## Module Register (chapter 3) -/

/-- A set of metric evidence (R36). A grade of `none` is UNGRADED. -/
structure Evidence where
  grade         : Option Grade
  candidate     : Option (Fin 96)
  runCount      : Nat
  confirmations : Nat
  unmatched     : Nat
  lastValue     : Option Nat
  deriving DecidableEq, Repr

/-- The four sets of a record (R36). -/
structure EvidenceSets where
  cap   : Evidence
  res   : Evidence
  drift : Evidence
  heat  : Evidence
  deriving DecidableEq, Repr

/-- Where a module is (R35). -/
inductive Location where
  | absent
  | bay (b : Bay)
  | slot (s : SlotId)
  deriving DecidableEq, Repr

/-- The two kinds of verdict (R92, R50). -/
inductive VerdictKind where
  | graded | abandoned
  deriving DecidableEq, Repr

/-- A verdict made and not yet sent (R35). -/
structure Verdict where
  kind     : VerdictKind
  sequence : Half
  deriving DecidableEq, Repr

/-- A module record (R35). A resolved grade of `none` is NONE. -/
structure ModuleRecord where
  state       : ModuleState
  generation  : Byte
  tag         : Tag
  originClass : Fin 16
  arrival     : Nat
  location    : Location
  evidence    : EvidenceSets
  gapCount    : Nat
  resolved    : Option Grade
  provisional : Bool
  watchCount  : Nat
  verdict     : Option Verdict
  departed    : Bool
  order       : Option OrderIndex
  deriving DecidableEq, Repr

/-- State of the Module Register. -/
structure ModuleRegister where
  records        : Vector ModuleRecord 192
  arrivalCounter : Nat
  deriving DecidableEq, Repr

/-! ## String Map (chapter 6) -/

/-- A string's reference of one metric with its count (R110, R111). -/
structure Reference where
  value : Option Nat
  count : Nat
  deriving DecidableEq, Repr

/-- A string record (R110). -/
structure StringRecord where
  pairingClass : Fin 8
  cap          : Reference
  res          : Reference
  deriving DecidableEq, Repr

/-- A slot record (R114): its state with the module and order that state carries. -/
inductive SlotRecord where
  | unknown
  | empty
  | occupied (m : ModuleRef)
  | reserved (order : OrderIndex) (outgoing : Option ModuleRef)
  | blocked
  deriving DecidableEq, Repr

/-- State of the String Map: 8 strings and 8 times 16 slots. -/
structure StringMap where
  strings : Vector StringRecord 8
  slots   : Vector (Vector SlotRecord 16) 8
  deriving DecidableEq, Repr

/-! ## The five tables (chapters 2, 4, 8, 10) -/

/-- An Origin Class Table entry (04 section 4.1). -/
structure OriginClass where
  restCount : Nat
  residency : Nat
  gapLimit  : Nat
  ceiling   : Grade
  deriving DecidableEq, Repr

/-- Where a grading rule applies (04 section 4.3). -/
inductive Applicability where
  | bay | service | both
  deriving DecidableEq, Repr

/-- How a grading rule's window is read (R72, R73). -/
inductive RuleMode where
  | absolute | relative
  deriving DecidableEq, Repr

/-- A temperature qualifier, in units of 0.1 degree (R74). -/
structure Qualifier where
  low  : Int
  high : Int
  deriving DecidableEq, Repr

/-- A grading rule (04 section 4.3). -/
structure GradingRule where
  valid         : Bool
  originMask    : BitVec 16
  applicability : Applicability
  metric        : Metric
  mode          : RuleMode
  windowLow     : Int
  windowHigh    : Int
  qualifier     : Option Qualifier
  grade         : Grade
  confirm       : Option Nat
  deriving DecidableEq, Repr

/-- A Pairing Class Table entry (R147). Bit k of the flags is set when flag k is PASS. -/
structure PairingClass where
  minimum          : Grade
  capTolerance     : Nat
  resTolerance     : Nat
  capWeight        : Nat
  resWeight        : Nat
  referenceMinimum : Nat
  flags            : BitVec 8
  fillPriority     : Nat
  replacePriority  : Nat
  watchConfirm     : Nat
  deriving DecidableEq, Repr

/-- The role of a station (02 section 2.1). -/
inductive Role where
  | testBay | bank | ignore
  deriving DecidableEq, Repr

/-- The loaded fields of a Station Table entry (02 section 2.1). -/
structure Station where
  valid        : Bool
  address      : Byte
  role         : Role
  string       : Fin 8
  basePosition : Fin 16
  channelCount : Nat
  deriving DecidableEq, Repr

/-- The rest unit (R60). -/
inductive RestUnit where
  | s1 | s10 | s60
  deriving DecidableEq, Repr

/-- The selection policy (R146). -/
inductive Policy where
  | arrival | priority
  deriving DecidableEq, Repr

/-- Bank Settings (10 section 10.2). A controller of `none` is ANY. -/
structure BankSettings where
  stringsInUse  : Nat
  positions     : Nat
  classes       : Vector (Fin 8) 8
  restUnit      : RestUnit
  policy        : Policy
  orderDeadline : Nat
  controller    : Option Byte
  deriving DecidableEq, Repr

/-- One copy of the five tables (00 section 1.5). -/
structure Tables where
  orig : Vector OriginClass 16
  rule : Vector GradingRule 96
  pcls : Vector PairingClass 8
  stat : Vector Station 32
  bank : BankSettings
  deriving DecidableEq, Repr

/-! ## Pairing Engine (chapters 7 and 8) -/

/-- Kind of a slot request (R134). -/
inductive RequestKind where
  | fill | replace | remove
  deriving DecidableEq, Repr

/-- Status of a slot request (R134). -/
inductive RequestStatus where
  | ready | waiting | selected
  deriving DecidableEq, Repr

/-- A slot request (R134). -/
structure Request where
  slot     : SlotId
  kind     : RequestKind
  priority : Nat
  age      : Half
  status   : RequestStatus
  deriving DecidableEq, Repr

/-- A member of the member list (R152). -/
structure Member where
  module    : ModuleRef
  resolved  : Option Grade
  capValue  : Option Nat
  resValue  : Option Nat
  deriving DecidableEq, Repr

/-- The best candidate so far (R156). -/
structure Best where
  module : ModuleRef
  score  : Nat
  deriving DecidableEq, Repr

/-- A choice in progress and what it holds (R145, R150). -/
structure Choice where
  age          : Half
  kind         : RequestKind
  slot         : SlotId
  noted        : SlotRecord
  order        : OrderIndex
  cls          : PairingClass
  capReference : Reference
  resReference : Reference
  members      : List Member
  scanPosition : Nat
  best         : Option Best
  stale        : Bool
  deriving DecidableEq, Repr

/-- State of the Pairing Engine. The queue is in order of age (R134). -/
structure PairingEngine where
  pool       : List ModuleIndex
  poolWait   : List ModuleIndex
  requests   : List Request
  ageCounter : Half
  choice     : Option Choice
  deriving DecidableEq, Repr

/-! ## Order Tracker (chapter 9) -/

/-- What an order asks for, with the modules its kind names (R162, R168). -/
inductive OrderWork where
  | insert (incoming : ModuleRef)
  | swap (incoming outgoing : ModuleRef)
  | remove (outgoing : ModuleRef)
  deriving DecidableEq, Repr

/-- The stage of an order (R168). An ISSUED order holds the instant its deadline elapses. -/
inductive OrderStage where
  | deferred
  | issuing
  | issued (expiresAt : Nat)
  deriving DecidableEq, Repr

/-- An order (R168). -/
structure Order where
  stage  : OrderStage
  slot   : SlotId
  number : Byte
  work   : OrderWork
  deriving DecidableEq, Repr

/-- An Order Table record (R168). -/
inductive OrderRecord where
  | free
  | reservedForChoice (slot : SlotId)
  | order (o : Order)
  deriving DecidableEq, Repr

/-- State of the Order Tracker. `creation` lists the orders in the order of their creation. -/
structure OrderTracker where
  table         : Vector OrderRecord 8
  creation      : List OrderIndex
  numberCounter : Byte
  expired       : List Byte
  deriving DecidableEq, Repr

/-! ## Management Unit (chapter 10) -/

/-- RUN or HALTED (R195). -/
inductive EngineMode where
  | run | halted
  deriving DecidableEq, Repr

/-- The five tables by name (R204). -/
inductive Table where
  | orig | rule | pcls | stat | bank
  deriving DecidableEq, Repr

/-- Why a commit is refused, with its place (R19, R67, R108, R193). -/
inductive CommitFailure where
  | duplicateAddress (entry : Fin 32)
  | slotRange (entry : Fin 32)
  | slotOverlap (entry : Fin 32)
  | relativeMetric (rule : Fin 96)
  | windowOrder (rule : Fin 96)
  | temperatureOrder (rule : Fin 96)
  | geometryReduction (slot : SlotId)
  deriving DecidableEq, Repr

/-- The eight notices with their arguments (10 section 10.5). -/
inductive NoticeArgument where
  | registerFull (tag : Tag)
  | tagConflict (tag : Tag) (found : ModuleState)
  | ruleHole (index : ModuleIndex) (metric : Metric)
  | orderExpired (number : Byte)
  | linkRelock (losses : Nat)
  | commitTaken (mask : BitVec 5)
  | commitRefused (failure : CommitFailure)
  | stringWaiting (slot : SlotId)
  deriving DecidableEq, Repr

/-- A pending entry of the Notice Set (R201): its latest argument, which fixes its kind, and its count. -/
structure Notice where
  argument : NoticeArgument
  count    : Nat
  deriving DecidableEq, Repr

/-- A REPLY offered to the Ring Port and not yet admitted (R187). -/
structure ReplyOffer where
  destination : Byte
  body        : List Byte
  deriving DecidableEq, Repr

/-- State of the Management Unit. `notices` lists the pending kinds in raise place (R201). -/
structure ManagementUnit where
  mode          : EngineMode
  commandQueue  : List Frame
  reply         : Option ReplyOffer
  pendingCommit : Option (BitVec 5)
  notices       : List Notice
  active        : Tables
  shadow        : Tables
  ownAddress    : Byte
  deriving DecidableEq, Repr

/-! ## The whole part -/

/-- State of the part: its eight blocks, the time base in milliseconds (00 section 2.4; log 4), the
count of free reply characters drawn (log 8) and the queue of commands that wait. -/
structure State where
  rp        : RingPort
  iu        : IntakeUnit
  ge        : GradingEngine
  mr        : ModuleRegister
  sm        : StringMap
  pe        : PairingEngine
  ot        : OrderTracker
  mu        : ManagementUnit
  timeBase  : Nat
  freeCount : Nat
  pending   : List Instr
  deriving DecidableEq, Repr

/-! ## Values after device reset -/

/-- Cleared metric evidence (R36). -/
def Evidence.cleared : Evidence :=
  { grade := none, candidate := none, runCount := 0, confirmations := 0, unmatched := 0
    lastValue := none }

/-- Four cleared sets (R36). -/
def EvidenceSets.cleared : EvidenceSets :=
  { cap := .cleared, res := .cleared, drift := .cleared, heat := .cleared }

/-- A FREE record with its cleared fields and a given generation (R35). -/
def ModuleRecord.cleared (generation : Byte) : ModuleRecord :=
  { state := .free, generation := generation, tag := 0, originClass := 0, arrival := 0
    location := .absent, evidence := .cleared, gapCount := 0, resolved := none
    provisional := false, watchCount := 0, verdict := none, departed := false, order := none }

/-- Default of an Origin Class Table entry (04 section 4.1). -/
def OriginClass.default : OriginClass :=
  { restCount := 0, residency := 1, gapLimit := 255, ceiling := .d }

/-- Default of a grading rule (04 section 4.3). -/
def GradingRule.default : GradingRule :=
  { valid := false, originMask := 0, applicability := .both, metric := .cap, mode := .absolute
    windowLow := 0, windowHigh := 0, qualifier := none, grade := .d, confirm := none }

/-- Default of a Pairing Class Table entry (R147). -/
def PairingClass.default : PairingClass :=
  { minimum := .d, capTolerance := 0, resTolerance := 0, capWeight := 0, resWeight := 0
    referenceMinimum := 1, flags := 0, fillPriority := 0, replacePriority := 0, watchConfirm := 1 }

/-- Default of a Station Table entry (02 section 2.1). -/
def Station.default : Station :=
  { valid := false, address := 0, role := .ignore, string := 0, basePosition := 0, channelCount := 1 }

/-- Default Bank Settings (10 section 10.2). -/
def BankSettings.default : BankSettings :=
  { stringsInUse := 0, positions := 16, classes := Vector.replicate 8 0, restUnit := .s1
    policy := .arrival, orderDeadline := 600, controller := none }

/-- The five tables at their defaults. -/
def Tables.default : Tables :=
  { orig := Vector.replicate 16 .default, rule := Vector.replicate 96 .default
    pcls := Vector.replicate 8 .default, stat := Vector.replicate 32 .default, bank := .default }

/-- Live fields of an entry with no history (R20). -/
def StationLive.cleared : StationLive :=
  { lastSequence := none, lostCount := 0, bays := Vector.replicate 4 none }

/-- The Intake Unit after device reset and after CLEAR-ENGINE (R20, R27). -/
def IntakeUnit.cleared : IntakeUnit :=
  { live := Vector.replicate 32 .cleared, intakeQueue := [] }

/-- The Grading Engine after device reset and after CLEAR-ENGINE (R64, R85, R93). -/
def GradingEngine.cleared : GradingEngine :=
  { settleTimers := Vector.replicate 192 none, evaluation := none, verdictCounter := 0 }

/-- The Module Register after device reset and after CLEAR-ENGINE (R57). -/
def ModuleRegister.cleared : ModuleRegister :=
  { records := Vector.replicate 192 (.cleared 0), arrivalCounter := 0 }

/-- An absent reference (R111). -/
def Reference.absent : Reference := { value := none, count := 0 }

/-- The String Map after device reset (R126). -/
def StringMap.cleared : StringMap :=
  { strings := Vector.replicate 8 { pairingClass := 0, cap := .absent, res := .absent }
    slots := Vector.replicate 8 (Vector.replicate 16 .unknown) }

/-- The Pairing Engine after device reset and after CLEAR-ENGINE (R146). -/
def PairingEngine.cleared : PairingEngine :=
  { pool := [], poolWait := [], requests := [], ageCounter := 0, choice := none }

/-- The Order Tracker after device reset (R185). -/
def OrderTracker.cleared : OrderTracker :=
  { table := Vector.replicate 8 .free, creation := [], numberCounter := 0, expired := [] }

/-- Six counters at 0 (R17). -/
def Counters.zero : Counters :=
  { rxDamaged := 0, transitOverrun := 0, intakeOverrun := 0, cmdOverrun := 0, samplesIgnored := 0
    syncLosses := 0 }

/-- The Ring Port after device reset (01, table before 1.1; R16). DESIGN CHOICE (log 17): the manual gives no reset
value for the wait for the line to rise after a character error (`awaitingHigh`); the model ends it. -/
def RingPort.cleared : RingPort :=
  { link := .hunt, confirmCount := 0, window := [], lossesSince := 0, assembly := none
    awaitingHigh := false, transitQueue := [], originateQueue := [], passOver := 0, sending := .fill
    counters := .zero, verdictClaims := [], resetAsserted := false }

/-- The Management Unit after device reset with the given own station address (R203). -/
def ManagementUnit.cleared (ownAddress : Byte) : ManagementUnit :=
  { mode := .halted, commandQueue := [], reply := none, pendingCommit := none, notices := []
    active := .default, shadow := .default, ownAddress := ownAddress }

/-- The part right after RESETN releases with the straps at `straps` (R203). -/
def State.afterReset (straps : BitVec 3) : State :=
  { rp := .cleared, iu := .cleared, ge := .cleared, mr := .cleared, sm := .cleared, pe := .cleared
    ot := .cleared, mu := .cleared (Config.ownBase + straps.setWidth 8), timeBase := 0
    freeCount := 0, pending := [] }

/-- The part after device reset. DESIGN CHOICE (log 7): the straps read 0, so the own station address
is 240; the spec leaves the strap value to the board, and RESETN_RELEASE takes any. -/
def State.reset : State := State.afterReset 0

/-! ## The outcomes that stop the machine -/

/-- Faults. The spec gives every row an effect in every state, so no meaning answers with one; the
type has no constructor. -/
inductive Fault where
  deriving DecidableEq, Repr

/-- Refusals. -/
inductive Refusal where
  /-- An arm of exec whose row has no meaning yet. Raised by exec alone; safe, since nothing is claimed
  of what such a row does. No arm uses it now. -/
  | notModelled (mnemonic : String)
  deriving DecidableEq, Repr

end Sys2Proof.Machine
end

