-- ==== Sys2Proof/Machine/Ops.lean ====
section
/-! DEFINITION. The named operations over State: saturating counts, table access, claims on module
records (R41), slots, strings, orders and bays. Every other file reads and writes records through
these. -/

namespace Sys2Proof.Machine

/-! ## Numbers -/

/-- A saturating increment (00 section 2.5). -/
def satInc (limit n : Nat) : Nat := min (n + 1) limit

/-- A saturating addition (R24). -/
def satAdd (limit n k : Nat) : Nat := min (n + k) limit

/-- |x - y| (00 section 2.2). -/
def magnitude (x y : Nat) : Nat := (x - y) + (y - x)

/-! ## Tables of a fixed size -/

/-- The table with entry `i` replaced. -/
def put {α : Type} {n : Nat} (v : Vector α n) (i : Fin n) (x : α) : Vector α n := v.set i.val x i.isLt

/-- Every entry changed by `f`. -/
def mapEntries {α β : Type} {n : Nat} (f : α → β) (v : Vector α n) : Vector β n :=
  ⟨⟨v.toList.map f⟩, by simp⟩

/-- The table whose entry `i` is `f i`. -/
def tabulate {α : Type} {n : Nat} (f : Fin n → α) : Vector α n := ⟨⟨List.ofFn f⟩, by simp⟩

/-- The lowest index whose entry satisfies `p`. -/
def lowest {α : Type} {n : Nat} (p : α → Bool) (v : Vector α n) : Option (Fin n) :=
  match v.toList.findIdx? p with
  | some i => if h : i < n then some ⟨i, h⟩ else none
  | none => none

/-- Insertion of `x` after every element that goes before it or equals it and before the first that
comes after it, where `before x y` says that x goes strictly before y (R128). -/
def insertOrdered {α : Type} (before : α → α → Bool) (x : α) : List α → List α
  | [] => [x]
  | y :: ys => if before x y then x :: y :: ys else y :: insertOrdered before x ys

/-! ## Metric evidence by metric -/

/-- The set of a metric (R36). -/
def EvidenceSets.get (e : EvidenceSets) : Metric → Evidence
  | .cap => e.cap
  | .res => e.res
  | .drift => e.drift
  | .heat => e.heat

/-- The four sets with that of one metric replaced (R36). -/
def EvidenceSets.set (e : EvidenceSets) (m : Metric) (x : Evidence) : EvidenceSets :=
  match m with
  | .cap => { e with cap := x }
  | .res => { e with res := x }
  | .drift => { e with drift := x }
  | .heat => { e with heat := x }

/-- Each of the four sets changed by `f`. -/
def EvidenceSets.mapAll (e : EvidenceSets) (f : Evidence → Evidence) : EvidenceSets :=
  { cap := f e.cap, res := f e.res, drift := f e.drift, heat := f e.heat }

/-! ## Module records and claims -/

/-- The record of an index. -/
def State.record (s : State) (i : ModuleIndex) : ModuleRecord := s.mr.records.get i

/-- The state with one module record replaced. -/
def State.setRecord (s : State) (i : ModuleIndex) (r : ModuleRecord) : State :=
  { s with mr := { s.mr with records := put s.mr.records i r } }

/-- The name of the module now in a record: its index with its generation (R37). -/
def State.refOf (s : State) (i : ModuleIndex) : ModuleRef :=
  { index := i, generation := (s.record i).generation }

/-- Whether a claim on a module would be applied: the generation and one of the expected states are
what the register finds (R41). -/
def State.finds (s : State) (m : ModuleRef) (expected : List ModuleState) : Bool :=
  decide ((s.record m.index).generation = m.generation) && expected.contains (s.record m.index).state

/-- A claim (R41): the change is applied whole if generation and state match; a declined claim leaves
the record as it was. -/
def State.claim (s : State) (m : ModuleRef) (expected : List ModuleState)
    (change : ModuleRecord → ModuleRecord) : State :=
  if s.finds m expected then s.setRecord m.index (change (s.record m.index)) else s

/-- The record as it becomes FREE: every field but the generation cleared (R35). -/
def ModuleRecord.freed (r : ModuleRecord) : ModuleRecord := .cleared r.generation

/-- The search for a tag among the non-FREE records (R40). -/
def State.findTag (s : State) (tag : Tag) : Option ModuleIndex :=
  lowest (fun r => decide (r.state ≠ .free) && decide (r.tag = tag)) s.mr.records

/-- The FREE record of lowest index (R47). -/
def State.lowestFree (s : State) : Option ModuleIndex :=
  lowest (fun r => decide (r.state = .free)) s.mr.records

/-- A tag that a module may carry (00 section 2.3). -/
def validTag (tag : Tag) : Bool := decide (tag ≠ 0) && decide (tag ≠ 0xFFFFFFFFFFFF#48)

/-- GRADED in-bay with its verdict sent (R39). -/
def ModuleRecord.inBayVerdictSent (r : ModuleRecord) : Bool :=
  decide (r.state = .graded) && !r.departed && r.verdict.isNone

/-- GRADED pool-waiting (R39): departed, no verdict pending, graded A to D. -/
def ModuleRecord.poolWaiting (r : ModuleRecord) : Bool :=
  decide (r.state = .graded) && r.departed && r.verdict.isNone &&
    (match r.resolved with
     | some .reject | none => false
     | some _ => true)

/-! ## Bays and live fields -/

/-- The live fields of a Station Table entry. -/
def State.live (s : State) (e : Fin 32) : StationLive := s.iu.live.get e

/-- The state with the live fields of one entry replaced. -/
def State.setLive (s : State) (e : Fin 32) (x : StationLive) : State :=
  { s with iu := { s.iu with live := put s.iu.live e x } }

/-- The occupant of a bay (R20). -/
def State.occupant (s : State) (b : Bay) : Option ModuleRef := (s.live b.entry).bays.get b.channel

/-- The live fields of the entry with one bay's occupant replaced. -/
def State.setOccupant (s : State) (b : Bay) (m : Option ModuleRef) : State :=
  s.setLive b.entry { s.live b.entry with bays := put (s.live b.entry).bays b.channel m }

/-- A CLEAR claim (R21): the bay is emptied if it holds the module named. -/
def State.clearBay (s : State) (b : Bay) (m : ModuleRef) : State :=
  if s.occupant b = some m then s.setOccupant b none else s

/-- A SET claim (R21). -/
def State.setBay (s : State) (b : Bay) (m : ModuleRef) : State := s.setOccupant b (some m)

/-! ## Slots, strings, orders -/

/-- The record of a slot. -/
def State.slot (s : State) (p : SlotId) : SlotRecord := (s.sm.slots.get p.string).get p.position

/-- The state with one slot record replaced. -/
def State.setSlot (s : State) (p : SlotId) (x : SlotRecord) : State :=
  { s with sm := { s.sm with
      slots := put s.sm.slots p.string (put (s.sm.slots.get p.string) p.position x) } }

/-- The record of a string. -/
def State.string (s : State) (i : Fin 8) : StringRecord := s.sm.strings.get i

/-- The state with one string record replaced. -/
def State.setString (s : State) (i : Fin 8) (x : StringRecord) : State :=
  { s with sm := { s.sm with strings := put s.sm.strings i x } }

/-- The 16 positions of a string, in order. -/
def positions : List (Fin 16) := List.finRange 16

/-- Every slot, by ascending string and then position (R108). -/
def allSlots : List SlotId :=
  (List.finRange 8).flatMap fun i => positions.map fun p => { string := i, position := p }

/-- A slot in use under given Bank Settings (R107). -/
def inUse (b : BankSettings) (p : SlotId) : Bool :=
  decide (p.string.val < b.stringsInUse) && decide (p.position.val < b.positions)

/-- A slot in use under the active Bank Settings (R107). -/
def State.slotInUse (s : State) (p : SlotId) : Bool := inUse s.mu.active.bank p

/-- The Pairing Class Table entry that governs a string (R110). -/
def State.classOf (s : State) (i : Fin 8) : PairingClass :=
  s.mu.active.pcls.get (s.string i).pairingClass

/-- The Order Table record of an index. -/
def State.order (s : State) (i : OrderIndex) : OrderRecord := s.ot.table.get i

/-- The state with one Order Table record replaced. -/
def State.setOrder (s : State) (i : OrderIndex) (x : OrderRecord) : State :=
  { s with ot := { s.ot with table := put s.ot.table i x } }

/-- The order in a record, if the record is an order. -/
def OrderRecord.order? : OrderRecord → Option Order
  | .order o => some o
  | .free | .reservedForChoice _ => none

/-- The incoming module of an order (R162). -/
def OrderWork.incoming : OrderWork → Option ModuleRef
  | .insert m => some m
  | .swap m _ => some m
  | .remove _ => none

/-- The outgoing module of an order (R162). -/
def OrderWork.outgoing : OrderWork → Option ModuleRef
  | .insert _ => none
  | .swap _ m => some m
  | .remove m => some m

/-! ## Settle timers -/

/-- The settle timer of a record (R61). -/
def State.timer (s : State) (i : ModuleIndex) : Option SettleTimer := s.ge.settleTimers.get i

/-- The state with the settle timer of one record replaced. -/
def State.setTimer (s : State) (i : ModuleIndex) (t : Option SettleTimer) : State :=
  { s with ge := { s.ge with settleTimers := put s.ge.settleTimers i t } }

/-- The seconds of a rest unit (R60). -/
def RestUnit.seconds : RestUnit → Nat
  | .s1 => 1
  | .s10 => 10
  | .s60 => 60

/-- The rest time of an origin class in milliseconds, from the active tables of this moment (R60). -/
def State.restTime (s : State) (c : Fin 16) : Nat :=
  (s.mu.active.orig.get c).restCount * s.mu.active.bank.restUnit.seconds * Config.msPerSecond

/-- The time base moved on to an instant; it never moves back (00 section 2.4; log 4). -/
def State.reachTime (s : State) (t : Nat) : State := { s with timeBase := max s.timeBase t }

/-! ## Grades -/

/-- Place of a grade in the order of 00 section 2.1: smaller is better. -/
def Grade.rank : Grade → Nat
  | .a => 0
  | .b => 1
  | .c => 2
  | .d => 3
  | .reject => 4

/-- "At least": that grade or a better one (00 section 2.1). -/
def Grade.atLeast (g h : Grade) : Bool := decide (g.rank ≤ h.rank)

/-- Demotion by one step (00 section 2.1). -/
def Grade.demoted : Grade → Grade
  | .a => .b
  | .b => .c
  | .c => .d
  | .d => .d
  | .reject => .reject

/-- The worse of two grades. -/
def Grade.worse (g h : Grade) : Grade := if g.rank ≤ h.rank then h else g

/-- A resolved grade the Candidate Pool accepts: A, B, C or D (R52, R55). -/
def poolable : Option Grade → Bool
  | some .a | some .b | some .c | some .d => true
  | some .reject | none => false

end Sys2Proof.Machine
end

