-- ==== Sys2Proof/Machine/Clock.lean ====
section
/-! DEFINITION. What runs on the part's time base: the instants at which settle timers (R61) and order deadlines
(R180) end, and which of them ends first (log 4). -/

namespace Sys2Proof.Machine

/-- The instant at which a settle timer ends, if it runs (R61). -/
def timerEnd (x : Option SettleTimer) : Option Nat := x.map SettleTimer.expiresAt

/-- The instant at which the deadline of an order ends: only an ISSUED order has one running (R180). -/
def OrderStage.deadline : OrderStage → Option Nat
  | .issued t => some t
  | .deferred | .issuing => none

/-- The instant at which the deadline of an Order Table record ends, if one runs (R180). -/
def OrderRecord.deadline : OrderRecord → Option Nat
  | .order o => o.stage.deadline
  | .free | .reservedForChoice _ => none

/-- Whether what may run does not end before an instant. -/
def notBefore (t : Nat) : Option Nat → Bool
  | some e => decide (t ≤ e)
  | none => true

/-- Whether no running settle timer and no running deadline ends before an instant, so that the time base may come
to it (R61, R180). -/
def State.noneEndsBefore (s : State) (t : Nat) : Bool :=
  s.ge.settleTimers.toList.all (fun x => notBefore t (timerEnd x)) &&
    s.ot.table.toList.all fun r => notBefore t r.deadline

/-- Whether what ends at an instant runs and is among the first to end. -/
def State.endsFirst (s : State) : Option Nat → Bool
  | some e => s.noneEndsBefore e
  | none => false

end Sys2Proof.Machine
end

