-- ==== Sys2Proof/Machine/Flags.lean ====
section
/-! DEFINITION. The part's event flags: the six error counters (R17) and the Notice Set (R201). -/

namespace Sys2Proof.Machine

/-! ## Error counters -/

/-- The six error counters by name (R17). -/
inductive Counter where
  | rxDamaged | transitOverrun | intakeOverrun | cmdOverrun | samplesIgnored | syncLosses
  deriving DecidableEq, Repr

/-- One counter incremented, stopping at 65535 (R17). -/
def Counters.bump (c : Counters) : Counter → Counters
  | .rxDamaged => { c with rxDamaged := satInc Config.counterMax c.rxDamaged }
  | .transitOverrun => { c with transitOverrun := satInc Config.counterMax c.transitOverrun }
  | .intakeOverrun => { c with intakeOverrun := satInc Config.counterMax c.intakeOverrun }
  | .cmdOverrun => { c with cmdOverrun := satInc Config.counterMax c.cmdOverrun }
  | .samplesIgnored => { c with samplesIgnored := satInc Config.counterMax c.samplesIgnored }
  | .syncLosses => { c with syncLosses := satInc Config.counterMax c.syncLosses }

/-- The value of one counter. -/
def Counters.get (c : Counters) : Counter → Nat
  | .rxDamaged => c.rxDamaged
  | .transitOverrun => c.transitOverrun
  | .intakeOverrun => c.intakeOverrun
  | .cmdOverrun => c.cmdOverrun
  | .samplesIgnored => c.samplesIgnored
  | .syncLosses => c.syncLosses

/-- The state with one error counter incremented (R17). -/
def State.count (s : State) (c : Counter) : State :=
  { s with rp := { s.rp with counters := s.rp.counters.bump c } }

/-! ## The Notice Set -/

/-- The code of a notice kind (R204), which also names the kind. -/
def NoticeArgument.kindCode : NoticeArgument → Nat
  | .registerFull _ => 1
  | .tagConflict _ _ => 2
  | .ruleHole _ _ => 3
  | .orderExpired _ => 4
  | .linkRelock _ => 5
  | .commitTaken _ => 6
  | .commitRefused _ => 7
  | .stringWaiting _ => 8

/-- A raise among the pending entries, in raise place (R201): a pending kind keeps its place, its
count grows to 255 at most and its argument is replaced; a kind not pending takes the last place with
count 1. -/
def raiseIn (a : NoticeArgument) : List Notice → List Notice
  | [] => [{ argument := a, count := 1 }]
  | n :: ns =>
    if n.argument.kindCode = a.kindCode then { argument := a, count := satInc 255 n.count } :: ns
    else n :: raiseIn a ns

/-- A notice raised in the Notice Set (R201). -/
def State.raise (s : State) (a : NoticeArgument) : State :=
  { s with mu := { s.mu with notices := raiseIn a s.mu.notices } }

end Sys2Proof.Machine
end

