-- ==== Sys2Proof/Machine/Operands.lean ====
section
/-! DEFINITION. The operand forms of the part: characters on the line (R1, R16), the frame envelope
and its check (R10, R205), the field codes (R204), and the layouts of sample bodies, table entries,
LOAD chunks, and the bodies the part originates (R206 to R209). -/

namespace Sys2Proof.Machine

/-! ## Characters on the line -/

/-- A delivered character: its value, mark flag and error flag (R1). -/
structure Character where
  value : Byte
  mark  : Bool
  error : Bool
  deriving DecidableEq, Repr

/-- The majority of three samples, bit by bit (R1). -/
def majority (x y z : BitVec 11) : BitVec 11 := (x &&& y) ||| (x &&& z) ||| (y &&& z)

/-- The eleven bits a receiver decides for a character (R1). -/
def decidedBits (c : LineCharacter) : BitVec 11 := majority c.first c.second c.third

/-- The character that eleven decided bits make: none at a false start; a stop bit of 0 is a character
error (R1). -/
def characterOf (bits : BitVec 11) : Option Character :=
  if bits.getLsbD 0 then none
  else some { value := bits.extractLsb' 1 8, mark := bits.getLsbD 9, error := !bits.getLsbD 10 }

/-- The eleven bits a character takes on RING-OUT: start bit 0, eight data bits least significant
first, mark, stop bit 1 (01 section 1.1, R16). -/
def lineForm (value : Byte) (mark : Bool) : BitVec 11 :=
  (1#1 ++ BitVec.ofBool mark : BitVec 2) ++ (value ++ 0#1 : BitVec 9)

/-- Three agreeing samples of a character with no error, sent after the line was at 1. -/
def cleanCharacter (value : Byte) (mark : Bool) : LineCharacter :=
  { lineRose := true, first := lineForm value mark, second := lineForm value mark
    third := lineForm value mark }

/-- The four sorts of delivered character (R2). -/
inductive CharacterSort where
  | fill
  | header (kind : Byte)
  | data (value : Byte)
  | inError (value : Byte)
  deriving DecidableEq, Repr

/-- The sort of a delivered character (R2). -/
def Character.sort (c : Character) : CharacterSort :=
  if c.error then .inError c.value
  else if c.mark then (if c.value = Config.fillValue then .fill else .header c.value)
  else .data c.value

/-! ## Numbers of several characters, most significant first (10 section 10.7) -/

/-- The number that characters spell. -/
def numberOf (bytes : List Byte) : Nat := bytes.foldl (fun n b => n * 256 + b.toNat) 0

/-- `k` characters that spell a number. -/
def charsOf : Nat → Nat → List Byte
  | 0, _ => []
  | k + 1, n => BitVec.ofNat 8 (n / 256 ^ k) :: charsOf k n

/-- A signed number of two characters, in two's complement. -/
def signedOf (bytes : List Byte) : Int := (BitVec.ofNat 16 (numberOf bytes)).toInt

/-- Two characters that spell a signed number. -/
def signedChars (z : Int) : List Byte := charsOf 2 (BitVec.ofInt 16 z).toNat

/-- The tag that six characters spell. -/
def tagOf (bytes : List Byte) : Tag := BitVec.ofNat 48 (numberOf bytes)

/-- The six characters of a tag. -/
def tagChars (t : Tag) : List Byte := charsOf 6 t.toNat

/-! ## The check -/

/-- One bit of the CRC of polynomial 0x1021 (R10). -/
def crcShift (crc : Half) : Half :=
  if crc.msb then (crc <<< 1) ^^^ 0x1021#16 else crc <<< 1

/-- The CRC after `n` bits. -/
def crcShifts : Nat → Half → Half
  | 0, crc => crc
  | n + 1, crc => crcShifts n (crcShift crc)

/-- The CRC after one character, most significant bit first (R10). -/
def crcChar (crc : Half) (b : Byte) : Half := crcShifts 8 (crc ^^^ (b ++ 0#8 : BitVec 16))

/-- The check over destination, source, length and body (R10). -/
def checkOf (chars : List Byte) : Half := chars.foldl crcChar 0xFFFF#16

/-! ## The envelope -/

/-- The frame kinds (01 section 1.4). -/
def kindSample : Byte := 0x10#8
/-- COMMAND. -/
def kindCommand : Byte := 0x20#8
/-- REPLY. -/
def kindReply : Byte := 0x21#8
/-- VERDICT. -/
def kindVerdict : Byte := 0x30#8
/-- ORDER. -/
def kindOrder : Byte := 0x31#8
/-- NOTICE. -/
def kindNotice : Byte := 0x32#8

/-- The characters the check covers (R10). -/
def coveredChars (destination source : Byte) (body : List Byte) : List Byte :=
  destination :: source :: BitVec.ofNat 8 body.length :: body

/-- A frame of the part's own making, with its check computed (R13). -/
def buildFrame (kind destination source : Byte) (body : List Byte) : Frame :=
  { kind := kind, destination := destination, source := source, body := body
    check := checkOf (coveredChars destination source body) }

/-- The characters of a frame on the ring, each with its mark flag (R16, R205). -/
def Frame.characters (f : Frame) : List (Byte × Bool) :=
  (f.kind, true) ::
    (coveredChars f.destination f.source f.body ++ charsOf 2 f.check.toNat).map fun b => (b, false)

/-! ## Field codes (R204) -/

/-- An optional grade's code: UNGRADED and NONE are 255. -/
def gradeCode : Option Grade → Nat
  | some g => g.rank
  | none => 255

/-- The grade of a code. -/
def gradeOf : Nat → Option Grade
  | 0 => some .a
  | 1 => some .b
  | 2 => some .c
  | 3 => some .d
  | 4 => some .reject
  | _ => none

/-- A grade that may be a ceiling or a minimum: A to D. -/
def ceilingOf : Nat → Option Grade
  | 0 => some .a
  | 1 => some .b
  | 2 => some .c
  | 3 => some .d
  | _ => none

/-- A metric's code. -/
def Metric.code : Metric → Nat
  | .cap => 0
  | .res => 1
  | .drift => 2
  | .heat => 3

/-- The metric of a code. -/
def metricOf : Nat → Option Metric
  | 0 => some .cap
  | 1 => some .res
  | 2 => some .drift
  | 3 => some .heat
  | _ => none

/-- A module state's code. -/
def ModuleState.code : ModuleState → Nat
  | .free => 0
  | .settling => 1
  | .testing => 2
  | .graded => 3
  | .pooled => 4
  | .assigned => 5
  | .inService => 6
  | .watch => 7
  | .outbound => 8
  | .held => 9

/-- A slot state's code. -/
def SlotRecord.code : SlotRecord → Nat
  | .unknown => 0
  | .empty => 1
  | .occupied _ => 2
  | .reserved _ _ => 3
  | .blocked => 4

/-- A table's code, which is also the place of its mask flag. -/
def Table.code : Table → Nat
  | .orig => 0
  | .rule => 1
  | .pcls => 2
  | .stat => 3
  | .bank => 4

/-- The table of a code. -/
def tableOf : Nat → Option Table
  | 0 => some .orig
  | 1 => some .rule
  | 2 => some .pcls
  | 3 => some .stat
  | 4 => some .bank
  | _ => none

/-- Whether a mask names a table (R191, R204). -/
def names (mask : BitVec 5) (t : Table) : Bool := mask.getLsbD t.code

/-- The statuses of a REPLY (R188). -/
inductive Status where
  | ok | accepted | malformed | unknownCommand | notPermitted | outOfRange | state | collision
  | notFound | late | full
  deriving DecidableEq, Repr

/-- A status's code. -/
def Status.code : Status → Nat
  | .ok => 0
  | .accepted => 1
  | .malformed => 2
  | .unknownCommand => 3
  | .notPermitted => 4
  | .outOfRange => 5
  | .state => 6
  | .collision => 7
  | .notFound => 8
  | .late => 9
  | .full => 10

/-- A yes or no field. -/
def flagOf : Nat → Option Bool
  | 0 => some false
  | 1 => some true
  | _ => none

/-- The code of a yes or no field. -/
def flagCode (b : Bool) : Nat := if b then 1 else 0

/-- A number below `n` as an index. -/
def indexOf (n k : Nat) : Option (Fin n) := if h : k < n then some ⟨k, h⟩ else none

/-! ## SAMPLE bodies -/

/-- The fields of a well-formed sample body (R23, R206): its sequence number, channel and content. -/
structure Sample where
  sequence : Byte
  channel  : Fin 8
  content  : Measurement
  deriving DecidableEq, Repr

/-- The content that follows sequence, channel and kind (R23, R206). -/
def contentOf (kind : Nat) (rest : List Byte) : Option Measurement :=
  match kind with
  | 1 =>
    match rest with
    | [t0, t1, t2, t3, t4, t5, c] =>
      if validTag (tagOf [t0, t1, t2, t3, t4, t5]) then
        (indexOf 16 c.toNat).map (Measurement.arrive (tagOf [t0, t1, t2, t3, t4, t5]))
      else none
    | _ => none
  | 2 =>
    match rest with
    | [] => some (.depart none)
    | [t0, t1, t2, t3, t4, t5] =>
      if validTag (tagOf [t0, t1, t2, t3, t4, t5]) then
        some (.depart (some (tagOf [t0, t1, t2, t3, t4, t5])))
      else none
    | _ => none
  | 3 =>
    match rest with
    | [m, v1, v0, w1, w0] =>
      if -400 ≤ signedOf [w1, w0] ∧ signedOf [w1, w0] ≤ 1250 then
        (metricOf m.toNat).map fun metric => .measure metric (numberOf [v1, v0]) (signedOf [w1, w0])
      else none
    | _ => none
  | _ => none

/-- A sample body read; none when the sample is malformed (R23). -/
def sampleOf : List Byte → Option Sample
  | q :: c :: k :: rest =>
    match indexOf 8 c.toNat, contentOf k.toNat rest with
    | some channel, some content => some { sequence := q, channel := channel, content := content }
    | _, _ => none
  | _ => none

/-! ## Table entries (R209) -/

/-- An Origin Class Table entry with its fields in range (R58). -/
def originClassOf : List Byte → Option OriginClass
  | [r1, r0, t, g, c] =>
    match ceilingOf c.toNat with
    | some ceiling =>
      if numberOf [r1, r0] ≤ 4095 ∧ 1 ≤ t.toNat then
        some { restCount := numberOf [r1, r0], residency := t.toNat, gapLimit := g.toNat
               ceiling := ceiling }
      else none
    | none => none
  | _ => none

/-- The applicability of a code (R209). -/
def applicabilityOf : Nat → Option Applicability
  | 0 => some .bay
  | 1 => some .service
  | 2 => some .both
  | _ => none

/-- The mode of a code (R209). -/
def ruleModeOf : Nat → Option RuleMode
  | 0 => some .absolute
  | 1 => some .relative
  | _ => none

/-- A window end, read by the mode of its rule (R66). Every two characters lie in the mode's range. -/
def windowOf (mode : RuleMode) (bytes : List Byte) : Int :=
  match mode with
  | .absolute => (numberOf bytes : Int)
  | .relative => signedOf bytes

/-- A qualifier in range: absent, or two temperatures in -400..+1250 (R66). The outer none is a field
out of range. -/
def qualifierOf (present : Bool) (low high : Int) : Option (Option Qualifier) :=
  if present then
    if -400 ≤ low ∧ low ≤ 1250 ∧ -400 ≤ high ∧ high ≤ 1250 then
      some (some { low := low, high := high })
    else none
  else some none

/-- A confirm count in range: 0 for absent, or 1..15 (R66, R209). -/
def confirmOf (n : Nat) : Option (Option Nat) :=
  if n = 0 then some none else if n ≤ 15 then some (some n) else none

/-- A grading rule with its fields in range (R66). -/
def gradingRuleOf : List Byte → Option GradingRule
  | [v, m1, m0, ap, me, mo, l1, l0, h1, h0, qp, ql1, ql0, qh1, qh0, g, cc] => do
    let valid ← flagOf v.toNat
    let applicability ← applicabilityOf ap.toNat
    let metric ← metricOf me.toNat
    let mode ← ruleModeOf mo.toNat
    let present ← flagOf qp.toNat
    let qualifier ← qualifierOf present (signedOf [ql1, ql0]) (signedOf [qh1, qh0])
    let grade ← gradeOf g.toNat
    let confirm ← confirmOf cc.toNat
    pure { valid := valid, originMask := BitVec.ofNat 16 (numberOf [m1, m0])
           applicability := applicability, metric := metric, mode := mode
           windowLow := windowOf mode [l1, l0], windowHigh := windowOf mode [h1, h0]
           qualifier := qualifier, grade := grade, confirm := confirm }
  | _ => none

/-- A Pairing Class Table entry with its fields in range (R147). -/
def pairingClassOf : List Byte → Option PairingClass
  | [g, ct1, ct0, rt1, rt0, cw, rw, rm, fl, fp, rp, wc] =>
    match ceilingOf g.toNat with
    | some minimum =>
      if cw.toNat ≤ 15 ∧ rw.toNat ≤ 15 ∧ rm.toNat ≤ 16 ∧ fp.toNat ≤ 3 ∧ rp.toNat ≤ 3 ∧
          1 ≤ wc.toNat ∧ wc.toNat ≤ 15 then
        some { minimum := minimum, capTolerance := numberOf [ct1, ct0]
               resTolerance := numberOf [rt1, rt0], capWeight := cw.toNat, resWeight := rw.toNat
               referenceMinimum := rm.toNat, flags := fl, fillPriority := fp.toNat
               replacePriority := rp.toNat, watchConfirm := wc.toNat }
      else none
    | none => none
  | _ => none

/-- The role of a code (R209). -/
def roleOf : Nat → Option Role
  | 0 => some .testBay
  | 1 => some .bank
  | 2 => some .ignore
  | _ => none

/-- The most channels a role allows (02 section 2.1). -/
def Role.channelMax : Role → Nat
  | .testBay => 4
  | .bank => 8
  | .ignore => 8

/-- A Station Table entry with its fields in range (R18). -/
def stationOf : List Byte → Option Station
  | [v, a, r, st, b, c] => do
    let valid ← flagOf v.toNat
    let role ← roleOf r.toNat
    let string ← indexOf 8 st.toNat
    let base ← indexOf 16 b.toNat
    if a.toNat ≤ 254 ∧ 1 ≤ c.toNat ∧ c.toNat ≤ role.channelMax then
      pure { valid := valid, address := a, role := role, string := string, basePosition := base
             channelCount := c.toNat }
    else none
  | _ => none

/-- The rest unit of a code (R209). -/
def restUnitOf : Nat → Option RestUnit
  | 0 => some .s1
  | 1 => some .s10
  | 2 => some .s60
  | _ => none

/-- The policy of a code (R209). -/
def policyOf : Nat → Option Policy
  | 0 => some .arrival
  | 1 => some .priority
  | _ => none

/-- The controller address of a character: 255 is ANY (R209). -/
def controllerOf (b : Byte) : Option Byte := if b = Config.broadcast then none else some b

/-- Bank Settings with their fields in range (R60, R107, R146, R173). -/
def bankSettingsOf : List Byte → Option BankSettings
  | [n, p, c0, c1, c2, c3, c4, c5, c6, c7, ru, po, d1, d0, ctl] => do
    let k0 ← indexOf 8 c0.toNat
    let k1 ← indexOf 8 c1.toNat
    let k2 ← indexOf 8 c2.toNat
    let k3 ← indexOf 8 c3.toNat
    let k4 ← indexOf 8 c4.toNat
    let k5 ← indexOf 8 c5.toNat
    let k6 ← indexOf 8 c6.toNat
    let k7 ← indexOf 8 c7.toNat
    let unit ← restUnitOf ru.toNat
    let policy ← policyOf po.toNat
    if n.toNat ≤ 8 ∧ 1 ≤ p.toNat ∧ p.toNat ≤ 16 ∧ 1 ≤ numberOf [d1, d0] ∧
        numberOf [d1, d0] ≤ 4095 then
      pure { stringsInUse := n.toNat, positions := p.toNat
             classes := #v[k0, k1, k2, k3, k4, k5, k6, k7], restUnit := unit, policy := policy
             orderDeadline := numberOf [d1, d0], controller := controllerOf ctl }
    else none
  | _ => none

/-- Number of entries of a table (R190). -/
def Table.size : Table → Nat
  | .orig => 16
  | .rule => 96
  | .pcls => 8
  | .stat => 32
  | .bank => 1

/-- Characters of one entry of a table in LOAD, its index included (R209). -/
def Table.entrySize : Table → Nat
  | .orig => 6
  | .rule => 18
  | .pcls => 13
  | .stat => 7
  | .bank => 16

/-- The table a chunk name stands for (R209). -/
def chunkTable (n0 n1 n2 n3 : Byte) : Option Table :=
  if [n0, n1, n2, n3] = [0x4F#8, 0x52#8, 0x49#8, 0x47#8] then some .orig
  else if [n0, n1, n2, n3] = [0x52#8, 0x55#8, 0x4C#8, 0x45#8] then some .rule
  else if [n0, n1, n2, n3] = [0x50#8, 0x43#8, 0x4C#8, 0x53#8] then some .pcls
  else if [n0, n1, n2, n3] = [0x53#8, 0x54#8, 0x41#8, 0x54#8] then some .stat
  else if [n0, n1, n2, n3] = [0x42#8, 0x41#8, 0x4E#8, 0x4B#8] then some .bank
  else none

/-- A write of one shadow entry (R190). -/
inductive EntryWrite where
  | orig (i : Fin 16) (e : OriginClass)
  | rule (i : Fin 96) (e : GradingRule)
  | pcls (i : Fin 8) (e : PairingClass)
  | stat (i : Fin 32) (e : Station)
  | bank (e : BankSettings)
  deriving DecidableEq, Repr

/-- One entry of a chunk, its index and fields checked against their ranges (R190). -/
def entryWriteOf (t : Table) : List Byte → Option EntryWrite
  | i :: fields =>
    match t with
    | .orig => do
      let k ← indexOf 16 i.toNat
      let e ← originClassOf fields
      pure (.orig k e)
    | .rule => do
      let k ← indexOf 96 i.toNat
      let e ← gradingRuleOf fields
      pure (.rule k e)
    | .pcls => do
      let k ← indexOf 8 i.toNat
      let e ← pairingClassOf fields
      pure (.pcls k e)
    | .stat => do
      let k ← indexOf 32 i.toNat
      let e ← stationOf fields
      pure (.stat k e)
    | .bank => if i.toNat = 0 then (bankSettingsOf fields).map EntryWrite.bank else none
  | [] => none

/-- The tables with one entry written. -/
def Tables.write (t : Tables) : EntryWrite → Tables
  | .orig i e => { t with orig := put t.orig i e }
  | .rule i e => { t with rule := put t.rule i e }
  | .pcls i e => { t with pcls := put t.pcls i e }
  | .stat i e => { t with stat := put t.stat i e }
  | .bank e => { t with bank := e }

/-- A chunk of a LOAD body (R189): its ordinal from 1, its table (none for an unknown name) and its
entries' characters. -/
structure Chunk where
  ordinal : Nat
  table   : Option Table
  chars   : List Byte
  deriving DecidableEq, Repr

/-- The chunks of a LOAD body, or the ordinal of the first whose structure fails (R189). The fuel is
the length of the body, and every chunk takes at least five characters of it. -/
def chunksOf : Nat → Nat → List Byte → Except Nat (List Chunk)
  | _, _, [] => .ok []
  | fuel + 1, ordinal, n0 :: n1 :: n2 :: n3 :: len :: rest =>
    if rest.length < len.toNat then .error ordinal
    else
      match chunkTable n0 n1 n2 n3 with
      | some t =>
        if len.toNat % t.entrySize ≠ 0 then .error ordinal
        else
          match chunksOf fuel (ordinal + 1) (rest.drop len.toNat) with
          | .error k => .error k
          | .ok cs => .ok ({ ordinal := ordinal, table := some t, chars := rest.take len.toNat } :: cs)
      | none =>
        match chunksOf fuel (ordinal + 1) (rest.drop len.toNat) with
        | .error k => .error k
        | .ok cs => .ok ({ ordinal := ordinal, table := none, chars := rest.take len.toNat } :: cs)
  | _, ordinal, _ => .error ordinal

/-- Characters cut into pieces of `size`, with the number of characters as fuel. -/
def piecesOf (size : Nat) : Nat → List Byte → List (List Byte)
  | _, [] => []
  | 0, _ => []
  | fuel + 1, bytes => bytes.take size :: piecesOf size fuel (bytes.drop size)

/-- The entries of a chunk of a known name, each with its chunk's ordinal and its table. -/
def Chunk.entries (c : Chunk) : List (Nat × Table × List Byte) :=
  match c.table with
  | some t => (piecesOf t.entrySize c.chars.length c.chars).map fun e => (c.ordinal, t, e)
  | none => []

/-! ## Bodies the part originates

A character of a body is known, or left open by the manual (log 8). -/

/-- A character of a body being built: `none` is a character the manual does not state. -/
abbrev BodyChar := Option Byte

/-- One known character. -/
def one (n : Nat) : List BodyChar := [some (BitVec.ofNat 8 n)]

/-- Known characters. -/
def known (bytes : List Byte) : List BodyChar := bytes.map some

/-- `n` characters the manual does not state. -/
def unstated (n : Nat) : List BodyChar := List.replicate n none

/-- A body with its open characters drawn from the free value, from count `n` on (log 8). -/
def fillIn : Nat → List BodyChar → List Byte
  | _, [] => []
  | n, some b :: cs => b :: fillIn n cs
  | n, none :: cs => Config.freeByte n :: fillIn (n + 1) cs

/-- How many characters of a body are open (log 8). -/
def openCount (cs : List BodyChar) : Nat := (cs.filter Option.isNone).length

/-- Sixteen-bit number in two characters. -/
def two (n : Nat) : List BodyChar := known (charsOf 2 n)

/-- The characters of an Origin Class Table entry after its index (R209). -/
def originClassChars (e : OriginClass) : List BodyChar :=
  two e.restCount ++ one e.residency ++ one e.gapLimit ++ one e.ceiling.rank

/-- Codes of applicability and mode (R209). -/
def Applicability.code : Applicability → Nat
  | .bay => 0
  | .service => 1
  | .both => 2

/-- Code of a rule mode (R209). -/
def RuleMode.code : RuleMode → Nat
  | .absolute => 0
  | .relative => 1

/-- The characters of a qualifier: absent temperatures are returned as 0 (R66). -/
def qualifierChars : Option Qualifier → List BodyChar
  | some q => one 1 ++ known (signedChars q.low) ++ known (signedChars q.high)
  | none => one 0 ++ two 0 ++ two 0

/-- The characters of a grading rule after its index (R209). -/
def gradingRuleChars (r : GradingRule) : List BodyChar :=
  one (flagCode r.valid) ++ two r.originMask.toNat ++ one r.applicability.code ++ one r.metric.code ++
    one r.mode.code ++ known (signedChars r.windowLow) ++ known (signedChars r.windowHigh) ++
    qualifierChars r.qualifier ++ one r.grade.rank ++ one (r.confirm.getD 0)

/-- The characters of a Pairing Class Table entry after its index (R209). -/
def pairingClassChars (e : PairingClass) : List BodyChar :=
  one e.minimum.rank ++ two e.capTolerance ++ two e.resTolerance ++ one e.capWeight ++
    one e.resWeight ++ one e.referenceMinimum ++ one e.flags.toNat ++ one e.fillPriority ++
    one e.replacePriority ++ one e.watchConfirm

/-- Code of a role (R209). -/
def Role.code : Role → Nat
  | .testBay => 0
  | .bank => 1
  | .ignore => 2

/-- The characters of a Station Table entry after its index (R209). -/
def stationChars (e : Station) : List BodyChar :=
  one (flagCode e.valid) ++ one e.address.toNat ++ one e.role.code ++ one e.string.val ++
    one e.basePosition.val ++ one e.channelCount

/-- Code of a rest unit (R209). -/
def RestUnit.code : RestUnit → Nat
  | .s1 => 0
  | .s10 => 1
  | .s60 => 2

/-- Code of a policy (R209). -/
def Policy.code : Policy → Nat
  | .arrival => 0
  | .priority => 1

/-- The controller address as a character: ANY is 255 (R209), which is also the broadcast address that
originated frames then carry (R13). -/
def controllerChar (c : Option Byte) : Byte := c.getD Config.broadcast

/-- The characters of Bank Settings after the index (R209). -/
def bankSettingsChars (b : BankSettings) : List BodyChar :=
  one b.stringsInUse ++ one b.positions ++ b.classes.toList.flatMap (fun c => one c.val) ++
    one b.restUnit.code ++ one b.policy.code ++ two b.orderDeadline ++
    known [controllerChar b.controller]

/-- The live fields that follow an active Station Table entry (R207, after R209): an absent sequence is
255 (R204); the generation of an absent occupant is not stated (log 8). -/
def liveChars (l : StationLive) : List BodyChar :=
  (match l.lastSequence with
   | some q => one 1 ++ known [q]
   | none => one 0 ++ one 255) ++
  one l.lostCount ++
  l.bays.toList.flatMap (fun o =>
    match o with
    | some m => one m.index.val ++ known [m.generation]
    | none => one 255 ++ unstated 1)

/-- One evidence set in QUERY-MODULE (R207): an absent candidate is 255; an absent last value has no
stated characters (log 8). -/
def evidenceChars (e : Evidence) : List BodyChar :=
  one (gradeCode e.grade) ++ one (match e.candidate with | some r => r.val | none => 255) ++
    one e.runCount ++ one e.confirmations ++ one e.unmatched ++
    (match e.lastValue with
     | some v => one 1 ++ two v
     | none => one 0 ++ unstated 2)

/-- The location field of a module record (R207): the characters after an absent form are not stated
(log 8). -/
def locationChars : Location → List BodyChar
  | .absent => one 0 ++ unstated 2
  | .bay b => one 1 ++ one b.entry.val ++ one b.channel.val
  | .slot p => one 2 ++ one p.string.val ++ one p.position.val

/-- Code of a verdict kind (R207, R208). -/
def VerdictKind.code : VerdictKind → Nat
  | .graded => 1
  | .abandoned => 2

/-- The verdict field of a module record (R207): an absent sequence is the code 255 of R204 in two
characters (log 11). -/
def verdictChars : Option Verdict → List BodyChar
  | some v => one v.kind.code ++ two v.sequence.toNat
  | none => one 0 ++ two 255

/-- The 59 characters of a module record (R207). -/
def moduleRecordChars (i : ModuleIndex) (r : ModuleRecord) (onWaitList : Bool) : List BodyChar :=
  one i.val ++ known [r.generation] ++ one r.state.code ++ known (tagChars r.tag) ++
    one r.originClass.val ++ known (charsOf 4 r.arrival) ++ locationChars r.location ++
    one r.gapCount ++ one (gradeCode r.resolved) ++ one (flagCode r.provisional) ++
    one r.watchCount ++ verdictChars r.verdict ++ one (flagCode r.departed) ++
    one (match r.order with | some o => o.val | none => 255) ++ one (flagCode onWaitList) ++
    evidenceChars r.evidence.cap ++ evidenceChars r.evidence.res ++
    evidenceChars r.evidence.drift ++ evidenceChars r.evidence.heat

/-- A reference in QUERY-SLOT (R207): with a count of 0 its value is not stated (log 8). -/
def referenceChars (r : Reference) : List BodyChar :=
  (match r.value with
   | some v => two v
   | none => unstated 2) ++ one r.count

/-- The 7 characters of a string record (R207). -/
def stringRecordChars (r : StringRecord) : List BodyChar :=
  one r.pairingClass.val ++ referenceChars r.cap ++ referenceChars r.res

/-- Code of a request kind (R207). -/
def RequestKind.code : RequestKind → Nat
  | .fill => 1
  | .replace => 2
  | .remove => 3

/-- Code of a request status (R207). -/
def RequestStatus.code : RequestStatus → Nat
  | .ready => 0
  | .waiting => 1
  | .selected => 2

/-- The 13 characters of a slot entry (R125, R207): position, state, the module shown, the order number
shown, the request. The order number and the request status are not stated when absent (log 8). -/
def slotEntryChars (position : Fin 16) (x : SlotRecord) (module : Option (ModuleRef × Tag))
    (number : Option Byte) (request : Option Request) : List BodyChar :=
  one position.val ++ one x.code ++
    (match module with
     | some (m, t) => one m.index.val ++ known [m.generation] ++ known (tagChars t)
     | none => one 255 ++ one 255 ++ known (tagChars 0)) ++
    (match number with
     | some k => known [k]
     | none => unstated 1) ++
    (match request with
     | some q => one q.kind.code ++ one q.status.code
     | none => one 0 ++ unstated 1)

/-- Code of an order kind (R208). -/
def OrderWork.code : OrderWork → Nat
  | .insert _ => 1
  | .swap _ _ => 2
  | .remove _ => 3

/-- The VERDICT body of a record (R94, R208). -/
def verdictBody (v : Verdict) (r : ModuleRecord) : List Byte :=
  charsOf 2 v.sequence.toNat ++ charsOf 1 v.kind.code ++ tagChars r.tag ++ charsOf 1 r.originClass.val ++
    charsOf 1 (gradeCode r.resolved) ++ charsOf 1 (flagCode r.provisional) ++
    charsOf 1 (gradeCode r.evidence.cap.grade) ++ charsOf 1 (gradeCode r.evidence.res.grade) ++
    charsOf 1 (gradeCode r.evidence.drift.grade) ++ charsOf 1 (gradeCode r.evidence.heat.grade) ++
    charsOf 1 r.evidence.cap.confirmations ++ charsOf 1 r.evidence.res.confirmations ++
    charsOf 1 r.evidence.drift.confirmations ++ charsOf 1 r.evidence.heat.confirmations ++
    charsOf 1 r.gapCount

/-- The ORDER body of an order (R174, R208), from the tags of the modules it names; an absent tag is
000000000000 (R204). -/
def orderBody (o : Order) (incoming outgoing : Option Tag) : List Byte :=
  [o.number] ++ charsOf 1 o.work.code ++ charsOf 1 o.slot.string.val ++ charsOf 1 o.slot.position.val ++
    tagChars (incoming.getD 0) ++ tagChars (outgoing.getD 0)

/-- Table, failure and place of a refused commit (R204, R208). -/
def failureChars : CommitFailure → List Byte
  | .duplicateAddress e => charsOf 1 Table.stat.code ++ charsOf 1 1 ++ charsOf 1 e.val
  | .slotRange e => charsOf 1 Table.stat.code ++ charsOf 1 2 ++ charsOf 1 e.val
  | .slotOverlap e => charsOf 1 Table.stat.code ++ charsOf 1 3 ++ charsOf 1 e.val
  | .relativeMetric r => charsOf 1 Table.rule.code ++ charsOf 1 4 ++ charsOf 1 r.val
  | .windowOrder r => charsOf 1 Table.rule.code ++ charsOf 1 5 ++ charsOf 1 r.val
  | .temperatureOrder r => charsOf 1 Table.rule.code ++ charsOf 1 6 ++ charsOf 1 r.val
  | .geometryReduction p =>
    charsOf 1 Table.bank.code ++ charsOf 1 7 ++ charsOf 1 p.string.val ++ charsOf 1 p.position.val

/-- The characters of a notice argument before padding (R208). -/
def argumentChars : NoticeArgument → List Byte
  | .registerFull t => tagChars t
  | .tagConflict t st => tagChars t ++ charsOf 1 st.code
  | .ruleHole i m => charsOf 1 i.val ++ charsOf 1 m.code
  | .orderExpired n => [n]
  | .linkRelock k => charsOf 2 k
  | .commitTaken m => charsOf 1 m.toNat
  | .commitRefused f => failureChars f
  | .stringWaiting p => charsOf 1 p.string.val ++ charsOf 1 p.position.val

/-- Eight characters, padded with 0 (R208). -/
def padded (bytes : List Byte) : List Byte := bytes ++ List.replicate (8 - bytes.length) 0#8

/-- The NOTICE body of an entry (R202, R208). -/
def noticeBody (n : Notice) : List Byte :=
  charsOf 1 n.argument.kindCode ++ charsOf 1 n.count ++ padded (argumentChars n.argument)

end Sys2Proof.Machine
end

