-- ==== Sys2Proof/Machine/Pool.lean ====
section
/-! DEFINITION. The Slot Request Queue and its wakes (R133 to R139), the Candidate Pool and the
pool-wait list (R127 to R132), and the stale mark they set (R158). -/

namespace Sys2Proof.Machine

/-! ## The Slot Request Queue -/

/-- The request of a slot, if it has one (R134). -/
def State.request (s : State) (p : SlotId) : Option Request :=
  s.pe.requests.find? fun q => decide (q.slot = p)

/-- The state with the queue's requests replaced. -/
def State.setRequests (s : State) (qs : List Request) : State :=
  { s with pe := { s.pe with requests := qs } }

/-- The request of one slot changed in its place (R134). -/
def State.updateRequest (s : State) (p : SlotId) (f : Request → Request) : State :=
  s.setRequests (s.pe.requests.map fun q => if q.slot = p then f q else q)

/-- Withdrawal of a slot's request, of any kind and status (R138). -/
def State.withdraw (s : State) (p : SlotId) : State :=
  s.setRequests (s.pe.requests.filter fun q => decide (q.slot ≠ p))

/-- A WAITING request made READY, its age and place kept (R139). -/
def Request.woken (q : Request) : Request :=
  match q.status with
  | .waiting => { q with status := .ready }
  | .ready | .selected => q

/-- Every WAITING request made READY (R133, R139). -/
def State.wakeAll (s : State) : State := s.setRequests (s.pe.requests.map Request.woken)

/-- Every WAITING request of one string made READY (R112, R139). -/
def State.wakeString (s : State) (i : Fin 8) : State :=
  s.setRequests (s.pe.requests.map fun q => if q.slot.string = i then q.woken else q)

/-- The priority of a request by its kind and its string's class (R135). -/
def requestPriority (c : PairingClass) : RequestKind → Nat
  | .fill => c.fillPriority
  | .replace => c.replacePriority
  | .remove => 3

/-- Whether a slot's state fits a request of a kind: EMPTY for FILL, OCCUPIED for REPLACE and REMOVE
(R116, R136). -/
def slotFits (x : SlotRecord) : RequestKind → Bool
  | .fill => decide (x = .empty)
  | .replace | .remove =>
    match x with
    | .occupied _ => true
    | .unknown | .empty | .reserved _ _ | .blocked => false

/-- A new request at the end of the queue, with the next age (R134, R135). -/
def State.createRequest (s : State) (p : SlotId) (k : RequestKind) (status : RequestStatus) : State :=
  { s with pe := { s.pe with
      requests := s.pe.requests ++
        [{ slot := p, kind := k, priority := requestPriority (s.classOf p.string) k
           age := s.pe.ageCounter, status := status }]
      ageCounter := s.pe.ageCounter + 1 } }

/-- A raise for a slot that fits, by the slot's existing request (R99, R136). -/
def State.raiseFitting (s : State) (p : SlotId) (k : RequestKind) (status : RequestStatus) : State :=
  match s.request p with
  | none => s.createRequest p k status
  | some q =>
    if q.kind = .replace ∧ k = .remove then
      s.updateRequest p fun q => { q with kind := .remove, priority := 3 }
    else s

/-- A request raised for a slot (R136): nothing when the slot is out of use or its state does not fit
the kind (R116). -/
def State.raiseRequest (s : State) (p : SlotId) (k : RequestKind) (status : RequestStatus) : State :=
  if s.slotInUse p && slotFits (s.slot p) k then s.raiseFitting p k status else s

/-! ## The stale mark -/

/-- A choice with its stale mark set; a REMOVE choice does not use it (R158). -/
def Choice.marked (c : Choice) : Choice :=
  match c.kind with
  | .fill | .replace => { c with stale := true }
  | .remove => c

/-- The state with the choice in progress replaced. -/
def State.setChoice (s : State) (c : Option Choice) : State := { s with pe := { s.pe with choice := c } }

/-- The stale mark set by an entry to the pool (R158). -/
def State.markPoolEntry (s : State) : State := s.setChoice (s.pe.choice.map Choice.marked)

/-- The stale mark set by a change of a string's references (R158). -/
def State.markReferences (s : State) (i : Fin 8) : State :=
  s.setChoice (s.pe.choice.map fun c => if c.slot.string = i then c.marked else c)

/-! ## The Candidate Pool and the pool-wait list -/

/-- The pool key (R128): grade, then the provisional mark, then the arrival number. -/
def keyBefore (x y : ModuleRecord) : Bool :=
  let gx := gradeCode x.resolved
  let gy := gradeCode y.resolved
  let px := flagCode x.provisional
  let py := flagCode y.provisional
  decide (gx < gy) ||
    (decide (gx = gy) && (decide (px < py) || (decide (px = py) && decide (x.arrival < y.arrival))))

/-- The place of an index in an ordered list, by the keys the records have now (R128, R131). -/
def State.insertByKey (s : State) (i : ModuleIndex) (l : List ModuleIndex) : List ModuleIndex :=
  insertOrdered (fun x y => keyBefore (s.record x) (s.record y)) i l

/-- The state with the pool's members replaced. -/
def State.setPool (s : State) (l : List ModuleIndex) : State := { s with pe := { s.pe with pool := l } }

/-- The state with the pool-wait list replaced. -/
def State.setPoolWait (s : State) (l : List ModuleIndex) : State :=
  { s with pe := { s.pe with poolWait := l } }

/-- A record as it enters the pool (R129). -/
def ModuleRecord.pooled (r : ModuleRecord) : ModuleRecord :=
  { r with state := .pooled, departed := false, location := .absent, watchCount := 0, order := none }

/-- Entry of a record to the Candidate Pool (R129): at the position its key gives; every WAITING request
becomes READY (R133) and the stale mark is set (R158). -/
def State.enterPool (s : State) (i : ModuleIndex) : State :=
  let t := s.setRecord i (s.record i).pooled
  ((t.setPool (t.insertByKey i t.pe.pool)).markPoolEntry).wakeAll

/-- A record as it becomes GRADED pool-waiting (R130). -/
def ModuleRecord.waitsForPool (r : ModuleRecord) : ModuleRecord :=
  { r with state := .graded, departed := true, location := .absent, verdict := none, watchCount := 0
           order := none }

/-- Entry to the pool-wait list (R130, R131); it wakes nothing (R133). -/
def State.enterPoolWait (s : State) (i : ModuleIndex) : State :=
  let t := s.setRecord i (s.record i).waitsForPool
  t.setPoolWait (t.insertByKey i t.pe.poolWait)

/-- Whether the pool has room (R127). -/
def State.poolHasRoom (s : State) : Bool := decide (s.pe.pool.length < Config.poolRoom)

/-- Entry to the pool, or to the pool-wait list when the pool is full (R52, R130). -/
def State.enterPoolOrWait (s : State) (i : ModuleIndex) : State :=
  if s.poolHasRoom then s.enterPool i else s.enterPoolWait i

/-- The promotion that follows a member's departure (R131): the first pool-waiting record enters. -/
def State.promote (s : State) : State :=
  match s.pe.poolWait with
  | [] => s
  | i :: rest => (s.setPoolWait rest).enterPool i

/-- A member leaves the pool, without the promotion that follows (R129). -/
def State.dropFromPool (s : State) (i : ModuleIndex) : State := s.setPool (s.pe.pool.erase i)

/-- A member leaves the pool and the first pool-waiting record takes its place, in one event (R131). -/
def State.leavePool (s : State) (i : ModuleIndex) : State := (s.dropFromPool i).promote

/-- A record leaves the pool-wait list without entering the pool (R132). -/
def State.leavePoolWait (s : State) (i : ModuleIndex) : State := s.setPoolWait (s.pe.poolWait.erase i)

end Sys2Proof.Machine
end

