-- ==== Sys2Proof/Machine/Strings.lean ====
section
/-! DEFINITION. The references of a string (R111 to R113). -/

namespace Sys2Proof.Machine

/-- The last value of a metric of the module in a slot, when the slot is OCCUPIED and the value present
(R111). -/
def State.slotValue (s : State) (m : Metric) (p : SlotId) : Option Nat :=
  match s.slot p with
  | .occupied x => ((s.record x.index).evidence.get m).lastValue
  | .unknown | .empty | .reserved _ _ | .blocked => none

/-- The last values that count for a string's reference of a metric, with one slot left out when one is
named (R111, R113). -/
def State.referenceValues (s : State) (m : Metric) (i : Fin 8) (leftOut : Option SlotId) : List Nat :=
  positions.filterMap fun p =>
    if leftOut = some { string := i, position := p } then none
    else s.slotValue m { string := i, position := p }

/-- The reference of values: their sum divided by their count, rounded down; absent without any (R111). -/
def referenceOf (values : List Nat) : Reference :=
  match values with
  | [] => { value := none, count := 0 }
  | v :: vs => { value := some ((v :: vs).sum / (v :: vs).length), count := (v :: vs).length }

/-- A string's reference computed from the slots as they stand (R111, R113). -/
def State.computeReference (s : State) (m : Metric) (i : Fin 8) (leftOut : Option SlotId) : Reference :=
  referenceOf (s.referenceValues m i leftOut)

/-- A string's references recomputed, both metrics together (R112): when any of the four fields changed,
the string's WAITING requests become READY and the stale mark of a choice for the string is set. -/
def State.recompute (s : State) (i : Fin 8) : State :=
  let cap := s.computeReference .cap i none
  let res := s.computeReference .res i none
  if (s.string i).cap = cap ∧ (s.string i).res = res then s
  else ((s.setString i { s.string i with cap := cap, res := res }).markReferences i).wakeString i

end Sys2Proof.Machine
end

