-- ==== Sys2Proof/Machine/Pairing.lean ====
section
/-! DEFINITION. Selection (R143 to R145), the beginning of a choice (R150 to R152), its tests and score
(R149, R153 to R156) and its scan. -/

namespace Sys2Proof.Machine

/-! ## Selection -/

/-- The FREE Order Table record of lowest index (R145). -/
def State.freeOrder (s : State) : Option OrderIndex := lowest (fun r => decide (r = .free)) s.ot.table

/-- The oldest READY request (R144, ARRIVAL). -/
def oldestReady (qs : List Request) : Option Request := qs.find? fun q => decide (q.status = .ready)

/-- The READY request of highest priority, the oldest among equals (R144, PRIORITY). -/
def highestReady : List Request → Option Request
  | [] => none
  | q :: qs =>
    match highestReady qs with
    | none => if q.status = .ready then some q else none
    | some best =>
      if q.status = .ready ∧ best.priority ≤ q.priority then some q else some best

/-- The request that a policy selects (R144). -/
def selected (p : Policy) (qs : List Request) : Option Request :=
  match p with
  | .arrival => oldestReady qs
  | .priority => highestReady qs

/-- The conditions of R143. -/
def State.selectionDue (s : State) : Bool :=
  decide (s.mu.mode = .run) && s.pe.choice.isNone && s.mu.pendingCommit.isNone && s.freeOrder.isSome &&
    (oldestReady s.pe.requests).isSome

/-- The member list: every pool member in pool order with what the scan reads of it (R152). -/
def State.memberList (s : State) : List Member :=
  s.pe.pool.map fun i =>
    { module := s.refOf i, resolved := (s.record i).resolved
      capValue := (s.record i).evidence.cap.lastValue
      resValue := (s.record i).evidence.res.lastValue }

/-- The slot a choice leaves out of its references: the slot being replaced (R113, R151). -/
def leftOutFor (k : RequestKind) (p : SlotId) : Option SlotId :=
  match k with
  | .replace => some p
  | .fill | .remove => none

/-- The reference a choice takes: stored for FILL, recomputed without the slot for REPLACE, none for
REMOVE (R151). -/
def State.choiceReference (s : State) (m : Metric) (k : RequestKind) (p : SlotId) : Reference :=
  match k, m with
  | .fill, .cap => (s.string p.string).cap
  | .fill, .res => (s.string p.string).res
  | .replace, _ => s.computeReference m p.string (leftOutFor k p)
  | _, _ => .absent

/-- The choice that begins for a request with a reserved Order Table record (R145, R150). -/
def State.beginChoice (s : State) (q : Request) (o : OrderIndex) : Choice :=
  { age := q.age, kind := q.kind, slot := q.slot, noted := s.slot q.slot, order := o
    cls := s.classOf q.slot.string
    capReference := s.choiceReference .cap q.kind q.slot
    resReference := s.choiceReference .res q.kind q.slot
    members := if q.kind = .remove then [] else s.memberList
    scanPosition := 0, best := none, stale := false }

/-- A selection by a policy (R143 to R145): the request becomes SELECTED, the lowest FREE Order Table
record RESERVED-FOR-CHOICE, and the choice begins, in one event; nothing when it is not due. -/
def State.select (s : State) (p : Policy) : State :=
  if s.selectionDue then
    match selected p s.pe.requests, s.freeOrder with
    | some q, some o =>
      ((s.setOrder o (.reservedForChoice q.slot)).updateRequest q.slot
        fun q => { q with status := .selected }).setChoice (some (s.beginChoice q o))
    | _, _ => s
  else s

/-- The selection made at any moment but the completion of a choice (R144): by the active policy. -/
def State.selectIfDue (s : State) : State := s.select s.mu.active.bank.policy

/-! ## Tests, eligibility and score -/

/-- Whether a test is transparent (R153). -/
def transparent (c : PairingClass) (r : Reference) : Bool :=
  decide (r.count < c.referenceMinimum) || decide (r.count = 0)

/-- The distance of a last value from a reference (R154). -/
def distance (value reference : Option Nat) : Option Nat :=
  match value, reference with
  | some v, some r => some (magnitude v r)
  | _, _ => none

/-- A CAP or RES test (R154). -/
def toleranceTest (c : PairingClass) (r : Reference) (tolerance : Nat) (value : Option Nat) : Bool :=
  transparent c r ||
    (match distance value r.value with
     | some d => decide (d ≤ tolerance)
     | none => false)

/-- The GRADE test (R154). -/
def gradeTest (c : PairingClass) (g : Option Grade) : Bool :=
  match g with
  | some g => g.atLeast c.minimum
  | none => false

/-- The number of the flag for a combination of test results (R149). -/
def flagNumber (cap res grade : Bool) : Nat := flagCode cap + 2 * flagCode res + 4 * flagCode grade

/-- The flag number of a member (R149, R154). -/
def Choice.flagOfMember (c : Choice) (m : Member) : Nat :=
  flagNumber (toleranceTest c.cls c.capReference c.cls.capTolerance m.capValue)
    (toleranceTest c.cls c.resReference c.cls.resTolerance m.resValue)
    (gradeTest c.cls m.resolved)

/-- Whether a member is eligible (R149). -/
def Choice.eligible (c : Choice) (m : Member) : Bool := c.cls.flags.getLsbD (c.flagOfMember m)

/-- A term of the score (R155). -/
def scoreTerm (c : PairingClass) (r : Reference) (weight : Nat) (value : Option Nat) : Nat :=
  if transparent c r then 0 else weight * (distance value r.value).getD 65535

/-- The score of a member (R155). -/
def Choice.score (c : Choice) (m : Member) : Nat :=
  scoreTerm c.cls c.capReference c.cls.capWeight m.capValue +
    scoreTerm c.cls c.resReference c.cls.resWeight m.resValue

/-- The best so far after one member (R156): an equal score does not replace it. -/
def Choice.better (c : Choice) (best : Option Best) (m : Member) : Option Best :=
  if c.eligible m then
    match best with
    | none => some { module := m.module, score := c.score m }
    | some b => if c.score m < b.score then some { module := m.module, score := c.score m } else some b
  else best

/-- The candidate that stands as best at the end of the scan, from the scan position on (R156). -/
def Choice.chosen (c : Choice) : Option Best :=
  (c.members.drop c.scanPosition).foldl c.better c.best

/-- The scan moved on by one member (R150). -/
def Choice.scanOne (c : Choice) : Choice :=
  match c.members[c.scanPosition]? with
  | some m => { c with scanPosition := c.scanPosition + 1, best := c.better c.best m }
  | none => c

end Sys2Proof.Machine
end

