-- ==== Sys2Proof/Machine/Register.lean ====
section
/-! DEFINITION. Arrival and departure of modules (R44 to R53), verdicts made (R50, R92, R93), and the
Grading Engine's settle timers (R60 to R64). -/

namespace Sys2Proof.Machine

/-! ## Verdicts -/

/-- The verdict sequence counter advanced, wrapping (R93). -/
def State.stepVerdicts (s : State) : State :=
  { s with ge := { s.ge with verdictCounter := s.ge.verdictCounter + 1 } }

/-- A standing VERDICT claim raised behind those that stand (R14, R42). -/
def State.claimVerdict (s : State) (i : ModuleIndex) : State :=
  { s with rp := { s.rp with verdictClaims := s.rp.verdictClaims ++ [i] } }

/-- A verdict made (R92, R93): the record takes the kind with the next verdict sequence, and its VERDICT
claim is raised. -/
def State.makeVerdict (s : State) (i : ModuleIndex) (k : VerdictKind) : State :=
  ((s.setRecord i { s.record i with
    verdict := some { kind := k, sequence := s.ge.verdictCounter } }).stepVerdicts).claimVerdict i

/-! ## Departure -/

/-- A record made FREE (R35). -/
def State.freeRecord (s : State) (i : ModuleIndex) : State := s.setRecord i (s.record i).freed

/-- What becomes of a departed GRADED record with no verdict pending (R52). -/
def State.goOn (s : State) (i : ModuleIndex) : State :=
  if poolable (s.record i).resolved then s.enterPoolOrWait i else s.freeRecord i

/-- A record as its test is abandoned, but for its verdict (R50). -/
def ModuleRecord.abandoned (r : ModuleRecord) : ModuleRecord :=
  { r with state := .graded, resolved := none, provisional := false, departed := true
           location := .absent }

/-- The departure of a SETTLING or TESTING record (R50): its timer stops and an ABANDONED verdict is
made. -/
def State.abandon (s : State) (i : ModuleIndex) : State :=
  ((s.setTimer i none).setRecord i (s.record i).abandoned).makeVerdict i .abandoned

/-- A GRADED in-bay record as it departs (R51). -/
def ModuleRecord.leavesBay (r : ModuleRecord) : ModuleRecord :=
  { r with departed := true, location := .absent }

/-- The departure of a GRADED in-bay record (R51): R52 follows at once when its verdict was sent. -/
def State.departGraded (s : State) (i : ModuleIndex) : State :=
  let t := s.setRecord i (s.record i).leavesBay
  if (s.record i).verdict.isNone then t.goOn i else t

/-- What a departure does to the occupant's record (R49 to R52), once its bay is empty. A bay occupant
is SETTLING, TESTING or GRADED in-bay (R42); a module found otherwise is left as it is. -/
def State.departModule (s : State) (m : ModuleRef) : State :=
  if s.finds m [.settling, .testing] then s.abandon m.index
  else if s.finds m [.graded] && !(s.record m.index).departed then s.departGraded m.index
  else s

/-- The departure of a bay's occupant (R49): the CLEAR claim, then R50 to R52. -/
def State.departFrom (s : State) (b : Bay) (m : ModuleRef) : State := (s.clearBay b m).departModule m

/-- The implicit departure that an ARRIVE makes of its bay's occupant, if there is one (R44). -/
def State.departOccupant (s : State) (b : Bay) : State :=
  match s.occupant b with
  | some m => s.departFrom b m
  | none => s

/-! ## Settle timers -/

/-- The settle timer of a SETTLING record started or restarted from its full rest time (R61, R63); with a
rest time of 0 no timer runs and the record is claimed to TESTING. -/
def State.startSettle (s : State) (m : ModuleRef) : State :=
  let rest := s.restTime (s.record m.index).originClass
  if rest = 0 then
    (s.setTimer m.index none).claim m [.settling] fun r => { r with state := .testing }
  else
    s.setTimer m.index (some { generation := m.generation, expiresAt := s.timeBase + rest })

/-! ## Arrival -/

/-- A record as a retest or a new arrival makes it ready (R37, R46, R47): its generation incremented and
every field but the tag at its cleared value. -/
def ModuleRecord.renewed (r : ModuleRecord) : ModuleRecord :=
  { ModuleRecord.cleared (r.generation + 1) with tag := r.tag }

/-- A record as an arrival completes (R48). -/
def ModuleRecord.arrived (r : ModuleRecord) (tag : Tag) (c : Fin 16) (arrival : Nat) (b : Bay) :
    ModuleRecord :=
  { ModuleRecord.cleared r.generation with
    state := .settling, tag := tag, originClass := c, arrival := arrival, location := .bay b }

/-- The completion of an arrival in a record made ready (R38, R48). -/
def State.completeArrival (s : State) (i : ModuleIndex) (tag : Tag) (c : Fin 16) (b : Bay) : State :=
  let r := (s.record i).renewed
  let t := s.setRecord i (r.arrived tag c s.mr.arrivalCounter b)
  let u := { t with mr := { t.mr with
    arrivalCounter := satInc Config.arrivalMax t.mr.arrivalCounter } }
  (u.setBay b (u.refOf i)).startSettle (u.refOf i)

/-- The bay a location names, if it names one (R35). -/
def Location.bay? : Location → Option Bay
  | .bay b => some b
  | .absent | .slot _ => none

/-- A module found for retest leaves where it was: the pool, the pool-wait list, or its old bay (R46). -/
def State.releaseForRetest (s : State) (i : ModuleIndex) : State :=
  if (s.record i).state = .pooled then s.leavePool i
  else if (s.record i).poolWaiting then s.leavePoolWait i
  else
    match (s.record i).location.bay? with
    | some old => s.clearBay old (s.refOf i)
    | none => s

/-- Whether an ARRIVE of the tag a record holds is taken for retest (R46); any other state refuses it
(R45). -/
def ModuleRecord.retestable (r : ModuleRecord) : Bool :=
  decide (r.state = .pooled) || r.inBayVerdictSent || r.poolWaiting

/-- The second and third step of an arrival, in an empty bay (R45 to R48). -/
def State.arriveTag (s : State) (b : Bay) (tag : Tag) (c : Fin 16) : State :=
  match s.findTag tag with
  | some i =>
    if (s.record i).retestable then (s.releaseForRetest i).completeArrival i tag c b
    else s.raise (.tagConflict tag (s.record i).state)
  | none =>
    match s.lowestFree with
    | some i => s.completeArrival i tag c b
    | none => s.raise (.registerFull tag)

/-- An arrival at a bay, one event (R44): implicit departure, tag search, allocation or refusal. -/
def State.arriveAt (s : State) (b : Bay) (tag : Tag) (c : Fin 16) : State :=
  (s.departOccupant b).arriveTag b tag c

/-- A DEPART record that resolves to a bay (R49): ignored and counted when the bay is empty or the tag is
another's. -/
def State.departAt (s : State) (b : Bay) (tag : Option Tag) : State :=
  match s.occupant b with
  | none => s.count .samplesIgnored
  | some m =>
    if tag = none ∨ tag = some (s.record m.index).tag then s.departFrom b m
    else s.count .samplesIgnored

end Sys2Proof.Machine
end

