-- ==== Sys2Proof/Machine/Intake.lean ====
section
/-! DEFINITION. The Intake Unit: admission of samples (R22 to R26), the taking of records and their
targets (R27 to R30, R68), and the carrying of live fields at a Station Table commit (R31, R32). -/

namespace Sys2Proof.Machine

/-- The valid entry of an address in a Station Table copy (R18). -/
def findStation (t : Vector Station 32) (address : Byte) : Option (Fin 32) :=
  lowest (fun e => e.valid && decide (e.address = address)) t

/-! ## Admission -/

/-- The amount lost between the last sequence number and this one (R24). -/
def lostAmount (last : Option Byte) (q : Byte) : Nat :=
  match last with
  | some l => (q - l - 1).toNat
  | none => 0

/-- A gap event (R25): a claim on a SETTLING or TESTING occupant that increments its gap count. -/
def State.gapEvent (s : State) (m : ModuleRef) : State :=
  s.claim m [.settling, .testing] fun r => { r with gapCount := satInc 255 r.gapCount }

/-- The gap events of a station's bays, in ascending channel order (R25). -/
def State.gapEvents (s : State) (e : Fin 32) : State :=
  ((s.live e).bays.toList.filterMap id).foldl State.gapEvent s

/-- The sequence check of an admitted sample (R24, R25). -/
def State.checkSequence (s : State) (e : Fin 32) (q : Byte) : State :=
  let lost := lostAmount (s.live e).lastSequence q
  let t := s.setLive e { s.live e with
    lastSequence := some q, lostCount := satAdd 255 (s.live e).lostCount lost }
  if lost ≠ 0 ∧ (s.mu.active.stat.get e).role = .testBay then t.gapEvents e else t

/-- One more lost sample of a station (R23). -/
def State.loseOne (s : State) (e : Fin 32) : State :=
  s.setLive e { s.live e with lostCount := satInc 255 (s.live e).lostCount }

/-- The state with the Intake Queue replaced. -/
def State.setIntake (s : State) (l : List MeasurementRecord) : State :=
  { s with iu := { s.iu with intakeQueue := l } }

/-- A record entering the Intake Queue, or dropped and counted when it is full (R26). -/
def State.enqueueRecord (s : State) (r : MeasurementRecord) : State :=
  if s.iu.intakeQueue.length < Config.intakeRoom then s.setIntake (s.iu.intakeQueue ++ [r])
  else s.count .intakeOverrun

/-- The body of an admitted sample taken in (R23 to R26). -/
def State.admitSample (s : State) (e : Fin 32) (body : List Byte) : State :=
  match body with
  | [] => s.loseOne e
  | q :: _ =>
    match sampleOf body with
    | some x =>
      (s.checkSequence e q).enqueueRecord
        { station := some e, channel := x.channel, content := x.content }
    | none => (s.checkSequence e q).loseOne e

/-- The station entry a sample of a source is admitted under, if it is admitted (R22). -/
def State.admittedUnder (s : State) (source : Byte) : Option (Fin 32) :=
  match s.mu.mode with
  | .halted => none
  | .run =>
    match findStation s.mu.active.stat source with
    | some e => if (s.mu.active.stat.get e).role = .ignore then none else some e
    | none => none

/-- The copy of a SAMPLE frame handed to the Intake Unit (R22). -/
def State.takeSample (s : State) (f : Frame) : State :=
  match s.admittedUnder f.source with
  | some e => s.admitSample e f.body
  | none => s

/-! ## Taking a record -/

/-- What a record is resolved to (R29). -/
inductive Target where
  | none
  | bay (b : Bay)
  | slot (p : SlotId)
  deriving DecidableEq, Repr

/-- Target resolution, from the tables active now (R29). DESIGN CHOICE (log 18): R29 has no case for a record of an
IGNORE entry, which no admission makes; the model resolves it to nothing. -/
def State.target (s : State) (r : MeasurementRecord) : Target :=
  match r.station with
  | .none => .none
  | .some e =>
    let st := s.mu.active.stat.get e
    if r.channel.val < st.channelCount then
      match st.role with
      | .testBay =>
        match indexOf 4 r.channel.val with
        | .some c => .bay { entry := e, channel := c }
        | .none => .none
      | .bank =>
        match indexOf 16 (st.basePosition.val + r.channel.val) with
        | .some p => .slot { string := st.string, position := p }
        | .none => .none
      | .ignore => .none
    else .none

/-- The record the Grading Engine would take now (R68): the head, while no evaluation is in progress and
no commit is pending. -/
def State.nextRecord (s : State) : Option MeasurementRecord :=
  if s.ge.evaluation.isNone && s.mu.pendingCommit.isNone then s.iu.intakeQueue.head? else none

/-- The state after the head of the Intake Queue is taken (R27). -/
def State.takeRecord (s : State) : State := s.setIntake s.iu.intakeQueue.tail

/-! ## Carrying live fields at a Station Table commit -/

/-- Same role, string, base position and channel count: the entry is unchanged (R31). -/
def Station.sameAs (x y : Station) : Bool :=
  decide (x.role = y.role) && decide (x.string = y.string) &&
    decide (x.basePosition = y.basePosition) && decide (x.channelCount = y.channelCount)

/-- Whether a bay of an old entry is kept in a new entry of the same address (R31). -/
def keepsBay (old new : Station) (c : Fin 4) : Bool :=
  old.sameAs new ||
    (decide (old.role = .testBay) && decide (new.role = .testBay) && decide (c.val < new.channelCount))

/-- The live fields a new entry starts with (R31). -/
def carriedLive (old : Vector Station 32) (live : Vector StationLive 32) (new : Station) : StationLive :=
  if new.valid then
    match findStation old new.address with
    | none => .cleared
    | some j =>
      { lastSequence := if (old.get j).sameAs new then (live.get j).lastSequence else none
        lostCount := (live.get j).lostCount
        bays := tabulate fun c => if keepsBay (old.get j) new c then (live.get j).bays.get c else none }
  else .cleared

/-- The new entry that keeps a bay of an old entry, if one does (R31). -/
def keptAt (old new : Vector Station 32) (j : Fin 32) (c : Fin 4) : Option (Fin 32) :=
  if (old.get j).valid then
    match findStation new (old.get j).address with
    | some i => if keepsBay (old.get j) (new.get i) c then some i else none
    | none => none
  else none

/-- Every bay of a Station Table, by ascending entry and then channel (R31). -/
def allBays : List Bay :=
  (List.finRange 32).flatMap fun e => (List.finRange 4).map fun c => { entry := e, channel := c }

/-- The occupants that a Station Table commit departs, in order (R31). -/
def departing (old new : Vector Station 32) (live : Vector StationLive 32) : List ModuleRef :=
  allBays.filterMap fun b =>
    if (keptAt old new b.entry b.channel).isSome then none else (live.get b.entry).bays.get b.channel

/-- The kept occupants whose entry index changed, with the bay each is in now (R31). -/
def movedOccupants (old new : Vector Station 32) (live : Vector StationLive 32) : List (ModuleRef × Bay) :=
  allBays.filterMap fun b =>
    match keptAt old new b.entry b.channel, (live.get b.entry).bays.get b.channel with
    | some i, some m => if i = b.entry then none else some (m, { entry := i, channel := b.channel })
    | _, _ => none

/-- The claim that rewrites a kept occupant's location (R31). -/
def State.moveOccupant (s : State) (x : ModuleRef × Bay) : State :=
  s.claim x.1 [.settling, .testing, .graded] fun r => { r with location := .bay x.2 }

/-- The station entry index of a queued record after a Station Table commit; none is VOID (R32). -/
def carriedIndex (old new : Vector Station 32) (station : Option (Fin 32)) : Option (Fin 32) :=
  match station with
  | none => none
  | some j =>
    match findStation new (old.get j).address with
    | some i => if (old.get j).sameAs (new.get i) then some i else none
    | none => none

/-- Step 1 of R194: live fields carried by address, records re-pointed or made VOID, then the implicit
DEPARTs one at a time (R31, R32, R53). The CLEAR claims of those find their bays empty already, since a
bay that is not kept starts absent. -/
def State.carryStations (s : State) (old new : Vector Station 32) : State :=
  let live := s.iu.live
  let t := { s with iu := { s.iu with
    live := mapEntries (carriedLive old live) new
    intakeQueue := s.iu.intakeQueue.map fun r => { r with station := carriedIndex old new r.station } } }
  (departing old new live).foldl State.departModule
    ((movedOccupants old new live).foldl State.moveOccupant t)

end Sys2Proof.Machine
end

