-- ==== Sys2Proof/Machine/Grading.lean ====
section
/-! DEFINITION. The evaluation of a measurement: its beginning (R69, R70), the rule search (R71 to R74),
the evidence it gives (R75, R78, R79), resolution (R88 to R90) and regrading in service (R97 to R102). -/

namespace Sys2Proof.Machine

/-! ## The rule search -/

/-- Whether a sample lies inside a rule's window (R72, R73). -/
def inWindow (r : GradingRule) (value : Nat) (reference : Option Nat) : Bool :=
  match r.mode with
  | .absolute => decide (r.windowLow ≤ (value : Int)) && decide ((value : Int) ≤ r.windowHigh)
  | .relative =>
    match reference with
    | some x =>
      decide (r.windowLow ≤ (value : Int) - (x : Int)) && decide ((value : Int) - (x : Int) ≤ r.windowHigh)
    | none => false

/-- Whether a temperature lies inside a qualifier; every temperature does without one (R74). -/
def inQualifier (q : Option Qualifier) (t : Int) : Bool :=
  match q with
  | some q => decide (q.low ≤ t) && decide (t ≤ q.high)
  | none => true

/-- Whether a rule applies in a place (R71). -/
def Applicability.covers : Applicability → Place → Bool
  | .both, _ => true
  | .bay, .bay => true
  | .bay, .service => false
  | .service, .service => true
  | .service, .bay => false

/-- Whether a rule matches the sample an evaluation holds (R71). -/
def GradingRule.matchesSample (r : GradingRule) (e : Evaluation) : Bool :=
  r.valid && r.originMask.getLsbD e.originClass.val && r.applicability.covers e.place &&
    decide (r.metric = e.metric) && inWindow r e.value e.reference && inQualifier r.qualifier e.temperature

/-- The search: the first active rule that matches (R71). -/
def search (rules : Vector GradingRule 96) (e : Evaluation) : SearchResult :=
  match lowest (fun r => r.matchesSample e) rules with
  | some i => .rule i
  | none => .noRule

/-- The result of an evaluation's search: the one it holds once its search has ended, else the search of
the active rules, which cannot change during an evaluation (R70). -/
def State.searchResult (s : State) (e : Evaluation) : SearchResult :=
  match e.found with
  | some r => r
  | none => search s.mu.active.rule e

/-! ## Evidence -/

/-- The confirm count of a rule; absent has the effect of 1 (R65). -/
def GradingRule.confirmCount (r : GradingRule) : Nat := r.confirm.getD 1

/-- The run count after a match of a rule, before a confirmation (R75). -/
def Evidence.runAfter (x : Evidence) (i : Fin 96) : Nat :=
  if x.candidate = some i then x.runCount + 1 else 1

/-- Whether a match confirms (R75). -/
def confirms (x : Evidence) (i : Fin 96) (r : GradingRule) : Bool := decide (x.runAfter i = r.confirmCount)

/-- A set after a match of a rule (R75, R79). -/
def Evidence.matched (x : Evidence) (i : Fin 96) (r : GradingRule) (value : Nat) : Evidence :=
  if confirms x i r then
    { x with
      candidate := some i, runCount := 0, grade := some r.grade
      confirmations := satInc 255 x.confirmations, lastValue := some value }
  else { x with candidate := some i, runCount := x.runAfter i, lastValue := some value }

/-- A set after a search that found no rule (R78, R79). -/
def Evidence.missed (x : Evidence) (value : Nat) : Evidence :=
  { x with
    candidate := none, runCount := 0, unmatched := satInc 255 x.unmatched, lastValue := some value }

/-- A set after a search (R75, R78, R79). -/
def Evidence.after (x : Evidence) (rules : Vector GradingRule 96) (found : SearchResult) (value : Nat) :
    Evidence :=
  match found with
  | .rule i => x.matched i (rules.get i) value
  | .noRule => x.missed value

/-- Whether a search confirms (R75). -/
def confirmed (x : Evidence) (rules : Vector GradingRule 96) (found : SearchResult) : Bool :=
  match found with
  | .rule i => confirms x i (rules.get i)
  | .noRule => false

/-! ## Resolution -/

/-- The worst of the four metric grades, when all four are graded (R88, R89). -/
def EvidenceSets.worst (e : EvidenceSets) : Option Grade :=
  match e.cap.grade, e.res.grade, e.drift.grade, e.heat.grade with
  | some w, some x, some y, some z => some (((w.worse x).worse y).worse z)
  | _, _, _, _ => none

/-- Short residency (R89). -/
def shortResidency (c : OriginClass) (e : EvidenceSets) : Bool :=
  decide (e.cap.confirmations < c.residency) || decide (e.res.confirmations < c.residency) ||
    decide (e.drift.confirmations < c.residency) || decide (e.heat.confirmations < c.residency)

/-- Excess gaps (R89). -/
def excessGaps (c : OriginClass) (gaps : Nat) : Bool := decide (c.gapLimit < gaps)

/-- Whether a record's grade is demoted and marked provisional (R89). -/
def unearned (c : OriginClass) (r : ModuleRecord) : Bool :=
  shortResidency c r.evidence || excessGaps c r.gapCount

/-- The resolved grade of a record under its origin class's entry (R88 to R90). -/
def resolvedGrade (c : OriginClass) (r : ModuleRecord) : Option Grade :=
  match r.evidence.worst with
  | some g => some (c.ceiling.worse (if unearned c r then g.demoted else g))
  | none => none

/-- The provisional mark of a resolution (R88, R89). -/
def provisionalMark (c : OriginClass) (r : ModuleRecord) : Bool :=
  match r.evidence.worst with
  | some _ => unearned c r
  | none => false

/-- A record with its grade resolved (R88 to R90). -/
def ModuleRecord.withGrade (r : ModuleRecord) (c : OriginClass) : ModuleRecord :=
  { r with resolved := resolvedGrade c r, provisional := provisionalMark c r }

/-- The first resolution to a grade in a bay (R92). -/
def State.endTest (s : State) (i : ModuleIndex) : State :=
  (s.setRecord i { s.record i with state := .graded, departed := false }).makeVerdict i .graded

/-- A record with a watch count. -/
def ModuleRecord.withWatch (r : ModuleRecord) (n : Nat) : ModuleRecord := { r with watchCount := n }

/-- A record in another life-cycle state, every other field kept. -/
def ModuleRecord.inState (r : ModuleRecord) (st : ModuleState) : ModuleRecord := { r with state := st }

/-- A resolution of A to D worse than the minimum (R98). -/
def State.regradeWorse (s : State) (i : ModuleIndex) (p : SlotId) (c : PairingClass) : State :=
  let n := satInc 15 (s.record i).watchCount
  let t := s.setRecord i ((s.record i).withWatch n)
  match (s.record i).state with
  | .watch => t.raiseRequest p .replace .ready
  | _ =>
    if c.watchConfirm ≤ n then
      (t.setRecord i ((t.record i).inState .watch)).raiseRequest p .replace .ready
    else t

/-- A resolution of REJECT in service (R99). -/
def State.regradeReject (s : State) (i : ModuleIndex) (p : SlotId) : State :=
  (s.setRecord i (((s.record i).withWatch (satInc 15 (s.record i).watchCount)).inState .watch)).raiseRequest
    p .remove .ready

/-- A resolution at or better than the minimum (R100). -/
def State.regradeRecovered (s : State) (i : ModuleIndex) (p : SlotId) : State :=
  let t := s.setRecord i ((s.record i).withWatch 0)
  match (s.record i).state with
  | .watch =>
    match s.request p with
    | none => t.setRecord i ((t.record i).inState .inService)
    | some q =>
      match q.status with
      | .selected => t
      | .ready | .waiting => (t.setRecord i ((t.record i).inState .inService)).withdraw p
  | _ => t

/-- A resolution of an OUTBOUND record: the watch count alone (R101). -/
def State.regradeOutbound (s : State) (i : ModuleIndex) (atMinimum : Bool) : State :=
  s.setRecord i ((s.record i).withWatch
    (if atMinimum then 0 else satInc 15 (s.record i).watchCount))

/-- The comparison with the minimum grade of the string's class (R97 to R101). -/
def State.regrade (s : State) (i : ModuleIndex) (p : SlotId) : State :=
  let c := s.classOf p.string
  match (s.record i).resolved with
  | none => s
  | some g =>
    match (s.record i).state with
    | .outbound => s.regradeOutbound i (g.atLeast c.minimum)
    | _ =>
      if g.atLeast c.minimum then s.regradeRecovered i p
      else
        match g with
        | .reject => s.regradeReject i p
        | .a | .b | .c | .d => s.regradeWorse i p c

/-- What follows a resolution: R92 in a bay, R97 to R101 in service (R102, R106). -/
def State.afterResolution (s : State) (i : ModuleIndex) : State :=
  match (s.record i).state, (s.record i).location with
  | .testing, _ => if (s.record i).resolved.isSome then s.endTest i else s
  | _, .slot p => s.regrade i p
  | _, _ => s

/-- Resolution of a record (R82, R88). -/
def State.resolve (s : State) (i : ModuleIndex) : State :=
  (s.setRecord i ((s.record i).withGrade (s.mu.active.orig.get (s.record i).originClass))).afterResolution i

/-! ## Completion -/

/-- The states a completion claim expects (R81). -/
def Place.expected : Place → List ModuleState
  | .bay => [.testing]
  | .service => [.inService, .watch, .outbound]

/-- The state with the evaluation in progress replaced. -/
def State.setEvaluation (s : State) (e : Option Evaluation) : State :=
  { s with ge := { s.ge with evaluation := e } }

/-- A record with one metric's evidence replaced. -/
def ModuleRecord.withEvidence (r : ModuleRecord) (m : Metric) (x : Evidence) : ModuleRecord :=
  { r with evidence := r.evidence.set m x }

/-- CAP and RES are the metrics of references (R80). -/
def Metric.hasReference : Metric → Bool
  | .cap | .res => true
  | .drift | .heat => false

/-- The String Map is told of a changed CAP or RES last value of a module in service (R80). -/
def State.tellStringMap (s : State) (e : Evaluation) (before : Option Nat) (l : Location) : State :=
  match e.place, l with
  | .service, .slot p => if e.metric.hasReference && decide (before ≠ some e.value) then s.recompute p.string else s
  | _, _ => s

/-- An applied completion (R82), in the order of R102. -/
def State.applyCompletion (s : State) (e : Evaluation) : State :=
  let i := e.module.index
  let x := (s.record i).evidence.get e.metric
  let found := s.searchResult e
  let t := s.setRecord i ((s.record i).withEvidence e.metric (x.after s.mu.active.rule found e.value))
  let u :=
    if found = .noRule then t.raise (.ruleHole i e.metric)
    else if confirmed x s.mu.active.rule found then t.resolve i
    else t
  u.tellStringMap e x.lastValue (s.record i).location

/-- The completion of an evaluation (R81 to R83): applied, or declined and counted. -/
def State.completeEvaluation (s : State) (e : Evaluation) : State :=
  if s.finds e.module e.place.expected then (s.applyCompletion e).setEvaluation none
  else (s.count .samplesIgnored).setEvaluation none

/-! ## The take of a MEASURE record -/

/-- The reference an evaluation holds (R70): that of the slot's string for CAP and RES in service. -/
def State.heldReference (s : State) (m : Metric) (p : SlotId) : Option Nat :=
  match m with
  | .cap => (s.string p.string).cap.value
  | .res => (s.string p.string).res.value
  | .drift | .heat => none

/-- An evaluation begins (R70). -/
def State.beginEvaluation (s : State) (m : ModuleRef) (place : Place) (metric : Metric) (value : Nat)
    (temperature : Int) (reference : Option Nat) : State :=
  s.setEvaluation (some
    { module := m, heldState := (s.record m.index).state, originClass := (s.record m.index).originClass
      place := place, metric := metric, value := value, temperature := temperature
      reference := reference, found := none })

/-- A pulse metric: RES or HEAT, whose measurement restarts a rest period (R63). -/
def Metric.isPulse : Metric → Bool
  | .res | .heat => true
  | .cap | .drift => false

/-- A MEASURE at a bay (R63, R69). -/
def State.measureBay (s : State) (b : Bay) (metric : Metric) (value : Nat) (temperature : Int) : State :=
  match s.occupant b with
  | none => s.count .samplesIgnored
  | some m =>
    if s.finds m [.settling] then
      if metric.isPulse then s.startSettle m else s.count .samplesIgnored
    else if s.finds m [.testing] then s.beginEvaluation m .bay metric value temperature none
    else s.count .samplesIgnored

/-- A MEASURE at a slot (R69, R115). -/
def State.measureSlot (s : State) (p : SlotId) (metric : Metric) (value : Nat) (temperature : Int) :
    State :=
  match s.slot p with
  | .occupied m => s.beginEvaluation m .service metric value temperature (s.heldReference metric p)
  | .unknown | .empty | .reserved _ _ | .blocked => s.count .samplesIgnored

end Sys2Proof.Machine
end

