-- ==== Sys2Proof/Machine/Orders.lean ====
section
/-! DEFINITION. The Order Tracker: numbers (R170), one order per string (R171, R172), the creation of an
order at a choice's completion (R159 to R164), its end by ORDER-DONE (R175 to R179) and its expiry
(R181, R182). -/

namespace Sys2Proof.Machine

/-! ## Order numbers -/

/-- The orders of the table, in the order of their creation (R168). -/
def State.orders (s : State) : List (OrderIndex × Order) :=
  s.ot.creation.filterMap fun i => (s.order i).order?.map fun o => (i, o)

/-- Whether a record is the order of a number (R170, R175). -/
def OrderRecord.numbered (n : Byte) (r : OrderRecord) : Bool :=
  match r with
  | .order o => decide (o.number = n)
  | .free | .reservedForChoice _ => false

/-- Whether a number is that of an order or on the expired list (R170). -/
def State.numberTaken (s : State) (n : Byte) : Bool :=
  s.ot.table.toList.any (OrderRecord.numbered n) || s.ot.expired.contains n

/-- The first free number from a value upward, wrapping (R170); the fuel covers every number. -/
def State.firstNumber (s : State) : Nat → Byte → Byte
  | 0, n => n
  | fuel + 1, n => if s.numberTaken n then s.firstNumber fuel (n + 1) else n

/-- The number a new order takes (R170). -/
def State.nextNumber (s : State) : Byte := s.firstNumber 256 s.ot.numberCounter

/-! ## One order per string -/

/-- An order that is ISSUING or ISSUED (R171). -/
def Order.onRing (o : Order) : Bool :=
  match o.stage with
  | .deferred => false
  | .issuing | .issued _ => true

/-- Whether a record is an order of a string that is ISSUING or ISSUED (R171). -/
def OrderRecord.busies (i : Fin 8) (r : OrderRecord) : Bool :=
  match r with
  | .order o => o.onRing && decide (o.slot.string = i)
  | .free | .reservedForChoice _ => false

/-- Whether a string has an order that is ISSUING or ISSUED (R171). -/
def State.stringBusy (s : State) (i : Fin 8) : Bool := s.ot.table.toList.any (OrderRecord.busies i)

/-- The oldest DEFERRED order of a string (R172). -/
def State.oldestDeferred (s : State) (i : Fin 8) : Option (OrderIndex × Order) :=
  s.orders.find? fun x => decide (x.2.stage = .deferred) && decide (x.2.slot.string = i)

/-- The promotion at the end of an issued order (R172). -/
def State.promoteDeferred (s : State) (i : Fin 8) : State :=
  match s.oldestDeferred i with
  | some (k, o) => s.setOrder k (.order { o with stage := .issuing })
  | none => s

/-- An Order Table record made FREE, leaving its place among the orders (R168). -/
def State.freeOrderRecord (s : State) (i : OrderIndex) : State :=
  let t := s.setOrder i .free
  { t with ot := { t.ot with creation := t.ot.creation.erase i } }

/-! ## The completion of a choice -/

/-- The selected request, if it is still in the queue: that of the age held, for the same slot (R159). -/
def State.selectedRequest (s : State) (c : Choice) : Option Request :=
  s.pe.requests.find? fun q => decide (q.slot = c.slot) && decide (q.age = c.age)

/-- The status of the selected request changed, its age and place kept. -/
def State.setSelectedStatus (s : State) (c : Choice) (status : RequestStatus) : State :=
  s.setRequests (s.pe.requests.map fun q =>
    if q.slot = c.slot ∧ q.age = c.age then { q with status := status } else q)

/-- A discarded result (R163). -/
def State.discardChoice (s : State) (c : Choice) : State :=
  (s.freeOrderRecord c.order).setSelectedStatus c .ready

/-- A completion with no candidate (R160). -/
def State.noCandidate (s : State) (c : Choice) : State :=
  ((s.freeOrderRecord c.order).setSelectedStatus c (if c.stale then .ready else .waiting)).raise
    (.stringWaiting c.slot)

/-- The occupant noted at selection (R145). -/
def Choice.outgoing (c : Choice) : Option ModuleRef :=
  match c.noted with
  | .occupied m => some m
  | .unknown | .empty | .reserved _ _ | .blocked => none

/-- The work of the order a choice makes from its candidate and the noted occupant (R162); none when a
module it needs is missing. -/
def Choice.work (c : Choice) (candidate : Option ModuleRef) : Option OrderWork :=
  match c.kind, candidate, c.outgoing with
  | .fill, some m, _ => some (.insert m)
  | .replace, some m, some out => some (.swap m out)
  | .remove, _, some out => some (.remove out)
  | _, _, _ => none

/-- The checks of R161: the slot as noted, the candidate POOLED, the outgoing module WATCH. -/
def State.choiceHolds (s : State) (c : Choice) (w : OrderWork) : Bool :=
  decide (s.slot c.slot = c.noted) && slotFits c.noted c.kind &&
    (match w.incoming with | some m => s.finds m [.pooled] | none => true) &&
    (match w.outgoing with | some m => s.finds m [.watch] | none => true)

/-- A record as it becomes the module of an order (R162, R169). -/
def ModuleRecord.ordered (r : ModuleRecord) (st : ModuleState) (o : OrderIndex) : ModuleRecord :=
  { r with state := st, order := some o }

/-- The candidate claimed from POOLED to ASSIGNED, leaving the pool (R162, step 1). -/
def State.assign (s : State) (m : ModuleRef) (o : OrderIndex) : State :=
  if s.finds m [.pooled] then
    (s.setRecord m.index ((s.record m.index).ordered .assigned o)).dropFromPool m.index
  else s

/-- The incoming module, if any, assigned (R162, step 1). -/
def State.assignIncoming (s : State) (w : OrderWork) (o : OrderIndex) : State :=
  match w.incoming with
  | some m => s.assign m o
  | none => s

/-- The outgoing module, if any, claimed from WATCH to OUTBOUND (R162, step 2). -/
def State.claimOutgoing (s : State) (w : OrderWork) (o : OrderIndex) : State :=
  match w.outgoing with
  | some m => s.claim m [.watch] fun r => r.ordered .outbound o
  | none => s

/-- The order created in the reserved record (R162, step 4; R170, R171). -/
def State.createOrder (s : State) (o : OrderIndex) (p : SlotId) (w : OrderWork) : State :=
  let n := s.nextNumber
  let stage := if s.stringBusy p.string then OrderStage.deferred else OrderStage.issuing
  let t := s.setOrder o (.order { stage := stage, slot := p, number := n, work := w })
  { t with ot := { t.ot with creation := t.ot.creation ++ [o], numberCounter := n + 1 } }

/-- The result of a choice applied (R162). -/
def State.applyChoice (s : State) (c : Choice) (w : OrderWork) : State :=
  let t := (s.assignIncoming w c.order).claimOutgoing w c.order
  let u := t.setSlot c.slot (.reserved c.order w.outgoing)
  (u.createOrder c.order c.slot w).withdraw c.slot

/-- What follows an applied result (R164, steps 1 and 2): the promotion, and the references of a string
whose slot left OCCUPIED. -/
def State.afterChoice (s : State) (c : Choice) (w : OrderWork) : State :=
  let t := if w.incoming.isSome then s.promote else s
  if w.outgoing.isSome then t.recompute c.slot.string else t

/-- The completion of a choice up to the end of the choice (R159 to R163, R164 steps 1 to 3). -/
def State.completeChoice (s : State) (c : Choice) : State :=
  let t :=
    match s.selectedRequest c with
    | none => s.discardChoice c
    | some q =>
      if q.kind ≠ c.kind then s.discardChoice c
      else if c.kind ≠ RequestKind.remove ∧ c.chosen = none then s.noCandidate c
      else
        match c.work (c.chosen.map Best.module) with
        | some w => if s.choiceHolds c w then (s.applyChoice c w).afterChoice c w else s.discardChoice c
        | none => s.discardChoice c
  t.setChoice none

/-! ## The end of an order -/

/-- A record as it enters service in a slot from an order (R177). -/
def ModuleRecord.placed (r : ModuleRecord) (p : SlotId) : ModuleRecord :=
  { r with state := .inService, location := .slot p, order := none, watchCount := 0 }

/-- A record as it returns to WATCH in its slot (R178). -/
def ModuleRecord.returned (r : ModuleRecord) (p : SlotId) : ModuleRecord :=
  { r with state := .watch, location := .slot p, order := none }

/-- A record as its order expires (R181). -/
def ModuleRecord.heldBack (r : ModuleRecord) : ModuleRecord :=
  { r with state := .held, location := .absent, order := none }

/-- A slot claimed at the end of its order (R118): RESERVED by the record, to the outcome. -/
def State.releaseSlot (s : State) (p : SlotId) (o : OrderIndex) (outcome : SlotRecord) : State :=
  match s.slot p with
  | .reserved k _ => if k = o then s.setSlot p outcome else s
  | .unknown | .empty | .occupied _ | .blocked => s

/-- A claim on an optional module. -/
def State.claimModule (s : State) (m : Option ModuleRef) (expected : List ModuleState)
    (change : ModuleRecord → ModuleRecord) : State :=
  match m with
  | some m => s.claim m expected change
  | none => s

/-- The incoming module of a refused order returns to the pool, or to the pool-wait list (R130, R178). -/
def State.returnToPool (s : State) (m : Option ModuleRef) : State :=
  match m with
  | some m => if s.finds m [.assigned] then s.enterPoolOrWait m.index else s
  | none => s

/-- Modules, slot, wakes and request of a DONE result (R176 steps 1 to 4, R177). -/
def State.endDone (s : State) (i : OrderIndex) (o : Order) : State :=
  let t := (s.claimModule o.work.incoming [.assigned] fun r => r.placed o.slot).claimModule
    o.work.outgoing [.outbound] ModuleRecord.freed
  match o.work.incoming with
  | some m => (t.releaseSlot o.slot i (.occupied m)).recompute o.slot.string
  | none => (t.releaseSlot o.slot i .empty).raiseRequest o.slot .fill .ready

/-- The request a refused order raises (R178). -/
def State.refusedKind (s : State) (w : OrderWork) : RequestKind :=
  match w with
  | .insert _ => .fill
  | .swap _ out => if (s.record out.index).resolved = some .reject then .remove else .replace
  | .remove _ => .remove

/-- Modules, slot, wakes and request of a REFUSED result (R176 steps 1 to 4, R178, R179): the wakes come
before the request is raised WAITING. -/
def State.endRefused (s : State) (i : OrderIndex) (o : Order) : State :=
  let t := (s.returnToPool o.work.incoming).claimModule o.work.outgoing [.outbound] fun r => r.returned o.slot
  let u :=
    match o.work.outgoing with
    | some m => (t.releaseSlot o.slot i (.occupied m)).recompute o.slot.string
    | none => t.releaseSlot o.slot i .empty
  u.raiseRequest o.slot (u.refusedKind o.work) .waiting

/-- The record freed, the next order of the string promoted, a selection made (R176 steps 5 to 7, R181
steps 5 to 7). -/
def State.closeOrder (s : State) (i : OrderIndex) (o : Order) : State :=
  ((s.freeOrderRecord i).promoteDeferred o.slot.string).selectIfDue

/-- A number put on the expired list, the oldest leaving when 8 are held (R182). -/
def addExpired (l : List Byte) (n : Byte) : List Byte :=
  (if l.length < Config.expiredRoom then l else l.tail) ++ [n]

/-- The expiry of an ISSUED order (R181). -/
def State.expire (s : State) (i : OrderIndex) (o : Order) : State :=
  let t := (s.claimModule o.work.incoming [.assigned] ModuleRecord.heldBack).claimModule o.work.outgoing
    [.outbound] ModuleRecord.heldBack
  let u := (t.releaseSlot o.slot i .unknown).raise (.orderExpired o.number)
  ({ u with ot := { u.ot with expired := addExpired u.ot.expired o.number } }).closeOrder i o

end Sys2Proof.Machine
end

