-- ==== Sys2Proof/Machine/Commit.lean ====
section
/-! DEFINITION. The pending commit: validation (R19, R67, R108, R193), a taken commit and its effects
(R31, R77, R109, R135, R139, R194), the safe point (R192), and CLEAR-ENGINE (R197). -/

namespace Sys2Proof.Machine

/-! ## Validation -/

/-- The tables that would be active if a commit were taken (R19, R194). -/
def mergedTables (mask : BitVec 5) (active shadow : Tables) : Tables :=
  { orig := if names mask .orig then shadow.orig else active.orig
    rule := if names mask .rule then shadow.rule else active.rule
    pcls := if names mask .pcls then shadow.pcls else active.pcls
    stat := if names mask .stat then shadow.stat else active.stat
    bank := if names mask .bank then shadow.bank else active.bank }

/-- Whether a slot holds a module or a promise (R108). -/
def holdsSomething : SlotRecord → Bool
  | .occupied _ | .reserved _ _ => true
  | .unknown | .empty | .blocked => false

/-- The geometry check (R108): the first slot that would go out of use while OCCUPIED or RESERVED. -/
def State.geometryFailure (s : State) (new : BankSettings) : Option CommitFailure :=
  (allSlots.find? fun p => s.slotInUse p && !inUse new p && holdsSomething (s.slot p)).map
    CommitFailure.geometryReduction

/-- Whether a BANK entry covers a slot of a string (R18, R19). -/
def Station.covers (e : Station) (i : Fin 8) (p : Nat) : Bool :=
  decide (e.string = i) && decide (e.basePosition.val ≤ p) &&
    decide (p < e.basePosition.val + e.channelCount)

/-- A valid BANK entry (R19). -/
def Station.isBank (e : Station) : Bool := e.valid && decide (e.role = .bank)

/-- Whether two BANK entries cover a common slot (R19). -/
def Station.overlaps (x y : Station) : Bool :=
  (List.range x.channelCount).any fun c => y.covers x.string (x.basePosition.val + c)

/-- The entries of lower index (R19). -/
def lowerEntries (t : Vector Station 32) (i : Fin 32) : List Station := t.toList.take i.val

/-- The first condition of R19 that a valid entry meets, in the order of the rule's table. -/
def stationFailure (t : Vector Station 32) (b : BankSettings) (i : Fin 32) : Option CommitFailure :=
  let e := t.get i
  if !e.valid then none
  else if (lowerEntries t i).any fun x => x.valid && decide (x.address = e.address) then
    some (.duplicateAddress i)
  else if e.isBank && (decide (b.stringsInUse ≤ e.string.val) ||
      decide (b.positions < e.basePosition.val + e.channelCount)) then some (.slotRange i)
  else if e.isBank && (lowerEntries t i).any fun x => x.isBank && e.overlaps x then
    some (.slotOverlap i)
  else none

/-- The station check (R19): the first failing entry. -/
def stationsFailure (t : Vector Station 32) (b : BankSettings) : Option CommitFailure :=
  (List.finRange 32).findSome? (stationFailure t b)

/-- The first condition of R67 that a valid rule meets, in the order of the rule's table. A window is held
by its mode, so one comparison serves both (R66). -/
def ruleFailure (t : Vector GradingRule 96) (i : Fin 96) : Option CommitFailure :=
  let r := t.get i
  if !r.valid then none
  else if r.mode = .relative ∧ (r.metric = .drift ∨ r.metric = .heat) then some (.relativeMetric i)
  else if r.windowHigh < r.windowLow then some (.windowOrder i)
  else
    match r.qualifier with
    | some q => if q.high < q.low then some (.temperatureOrder i) else none
    | none => none

/-- The rule check (R67): the first failing rule. -/
def rulesFailure (t : Vector GradingRule 96) : Option CommitFailure :=
  (List.finRange 96).findSome? (ruleFailure t)

/-- The first of two failures. -/
def orElseFailure (x y : Option CommitFailure) : Option CommitFailure :=
  match x with
  | some f => some f
  | none => y

/-- Validation at the safe point, in the order of R193: geometry, stations, rules. -/
def State.validate (s : State) (mask : BitVec 5) : Option CommitFailure :=
  let new := mergedTables mask s.mu.active s.mu.shadow
  orElseFailure (if names mask .bank then s.geometryFailure new.bank else none)
    (orElseFailure (if names mask .stat || names mask .bank then stationsFailure new.stat new.bank else none)
      (if names mask .rule then rulesFailure new.rule else none))

/-! ## A taken commit -/

/-- The state with the active tables replaced (R194). -/
def State.setActive (s : State) (t : Tables) : State := { s with mu := { s.mu with active := t } }

/-- The geometry applied (R109): slots that come into use start UNKNOWN, requests of slots that go out of
use are withdrawn, and every string takes its class. -/
def State.applyGeometry (s : State) (old new : BankSettings) : State :=
  { s with
    sm := {
      strings := tabulate fun i => { s.string i with pairingClass := new.classes.get i }
      slots := tabulate fun i => tabulate fun p =>
        if inUse new { string := i, position := p } && !inUse old { string := i, position := p } then
          SlotRecord.unknown
        else s.slot { string := i, position := p } }
    pe := { s.pe with requests := s.pe.requests.filter fun q => inUse new q.slot } }

/-- A set with its run cleared (R77). -/
def Evidence.runCleared (x : Evidence) : Evidence := { x with candidate := none, runCount := 0 }

/-- A record with every run cleared (R77). -/
def ModuleRecord.runsCleared (r : ModuleRecord) : ModuleRecord :=
  { r with evidence := r.evidence.mapAll Evidence.runCleared }

/-- Every candidate rule and run count of every record cleared (R77). -/
def State.clearRuns (s : State) : State :=
  { s with mr := { s.mr with records := mapEntries ModuleRecord.runsCleared s.mr.records } }

/-- The priorities of FILL and REPLACE requests read again (R135). -/
def State.rereadPriorities (s : State) : State :=
  s.setRequests (s.pe.requests.map fun q =>
    { q with priority := requestPriority (s.classOf q.slot.string) q.kind })

/-- Steps 1 to 5 of R194, after the active tables became the new ones. -/
def State.commitEffects (s : State) (mask : BitVec 5) (old : Tables) : State :=
  let a := if names mask .stat then s.carryStations old.stat s.mu.active.stat else s
  let b := if names mask .bank then a.applyGeometry old.bank s.mu.active.bank else a
  let c := if names mask .rule then b.clearRuns else b
  let d := if names mask .pcls || names mask .bank then c.rereadPriorities else c
  if names mask .pcls || names mask .bank || names mask .orig then d.wakeAll else d

/-- A commit taken (R194). -/
def State.takeCommit (s : State) (mask : BitVec 5) : State :=
  ((s.setActive (mergedTables mask s.mu.active s.mu.shadow)).commitEffects mask s.mu.active).raise
    (.commitTaken mask)

/-- The state with the pending commit replaced. -/
def State.setPendingCommit (s : State) (m : Option (BitVec 5)) : State :=
  { s with mu := { s.mu with pendingCommit := m } }

/-- The pending commit validated, then taken or refused (R192 to R194). -/
def State.settleCommit (s : State) (mask : BitVec 5) : State :=
  match s.validate mask with
  | some f => (s.setPendingCommit none).raise (.commitRefused f)
  | none => (s.setPendingCommit none).takeCommit mask

/-- Whether the commit's safe point is reached: neither an evaluation nor a choice in progress (R192). -/
def State.atSafePoint (s : State) : Bool := s.ge.evaluation.isNone && s.pe.choice.isNone

/-- The pending commit settled if there is one and its safe point is reached (R192). -/
def State.settleIfSafe (s : State) : State :=
  match s.mu.pendingCommit with
  | some mask => if s.atSafePoint then s.settleCommit mask else s
  | none => s

/-! ## CLEAR-ENGINE -/

/-- The String Map cleared (R126): slots in use UNKNOWN, references absent, classes kept. -/
def State.clearedStrings (s : State) : StringMap :=
  { strings := mapEntries (fun r => { r with cap := .absent, res := .absent }) s.sm.strings
    slots := tabulate fun i => tabulate fun p =>
      if s.slotInUse { string := i, position := p } then .unknown
      else s.slot { string := i, position := p } }

/-- The engine returned to its empty state (R197): the tables, the counters, the order number counter, the
link and both ring queues, and the command input queue are kept. -/
def State.clearEngine (s : State) : State :=
  { s with
    rp := { s.rp with verdictClaims := [] }
    iu := .cleared
    ge := .cleared
    mr := .cleared
    sm := s.clearedStrings
    pe := .cleared
    ot := { OrderTracker.cleared with numberCounter := s.ot.numberCounter }
    mu := { s.mu with mode := .halted, notices := [] } }

end Sys2Proof.Machine
end

