-- ==== Sys2Proof/Machine/Ring.lean ====
section
/-! DEFINITION. The Ring Port: reset (R16, R203), reception (R1 to R12), the Originate Queue's admission
arbiter (R13, R14, R94, R173, R202) and the egress arbiter (R15), with the commands they are. -/

namespace Sys2Proof.Machine

/-! ## Reset -/

/-- RESETN_ASSERT: RING-OUT is held at line level 1 and nothing more is taken from RING-IN (R16, R203). -/
def execResetnAssert (s : State) : Host.Outcome State Fault Refusal :=
  .next { s with rp := { s.rp with resetAsserted := true, sending := .heldHigh } }

/-- RESETN_RELEASE: every state at its value after device reset, the own station address 240 plus the strap
value (R203). -/
def execResetnRelease (straps : BitVec 3) (s : State) : Host.Outcome State Fault Refusal :=
  .next { State.afterReset straps with pending := s.pending }

/-! ## Link and frame logic -/

/-- The state with the Ring Port replaced. -/
def State.setRing (s : State) (r : RingPort) : State := { s with rp := r }

/-- Entry to LOCKED (R4, R6). -/
def State.enterLocked (s : State) : State :=
  let t := s.setRing { s.rp with
    link := .locked, confirmCount := 0, window := [], assembly := none, lossesSince := 0 }
  if s.rp.lossesSince = 0 then t else t.raise (.linkRelock s.rp.lossesSince)

/-- Return to HUNT with the confirm count 0 (R3, R4). -/
def State.toHunt (s : State) : State := s.setRing { s.rp with link := .hunt, confirmCount := 0 }

/-- A FILL in CONFIRM (R4). -/
def State.confirmFill (s : State) : State :=
  if s.rp.confirmCount + 1 = Config.confirmFills then s.enterLocked
  else s.setRing { s.rp with confirmCount := s.rp.confirmCount + 1 }

/-- The error window with one more flag (R5). -/
def pushFlag (flag : Bool) (w : List Bool) : List Bool := (flag :: w).take Config.windowLength

/-- The error flags set in the window (R5). -/
def errorsIn (w : List Bool) : Nat := w.count true

/-- RX-DAMAGED incremented when a frame in assembly is discarded (R5, R8). -/
def State.discardAssembly (s : State) : State :=
  match s.rp.assembly with
  | some _ => (s.setRing { s.rp with assembly := none }).count .rxDamaged
  | none => s

/-- A loss of sync (R5). -/
def State.loseSync (s : State) : State :=
  let t := (s.discardAssembly).count .syncLosses
  t.setRing { t.rp with
    link := .hunt, confirmCount := 0, window := []
    lossesSince := satInc Config.counterMax t.rp.lossesSince }

/-- A frame in assembly after one more data character (R8, R9): damaged at a length above 240, and at a
character beyond length + 2 after the length. -/
def Assembly.append (a : Assembly) (b : Byte) : Assembly :=
  let chars := a.chars ++ [b]
  { a with
    chars := chars
    damaged := a.damaged ||
      (match chars with
       | _ :: _ :: len :: rest =>
         decide (Config.bodyMax < len.toNat) || decide (len.toNat + 2 < rest.length)
       | _ => false) }

/-- A frame in assembly after a character in error (R9). -/
def Assembly.hurt (a : Assembly) (b : Byte) : Assembly :=
  { a with chars := a.chars ++ [b], damaged := true }

/-- The frame that an assembly has become at its end, when it is complete (R8 to R10). -/
def Assembly.complete (a : Assembly) : Option Frame :=
  match a.chars with
  | dst :: src :: len :: rest =>
    if a.damaged = false ∧ len.toNat ≤ Config.bodyMax ∧ rest.length = len.toNat + 2 then
      let body := rest.take len.toNat
      let check : Half := BitVec.ofNat 16 (numberOf (rest.drop len.toNat))
      if checkOf (dst :: src :: len :: body) = check then
        some { kind := a.kind, destination := dst, source := src, body := body, check := check }
      else none
    else none
  | _ => none

/-- A frame to be forwarded (R12). -/
def State.forward (s : State) (f : Frame) : State :=
  if s.rp.transitQueue.length < Config.transitRoom then
    s.setRing { s.rp with transitQueue := s.rp.transitQueue ++ [f] }
  else s.count .transitOverrun

/-- The state with the command input queue replaced. -/
def State.setCommands (s : State) (l : List Frame) : State :=
  { s with mu := { s.mu with commandQueue := l } }

/-- A COMMAND frame delivered to the Management Unit (R186). -/
def State.deliverCommand (s : State) (f : Frame) : State :=
  if s.mu.commandQueue.length < Config.commandRoom then s.setCommands (s.mu.commandQueue ++ [f])
  else s.count .cmdOverrun

/-- The treatments of a complete frame (R11). -/
inductive Treatment where
  | removed
  | consumed
  | deliveredAndForwarded
  | copiedAndForwarded
  | forwarded
  deriving DecidableEq, Repr

/-- Classification of a complete frame under an own station address (R11), in the order of the rule. -/
def treatment (own : Byte) (f : Frame) : Treatment :=
  if f.source = own then .removed
  else if f.kind = kindCommand ∧ f.destination = own then .consumed
  else if f.kind = kindCommand ∧ f.destination = Config.broadcast then .deliveredAndForwarded
  else if f.kind = kindSample then .copiedAndForwarded
  else .forwarded

/-- A complete frame classified and treated (R11). -/
def State.classify (s : State) (f : Frame) : State :=
  match treatment s.mu.ownAddress f with
  | .removed => s
  | .consumed => s.deliverCommand f
  | .deliveredAndForwarded => (s.forward f).deliverCommand f
  | .copiedAndForwarded => (s.forward f).takeSample f
  | .forwarded => s.forward f

/-- The end of a frame in assembly at a mark character (R8): a complete frame is classified, another is
discarded and counted. -/
def State.endFrame (s : State) : State :=
  match s.rp.assembly with
  | none => s
  | some a =>
    let t := s.setRing { s.rp with assembly := none }
    match a.complete with
    | some f => t.classify f
    | none => t.count .rxDamaged

/-- The frame logic in LOCKED (R7 to R9). -/
def State.frameLogic (s : State) : CharacterSort → State
  | .fill => s.endFrame
  | .header k =>
    let t := s.endFrame
    t.setRing { t.rp with assembly := some { kind := k, chars := [], damaged := false } }
  | .data b => s.setRing { s.rp with assembly := s.rp.assembly.map fun a => a.append b }
  | .inError b => s.setRing { s.rp with assembly := s.rp.assembly.map fun a => a.hurt b }

/-- A character in LOCKED (R5): its flag enters the window; the fourth error flag loses sync, and otherwise
the frame logic takes it. -/
def State.lockedCharacter (s : State) (c : Character) : State :=
  let w := pushFlag c.error s.rp.window
  let t := s.setRing { s.rp with window := w }
  if c.error = true ∧ Config.windowErrors ≤ errorsIn w then t.loseSync else t.frameLogic c.sort

/-- The link logic on a delivered character (R3 to R5). -/
def State.linkLogic (s : State) (c : Character) : State :=
  match s.rp.link with
  | .hunt =>
    if c.sort = .fill then s.setRing { s.rp with link := .confirm, confirmCount := 1 } else s
  | .confirm => if c.sort = .fill then s.confirmFill else s.toHunt
  | .locked => s.lockedCharacter c

/-- A character delivered with its error flag remembered for the wait of R1. -/
def State.deliverCharacter (s : State) (c : Character) : State :=
  (s.setRing { s.rp with awaitingHigh := c.error }).linkLogic c

/-- What the receiver makes of a character on the line (R1): nothing while RESETN is asserted (R16, R203) or
while the line has not risen after a character error; nothing at a false start; else the character. -/
def State.receive (s : State) (c : LineCharacter) : State :=
  if s.rp.resetAsserted || (s.rp.awaitingHigh && !c.lineRose) then s
  else
    match characterOf (decidedBits c) with
    | none => s.setRing { s.rp with awaitingHigh := false }
    | some x => s.deliverCharacter x

/-- CHARACTER_RECEIVED (R1). -/
def execCharacterReceived (c : LineCharacter) (s : State) : Host.Outcome State Fault Refusal :=
  .next (s.receive c)

/-! ## The Originate Queue -/

/-- Whether a frame is a REPLY (R13). -/
def Frame.isReply (f : Frame) : Bool := decide (f.kind = kindReply)

/-- Whether a REPLY is queued (R13). -/
def State.replyQueued (s : State) : Bool := s.rp.originateQueue.any Frame.isReply

/-- Whether a frame other than REPLY finds room (R14): fewer than seven are queued and an entry is free. -/
def State.roomForOthers (s : State) : Bool :=
  decide ((s.rp.originateQueue.filter fun f => !f.isReply).length < Config.originateOthers) &&
    decide (s.rp.originateQueue.length < Config.originateRoom)

/-- A frame entering the Originate Queue with its envelope and check built (R13). -/
def State.originate (s : State) (kind destination : Byte) (body : List Byte) : State :=
  s.setRing { s.rp with
    originateQueue := s.rp.originateQueue ++ [buildFrame kind destination s.mu.ownAddress body] }

/-- The destination of VERDICT, ORDER and NOTICE frames (R13). -/
def State.controllerDestination (s : State) : Byte := controllerChar s.mu.active.bank.controller

/-- The offered REPLY admitted, once no REPLY is queued (R13). -/
def State.admitReply (s : State) : State :=
  match s.mu.reply with
  | some r =>
    if s.replyQueued then s
    else ({ s with mu := { s.mu with reply := none } }).originate kindReply r.destination r.body
  | none => s

/-- The first standing ORDER claim: the ISSUING order created earliest (R14, R173). -/
def State.orderClaim (s : State) : Option (OrderIndex × Order) :=
  s.orders.find? fun x => decide (x.2.stage = .issuing)

/-- The tag of the module an order names (R174). -/
def State.tagOfModule (s : State) (m : Option ModuleRef) : Option Tag := m.map fun m => (s.record m.index).tag

/-- An ORDER claim admitted (R173, R174): the body is built, the order becomes ISSUED and its deadline
starts. -/
def State.admitOrder (s : State) (x : OrderIndex × Order) : State :=
  let deadline := s.timeBase + s.mu.active.bank.orderDeadline * Config.msPerSecond
  (s.originate kindOrder s.controllerDestination
    (orderBody x.2 (s.tagOfModule x.2.work.incoming) (s.tagOfModule x.2.work.outgoing))).setOrder x.1
      (.order { x.2 with stage := .issued deadline })

/-- A VERDICT claim admitted (R94, R95): the body is built, the verdict is no longer pending, and a departed
record goes on by R52. A record with no verdict pending has no claim left: it is withdrawn. -/
def State.admitVerdict (s : State) (i : ModuleIndex) : State :=
  let t := s.setRing { s.rp with verdictClaims := s.rp.verdictClaims.erase i }
  match (s.record i).verdict with
  | none => t
  | some v =>
    let u := (t.originate kindVerdict s.controllerDestination (verdictBody v (s.record i))).setRecord i
      { s.record i with verdict := none }
    if (s.record i).departed then u.goOn i else u

/-- A NOTICE claim admitted (R202): the body is built from the entry, which leaves the set. -/
def State.admitNotice (s : State) (n : Notice) : State :=
  ({ s with mu := { s.mu with notices := s.mu.notices.tail } }).originate kindNotice
    s.controllerDestination (noticeBody n)

/-- The standing claim the arbiter takes next (R14): ORDER, then VERDICT, then NOTICE. -/
inductive Claim where
  | order (x : OrderIndex × Order)
  | verdict (i : ModuleIndex)
  | notice (n : Notice)
  deriving DecidableEq, Repr

/-- The first standing claim in the arbiter's order (R14). -/
def State.firstClaim (s : State) : Option Claim :=
  match s.orderClaim, s.rp.verdictClaims, s.mu.notices with
  | some x, _, _ => some (.order x)
  | none, i :: _, _ => some (.verdict i)
  | none, [], n :: _ => some (.notice n)
  | none, [], [] => none

/-- One claim admitted, with the selection that an admitted VERDICT makes due (R143). -/
def State.admitClaim (s : State) : Claim → State
  | .order x => s.admitOrder x
  | .verdict i => (s.admitVerdict i).selectIfDue
  | .notice n => s.admitNotice n

/-- The arbiter at work while room remains and claims stand (R14), at most seven times. -/
def State.admitClaims : Nat → State → State
  | 0, s => s
  | n + 1, s =>
    match s.firstClaim with
    | some c => if s.roomForOthers then State.admitClaims n (s.admitClaim c) else s
    | none => s

/-- REPLY_ADMISSION (R13). -/
def execReplyAdmission (s : State) : Host.Outcome State Fault Refusal := .next s.admitReply

/-- ORDER_ADMISSION (R14, R173): an ORDER claim goes before every other. -/
def execOrderAdmission (s : State) : Host.Outcome State Fault Refusal :=
  .next
    (match s.firstClaim with
     | some (.order x) => if s.roomForOthers then s.admitClaim (.order x) else s
     | _ => s)

/-- VERDICT_ADMISSION (R14, R94), while no ORDER claim stands. -/
def execVerdictAdmission (s : State) : Host.Outcome State Fault Refusal :=
  .next
    (match s.firstClaim with
     | some (.verdict i) => if s.roomForOthers then s.admitClaim (.verdict i) else s
     | _ => s)

/-- NOTICE_ADMISSION (R14, R202), while no ORDER and no VERDICT claim stands. -/
def execNoticeAdmission (s : State) : Host.Outcome State Fault Refusal :=
  .next
    (match s.firstClaim with
     | some (.notice n) => if s.roomForOthers then s.admitClaim (.notice n) else s
     | _ => s)

/-! ## RING-OUT -/

/-- The entry of the frame whose last character was sent is freed (R12, R13); at a freed Originate entry a
waiting REPLY and then the standing claims are admitted, each as its own row admits it (R13, R14). -/
def State.endSending (s : State) : State :=
  match s.rp.sending with
  | .transit => s.setRing { s.rp with transitQueue := s.rp.transitQueue.tail }
  | .originate =>
    State.admitClaims Config.originateOthers
      (s.setRing { s.rp with originateQueue := s.rp.originateQueue.tail }).admitReply
  | .fill | .heldHigh => s

/-- The decision of the egress arbiter and the pass-over count after it (R15). -/
def decideEgress (transit originate : Bool) (passOver : Nat) : Sending × Nat :=
  if transit && originate then
    if 2 ≤ passOver then (.originate, 0) else (.transit, passOver + 1)
  else if transit then (.transit, passOver)
  else if originate then (.originate, 0)
  else (.fill, passOver)

/-- The egress arbiter decides what is sent next (R15). -/
def State.decideNext (s : State) : State :=
  let d := decideEgress (!s.rp.transitQueue.isEmpty) (!s.rp.originateQueue.isEmpty) s.rp.passOver
  s.setRing { s.rp with sending := d.1, passOver := d.2 }

/-- EGRESS_DECISION (R15); nothing is sent while RESETN is asserted (R16). -/
def execEgressDecision (s : State) : Host.Outcome State Fault Refusal :=
  .next (if s.rp.resetAsserted then s else s.endSending.decideNext)

/-- What RING-OUT sends now, as characters with their mark flags (R16): nothing while held at level 1. -/
def State.ringOut (s : State) : List (Byte × Bool) :=
  match s.rp.sending with
  | .heldHigh => []
  | .fill => [(Config.fillValue, true)]
  | .transit => (s.rp.transitQueue.head?.map Frame.characters).getD []
  | .originate => (s.rp.originateQueue.head?.map Frame.characters).getD []

end Sys2Proof.Machine
end

