-- ==== Sys2Proof/Machine/Bay.lean ====
section
/-! DEFINITION. The commands of the Grading Engine: the take of an ARRIVE, DEPART or MEASURE record (R29,
R30, R44, R49, R69), the completion of an evaluation (R81) and the expiry of a settle timer (R62). -/

namespace Sys2Proof.Machine

/-- An ARRIVE record taken (R29, R30, R44): an arrival at a bay; ignored and counted when its target is a
slot or nothing. -/
def State.takeArrive (s : State) (r : MeasurementRecord) (tag : Tag) (c : Fin 16) : State :=
  match s.target r with
  | .bay b => (s.takeRecord.arriveAt b tag c).selectIfDue
  | .slot _ | .none => s.takeRecord.count .samplesIgnored

/-- A DEPART record taken (R29, R30, R49). -/
def State.takeDepart (s : State) (r : MeasurementRecord) (tag : Option Tag) : State :=
  match s.target r with
  | .bay b => (s.takeRecord.departAt b tag).selectIfDue
  | .slot _ | .none => s.takeRecord.count .samplesIgnored

/-- A MEASURE record taken (R29, R30, R69). -/
def State.takeMeasure (s : State) (r : MeasurementRecord) (metric : Metric) (value : Nat)
    (temperature : Int) : State :=
  match s.target r with
  | .bay b => s.takeRecord.measureBay b metric value temperature
  | .slot p => s.takeRecord.measureSlot p metric value temperature
  | .none => s.takeRecord.count .samplesIgnored

/-- ARRIVE (R44): when the head of the Intake Queue is an ARRIVE record the Grading Engine may take. -/
def execArrive (s : State) : Host.Outcome State Fault Refusal :=
  .next
    (match s.nextRecord with
     | some r =>
       match r.content with
       | .arrive tag c => s.takeArrive r tag c
       | .depart _ | .measure _ _ _ => s
     | none => s)

/-- DEPART (R49): when the head of the Intake Queue is a DEPART record the Grading Engine may take. -/
def execDepart (s : State) : Host.Outcome State Fault Refusal :=
  .next
    (match s.nextRecord with
     | some r =>
       match r.content with
       | .depart tag => s.takeDepart r tag
       | .arrive _ _ | .measure _ _ _ => s
     | none => s)

/-- MEASURE (R69): when the head of the Intake Queue is a MEASURE record the Grading Engine may take. -/
def execMeasure (s : State) : Host.Outcome State Fault Refusal :=
  .next
    (match s.nextRecord with
     | some r =>
       match r.content with
       | .measure metric value temperature => s.takeMeasure r metric value temperature
       | .arrive _ _ | .depart _ => s
     | none => s)

/-- EVALUATION_COMPLETION (R81 to R83): the evaluation in progress ends; a pending commit that reaches its
safe point is settled in the same event (R86, R192), and a selection that is due is made (R143). -/
def execEvaluationCompletion (s : State) : Host.Outcome State Fault Refusal :=
  .next
    (match s.ge.evaluation with
     | some e => (s.completeEvaluation e).settleIfSafe.selectIfDue
     | none => s)

/-- The expiry of a running settle timer (R62): the time base reaches its instant (log 4), the timer ends,
and the record is claimed from SETTLING to TESTING by the generation it was started for. -/
def State.expireTimer (s : State) (i : ModuleIndex) (t : SettleTimer) : State :=
  ((s.reachTime t.expiresAt).setTimer i none).claim { index := i, generation := t.generation } [.settling]
    fun r => { r with state := .testing }

/-- The expiry of the settle timer of a record, if one runs and nothing else ends before it (R61, R62; log 4). -/
def State.settleExpiry (s : State) (i : ModuleIndex) : State :=
  match s.timer i with
  | some t => if s.noneEndsBefore t.expiresAt then s.expireTimer i t else s
  | none => s

/-- SETTLE_EXPIRY (R62). -/
def execSettleExpiry (record : Nat) (s : State) : Host.Outcome State Fault Refusal :=
  .next
    (match indexOf 192 record with
     | some i => s.settleExpiry i
     | none => s)

end Sys2Proof.Machine
end

