-- ==== Sys2Proof/Machine/Engine.lean ====
section
/-! DEFINITION. The commands of the Pairing Engine (R143, R159), the Order Tracker's expiry (R181) and the
commit's safe point (R192). -/

namespace Sys2Proof.Machine

/-- SELECTION (R143), by the active policy, since no choice has just completed (R144). -/
def execSelection (s : State) : Host.Outcome State Fault Refusal := .next s.selectIfDue

/-- What follows the end of a choice in the same event: a pending commit at its safe point is settled and the
selection after it is made by the policy (R166, R192); with none pending, the selection of R164 step 4 is made
by the PRIORITY rule (R144). -/
def State.afterCompletion (s : State) : State :=
  match s.mu.pendingCommit with
  | some _ => s.settleIfSafe.selectIfDue
  | none => s.select .priority

/-- CHOICE_COMPLETION (R159 to R164). -/
def execChoiceCompletion (s : State) : Host.Outcome State Fault Refusal :=
  .next
    (match s.pe.choice with
     | some c => (s.completeChoice c).afterCompletion
     | none => s)

/-- The expiry of an ISSUED order when its deadline has elapsed (R180, R181): the time base comes to the instant at
which the deadline ends, and does so only if nothing else ends before it (log 4). -/
def State.expireOrder (s : State) (i : OrderIndex) (o : Order) : State :=
  match o.stage with
  | .issued t => if s.noneEndsBefore t then (s.reachTime t).expire i o else s
  | .deferred | .issuing => s

/-- The expiry of the order in a record, if it holds one (R181). -/
def State.orderExpiry (s : State) (i : OrderIndex) : State :=
  match (s.order i).order? with
  | some o => s.expireOrder i o
  | none => s

/-- ORDER_EXPIRY (R181). -/
def execOrderExpiry (order : Nat) (s : State) : Host.Outcome State Fault Refusal :=
  .next
    (match indexOf 8 order with
     | some i => s.orderExpiry i
     | none => s)

/-- COMMIT_SAFE_POINT (R192): the pending commit is validated, then taken or refused, and a selection that is
then due is made by the policy (R143). -/
def execCommitSafePoint (s : State) : Host.Outcome State Fault Refusal :=
  .next s.settleIfSafe.selectIfDue

end Sys2Proof.Machine
end

