-- ==== Sys2Proof/Machine/Management.lean ====
section
/-! DEFINITION. The Management Unit's commands: intake and the common checks (R187, R188), and the execution
of each (R54 to R56, R119 to R125, R140 to R142, R175, R189 to R191, R195 to R200). -/

namespace Sys2Proof.Machine

/-! ## Taking a command -/

/-- The commands by the row of the table that executes them. -/
inductive CommandRow where
  | load | commit | readTable | queryModule | querySlot | slotEmpty | slotHolds | slotBlock
  | slotUnblock | moduleToPool | moduleGone | orderDone | requestSlotFill | requestSlotWake
  | retireSlot | halt | resume | clearEngine | readCounters | readStatus | unknown
  deriving DecidableEq, Repr

/-- The INVENTORY form of a code (R207). DESIGN CHOICE (log 9): a missing or unlisted form is answered by the
row of the first form. -/
def inventoryRow : List Byte → CommandRow
  | f :: _ =>
    match f.toNat with
    | 1 => .slotHolds
    | 2 => .slotBlock
    | 3 => .slotUnblock
    | 4 => .moduleToPool
    | 5 => .moduleGone
    | _ => .slotEmpty
  | [] => .slotEmpty

/-- The REQUEST-SLOT form of a code (R207). DESIGN CHOICE (log 9), as for INVENTORY. -/
def requestRow : List Byte → CommandRow
  | f :: _ => if f.toNat = 1 then .requestSlotWake else .requestSlotFill
  | [] => .requestSlotFill

/-- The row that executes a command body, by its operation code (R207: numbered from 1 in the order of the
table of commands). -/
def rowOf : List Byte → CommandRow
  | op :: _ :: params =>
    match op.toNat with
    | 1 => .load
    | 2 => .commit
    | 3 => .readTable
    | 4 => .queryModule
    | 5 => .querySlot
    | 6 => inventoryRow params
    | 7 => .orderDone
    | 8 => requestRow params
    | 9 => .retireSlot
    | 10 => .halt
    | 11 => .resume
    | 12 => .clearEngine
    | 13 => .readCounters
    | 14 => .readStatus
    | _ => .unknown
  | _ => .unknown

/-- What a command answers: the state it leaves, the status and the data of its REPLY. -/
structure Answer where
  state  : State
  status : Status
  data   : List BodyChar
  deriving DecidableEq, Repr

/-- An answer with no data and no change of state. -/
def answer (s : State) (status : Status) : Answer := { state := s, status := status, data := [] }

/-- A length check: MALFORMED unless the parameters have the length (R188). -/
def lengthIs (n : Nat) (params : List Byte) : Option Status :=
  if params.length = n then none else some .malformed

/-- The length check of an INVENTORY form, string and position or a tag or both (R188, R207). -/
def inventoryLength : List Byte → Option Status
  | [] => some .malformed
  | f :: rest =>
    match f.toNat with
    | 0 | 2 | 3 => lengthIs 2 rest
    | 1 => lengthIs 8 rest
    | 4 | 5 => lengthIs 6 rest
    | _ => some .outOfRange

/-- The length check of QUERY-MODULE by its selector (R188, R207). -/
def queryModuleLength : List Byte → Option Status
  | [] => some .malformed
  | f :: rest =>
    match f.toNat with
    | 0 => lengthIs 1 rest
    | 1 => lengthIs 6 rest
    | _ => some .outOfRange

/-- The length check of REQUEST-SLOT by its form (R188, R207). -/
def requestLength : List Byte → Option Status
  | [] => some .malformed
  | f :: rest =>
    match f.toNat with
    | 0 => lengthIs 2 rest
    | 1 => lengthIs 0 rest
    | _ => some .outOfRange

/-- The length check of a command's parameters (R188, R207); none when it passes. -/
def lengthFailure : CommandRow → List Byte → Option Status
  | .load, _ => none
  | .commit, p => lengthIs 1 p
  | .readTable, p => lengthIs 4 p
  | .queryModule, p => queryModuleLength p
  | .querySlot, p => lengthIs 3 p
  | .slotEmpty, p | .slotHolds, p | .slotBlock, p | .slotUnblock, p | .moduleToPool, p
  | .moduleGone, p => inventoryLength p
  | .orderDone, p => lengthIs 3 p
  | .requestSlotFill, p | .requestSlotWake, p => requestLength p
  | .retireSlot, p => lengthIs 2 p
  | .halt, p | .resume, p | .clearEngine, p | .readStatus, p => lengthIs 0 p
  | .readCounters, p => lengthIs 1 p
  | .unknown, _ => some .unknownCommand

/-- Data echoed by a command that fails the controller check: ORDER-DONE echoes its parameters with any status
(R175, R207; log 10). -/
def echoedData : CommandRow → List Byte → List BodyChar
  | .orderDone, [a, b, c] => known [a, b, c]
  | _, _ => []

/-- Whether the controller address admits a source (R188). -/
def State.permits (s : State) (source : Byte) : Bool :=
  match s.mu.active.bank.controller with
  | none => true
  | some a => decide (a = source)

/-- The common checks in the order of R188, and the command's own execution when they pass. -/
def State.answerCommand (s : State) (row : CommandRow) (meaning : List Byte → State → Answer) (f : Frame) :
    Answer :=
  match f.body with
  | _ :: _ :: params =>
    if s.permits f.source then
      match lengthFailure row params with
      | some status => answer s status
      | none => meaning params s
    else { state := s, status := .notPermitted, data := echoedData row params }
  | _ => answer s .malformed

/-- The operation code and token a REPLY echoes, 0 for what is missing (R188). -/
def echo : List Byte → List Byte
  | op :: token :: _ => [op, token]
  | [op] => [op, 0]
  | [] => [0, 0]

/-- The REPLY offered to the Ring Port (R187), addressed to the command's source; the characters the manual
does not state are drawn (log 8). -/
def offerReply (f : Frame) (a : Answer) : State :=
  { a.state with
    mu := { a.state.mu with
      reply := some
        { destination := f.source
          body := echo f.body ++ [BitVec.ofNat 8 a.status.code] ++ fillIn a.state.freeCount a.data } }
    freeCount := a.state.freeCount + openCount a.data }

/-- A command executed (R187): when the previous REPLY has been admitted and the head of the command input
queue is a command of the row, it is taken, checked, executed and answered. -/
def State.execute (s : State) (row : CommandRow) (meaning : List Byte → State → Answer) : State :=
  match s.mu.reply, s.mu.commandQueue with
  | none, f :: rest =>
    if rowOf f.body = row then offerReply f ((s.setCommands rest).answerCommand row meaning f) else s
  | _, _ => s

/-- A slot that two parameters name, if they name one in use (R107, R119, R140). -/
def State.slotNamed (s : State) (string position : Byte) : Option SlotId :=
  match indexOf 8 string.toNat, indexOf 16 position.toNat with
  | some i, some p =>
    if s.slotInUse { string := i, position := p } then some { string := i, position := p } else none
  | _, _ => none

/-! ## LOAD and COMMIT -/

/-- Whether a mask names the table of a chunk (R190). -/
def Chunk.collides (mask : BitVec 5) (c : Chunk) : Bool :=
  match c.table with
  | some t => names mask t
  | none => false

/-- The ordinal of the first chunk whose table a pending commit names (R190). -/
def State.collision (s : State) (cs : List Chunk) : Option Nat :=
  match s.mu.pendingCommit with
  | none => none
  | some mask =>
    (cs.find? (Chunk.collides mask)).map Chunk.ordinal

/-- The writes of entries, or the first entry that fails its ranges, by chunk ordinal and index (R190). -/
def writesOf : List (Nat × Table × List Byte) → Except (Nat × Byte) (List EntryWrite)
  | [] => .ok []
  | (ordinal, t, chars) :: rest =>
    match entryWriteOf t chars with
    | none => .error (ordinal, chars.headD 0)
    | some w =>
      match writesOf rest with
      | .error x => .error x
      | .ok ws => .ok (w :: ws)

/-- The state with the shadow tables replaced. -/
def State.setShadow (s : State) (t : Tables) : State := { s with mu := { s.mu with shadow := t } }

/-- LOAD of a body of chunks (R189, R190). -/
def loadChunks (params : List Byte) (s : State) : Answer :=
  match chunksOf params.length 1 params with
  | .error k => { state := s, status := .malformed, data := one k ++ one 255 }
  | .ok cs =>
    match s.collision cs with
    | some k => { state := s, status := .collision, data := one k ++ one 255 }
    | none =>
      match writesOf (cs.flatMap Chunk.entries) with
      | .error (k, i) => { state := s, status := .outOfRange, data := one k ++ known [i] }
      | .ok ws =>
        { state := s.setShadow (ws.foldl Tables.write s.mu.shadow), status := .ok
          data := one ws.length ++ one (cs.filter fun c => c.table.isNone).length }

/-- COMMIT (R191): accepted and pending, and settled in the same execution when its safe point is already
reached; a selection that is then due is made (R143). -/
def commitMask (params : List Byte) (s : State) : Answer :=
  match params with
  | [m] =>
    if m.toNat = 0 ∨ 31 < m.toNat then answer s .outOfRange
    else
      match s.mu.pendingCommit with
      | some _ => answer s .state
      | none =>
        { state := (s.setPendingCommit (some (m.setWidth 5))).settleIfSafe.selectIfDue
          status := .accepted, data := known [m] }
  | _ => answer s .malformed

/-! ## READ-TABLE -/

/-- Characters of one entry in READ-TABLE: an active Station Table entry is followed by its live fields
(R196). -/
def readSize (t : Table) (active : Bool) : Nat :=
  if t = .stat ∧ active = true then t.entrySize + 11 else t.entrySize

/-- One entry of a table copy, its index first (R196, R209). -/
def State.tableEntry (s : State) (t : Table) (active : Bool) (k : Nat) : List BodyChar :=
  let copy := if active then s.mu.active else s.mu.shadow
  one k ++
    match t with
    | .orig => match indexOf 16 k with | some i => originClassChars (copy.orig.get i) | none => []
    | .rule => match indexOf 96 k with | some i => gradingRuleChars (copy.rule.get i) | none => []
    | .pcls => match indexOf 8 k with | some i => pairingClassChars (copy.pcls.get i) | none => []
    | .stat =>
      match indexOf 32 k with
      | some i => stationChars (copy.stat.get i) ++ (if active then liveChars (s.live i) else [])
      | none => []
    | .bank => bankSettingsChars copy.bank

/-- How many entries a READ-TABLE returns: the count asked, to the end of the table, and whole entries in 240
body characters of which seven are taken (R196). -/
def entriesReturned (t : Table) (active : Bool) (first count : Nat) : Nat :=
  min (min count (t.size - first)) ((Config.bodyMax - 7) / readSize t active)

/-- READ-TABLE (R196). -/
def readTableEntries (params : List Byte) (s : State) : Answer :=
  match params with
  | [t, c, first, count] =>
    match tableOf t.toNat, flagOf c.toNat with
    | some table, some shadow =>
      if first.toNat < table.size then
        let n := entriesReturned table (!shadow) first.toNat count.toNat
        { state := s, status := .ok
          data := known [t, c, first] ++ one n ++
            (List.range n).flatMap fun k => s.tableEntry table (!shadow) (first.toNat + k) }
      else answer s .outOfRange
    | _, _ => answer s .outOfRange
  | _ => answer s .malformed

/-! ## Queries -/

/-- The answer of QUERY-MODULE for a record (R54, R207). -/
def State.moduleAnswer (s : State) (i : ModuleIndex) : Answer :=
  { state := s, status := .ok, data := moduleRecordChars i (s.record i) (s.pe.poolWait.contains i) }

/-- QUERY-MODULE (R54). -/
def queryModuleRecord (params : List Byte) (s : State) : Answer :=
  match params with
  | [_, i] =>
    match indexOf 192 i.toNat with
    | some i => s.moduleAnswer i
    | none => answer s .outOfRange
  | [_, t0, t1, t2, t3, t4, t5] =>
    let tag := tagOf [t0, t1, t2, t3, t4, t5]
    if validTag tag then
      match s.findTag tag with
      | some i => s.moduleAnswer i
      | none => answer s .notFound
    else answer s .outOfRange
  | _ => answer s .malformed

/-- The module a slot shows: its occupant, or a live order's outgoing module (R125). -/
def SlotRecord.module : SlotRecord → Option ModuleRef
  | .occupied m => some m
  | .reserved _ m => m
  | .unknown | .empty | .blocked => none

/-- The order number a RESERVED slot shows (R125). -/
def State.slotNumber (s : State) (x : SlotRecord) : Option Byte :=
  match x with
  | .reserved o _ => (s.order o).order?.map Order.number
  | .unknown | .empty | .occupied _ | .blocked => none

/-- The slot entry of a position (R125). -/
def State.slotEntry (s : State) (i : Fin 8) (p : Nat) : List BodyChar :=
  match indexOf 16 p with
  | some k =>
    let x := s.slot { string := i, position := k }
    slotEntryChars k x (x.module.map fun m => (m, (s.record m.index).tag)) (s.slotNumber x)
      (s.request { string := i, position := k })
  | none => []

/-- QUERY-SLOT (R125): at most the positions of the string from the first on; sixteen entries always fit. -/
def querySlotEntries (params : List Byte) (s : State) : Answer :=
  match params with
  | [st, first, count] =>
    match indexOf 8 st.toNat with
    | some i =>
      if i.val < s.mu.active.bank.stringsInUse ∧ first.toNat < s.mu.active.bank.positions then
        let n := min count.toNat (s.mu.active.bank.positions - first.toNat)
        { state := s, status := .ok
          data := stringRecordChars (s.string i) ++ one n ++
            (List.range n).flatMap fun k => s.slotEntry i (first.toNat + k) }
      else answer s .outOfRange
    | none => answer s .outOfRange
  | _ => answer s .malformed

/-! ## INVENTORY, slot forms -/

/-- An INVENTORY form answered OK with its form code (R207). -/
def inventoryOk (s : State) (form : Nat) : Answer := { state := s, status := .ok, data := one form }

/-- SLOT-EMPTY of an OCCUPIED slot (R120): the occupant FREE, the request withdrawn, the slot EMPTY with a fresh
READY FILL request, the references recomputed. -/
def State.emptyOccupied (s : State) (p : SlotId) (m : ModuleRef) : State :=
  ((((s.claim m [.inService, .watch] ModuleRecord.freed).withdraw p).setSlot p .empty).raiseRequest p
    .fill .ready).recompute p.string

/-- INVENTORY SLOT-EMPTY on a slot in use (R119, R120). -/
def State.slotEmptyAt (s : State) (p : SlotId) : Answer :=
  match s.slot p with
  | .unknown => inventoryOk ((s.setSlot p .empty).raiseRequest p .fill .ready).selectIfDue 0
  | .empty => inventoryOk (s.raiseRequest p .fill .ready).selectIfDue 0
  | .occupied m => inventoryOk (s.emptyOccupied p m).selectIfDue 0
  | .reserved _ _ => answer s .state
  | .blocked => answer s .state

/-- INVENTORY SLOT-EMPTY (R120). -/
def inventorySlotEmpty (params : List Byte) (s : State) : Answer :=
  match params with
  | [_, st, po] =>
    match s.slotNamed st po with
    | some p => s.slotEmptyAt p
    | none => answer s .outOfRange
  | _ => answer s .malformed

/-- A record as SLOT-HOLDS puts it in service in a slot (R122). -/
def ModuleRecord.heldIn (r : ModuleRecord) (p : SlotId) : ModuleRecord :=
  { r with state := .inService, location := .slot p, departed := false, order := none }

/-- A record as SLOT-HOLDS adopts it for a slot (R122): a new generation and the tag, all else cleared. -/
def ModuleRecord.adopted (r : ModuleRecord) (tag : Tag) (p : SlotId) : ModuleRecord :=
  { ModuleRecord.cleared (r.generation + 1) with state := .inService, tag := tag, location := .slot p }

/-- The previous occupant of an OCCUPIED slot becomes FREE (R122). -/
def State.displace (s : State) (p : SlotId) : State :=
  match s.slot p with
  | .occupied m => s.claim m [.inService, .watch] ModuleRecord.freed
  | .unknown | .empty | .reserved _ _ | .blocked => s

/-- The slot names the record put in it, its request is withdrawn, the references are recomputed (R122). -/
def State.occupy (s : State) (p : SlotId) (i : ModuleIndex) : State :=
  ((s.setSlot p (.occupied (s.refOf i))).withdraw p).recompute p.string

/-- A HELD, POOLED or pool-waiting record taken for a slot (R121, R122): it leaves the pool or the pool-wait
list, and the first pool-waiting record takes a pool member's place. -/
def State.takeFor (s : State) (p : SlotId) (i : ModuleIndex) : State :=
  let t := (s.displace p).setRecord i ((s.record i).heldIn p)
  let u :=
    match (s.record i).state with
    | .pooled => t.leavePool i
    | .graded => t.leavePoolWait i
    | _ => t
  u.occupy p i

/-- A FREE record adopted for a slot (R122). -/
def State.adoptFor (s : State) (p : SlotId) (i : ModuleIndex) (tag : Tag) : State :=
  ((s.displace p).setRecord i (((s.displace p).record i).adopted tag p)).occupy p i

/-- Whether SLOT-HOLDS takes a record in its state (R121). -/
def ModuleRecord.takable (r : ModuleRecord) : Bool :=
  decide (r.state = .held) || decide (r.state = .pooled) || r.poolWaiting

/-- SLOT-HOLDS on an UNKNOWN, EMPTY or OCCUPIED slot (R121). -/
def State.holdAt (s : State) (p : SlotId) (tag : Tag) : Answer :=
  match s.findTag tag with
  | some i =>
    if s.slot p = .occupied (s.refOf i) then inventoryOk s 1
    else if (s.record i).takable then inventoryOk (s.takeFor p i).selectIfDue 1
    else answer s .state
  | none =>
    match (s.displace p).lowestFree with
    | some i => inventoryOk (s.adoptFor p i tag).selectIfDue 1
    | none => answer s .full

/-- INVENTORY SLOT-HOLDS (R119, R121). -/
def inventorySlotHolds (params : List Byte) (s : State) : Answer :=
  match params with
  | [_, st, po, t0, t1, t2, t3, t4, t5] =>
    let tag := tagOf [t0, t1, t2, t3, t4, t5]
    match s.slotNamed st po with
    | some p =>
      if validTag tag then
        match s.slot p with
        | .reserved _ _ => answer s .state
        | .blocked => answer s .state
        | .unknown | .empty | .occupied _ => s.holdAt p tag
      else answer s .outOfRange
    | none => answer s .outOfRange
  | _ => answer s .malformed

/-- INVENTORY SLOT-BLOCK (R123). -/
def inventorySlotBlock (params : List Byte) (s : State) : Answer :=
  match params with
  | [_, st, po] =>
    match s.slotNamed st po with
    | some p =>
      match s.slot p with
      | .empty => inventoryOk ((s.setSlot p .blocked).withdraw p) 2
      | .unknown => inventoryOk ((s.setSlot p .blocked).withdraw p) 2
      | .occupied _ | .reserved _ _ | .blocked => answer s .state
    | none => answer s .outOfRange
  | _ => answer s .malformed

/-- INVENTORY SLOT-UNBLOCK (R123). -/
def inventorySlotUnblock (params : List Byte) (s : State) : Answer :=
  match params with
  | [_, st, po] =>
    match s.slotNamed st po with
    | some p =>
      match s.slot p with
      | .blocked => inventoryOk ((s.setSlot p .empty).raiseRequest p .fill .ready).selectIfDue 3
      | .unknown | .empty | .occupied _ | .reserved _ _ => answer s .state
    | none => answer s .outOfRange
  | _ => answer s .malformed

/-! ## INVENTORY, module forms -/

/-- MODULE-TO-POOL of a record found (R55). -/
def State.toPool (s : State) (i : ModuleIndex) : Answer :=
  if (s.record i).state = .held ∧ poolable (s.record i).resolved = true then
    if s.poolHasRoom then inventoryOk (s.enterPool i).selectIfDue 4 else answer s .full
  else answer s .state

/-- INVENTORY MODULE-TO-POOL (R55). -/
def inventoryModuleToPool (params : List Byte) (s : State) : Answer :=
  match params with
  | [_, t0, t1, t2, t3, t4, t5] =>
    let tag := tagOf [t0, t1, t2, t3, t4, t5]
    if validTag tag then
      match s.findTag tag with
      | some i => s.toPool i
      | none => answer s .notFound
    else answer s .outOfRange
  | _ => answer s .malformed

/-- MODULE-GONE of a record found (R56): a HELD, POOLED or pool-waiting record becomes FREE. -/
def State.forget (s : State) (i : ModuleIndex) : Answer :=
  match (s.record i).state with
  | .held => inventoryOk (s.freeRecord i).selectIfDue 5
  | .pooled => inventoryOk ((s.freeRecord i).leavePool i).selectIfDue 5
  | _ =>
    if (s.record i).poolWaiting then inventoryOk ((s.freeRecord i).leavePoolWait i).selectIfDue 5
    else answer s .state

/-- INVENTORY MODULE-GONE (R56). -/
def inventoryModuleGone (params : List Byte) (s : State) : Answer :=
  match params with
  | [_, t0, t1, t2, t3, t4, t5] =>
    let tag := tagOf [t0, t1, t2, t3, t4, t5]
    if validTag tag then
      match s.findTag tag with
      | some i => s.forget i
      | none => answer s .notFound
    else answer s .outOfRange
  | _ => answer s .malformed

/-! ## ORDER-DONE -/

/-- The order of a number (R175). -/
def State.orderNumbered (s : State) (n : Byte) : Option (OrderIndex × Order) :=
  match lowest (OrderRecord.numbered n) s.ot.table with
  | some i => (s.order i).order?.map fun o => (i, o)
  | none => none

/-- ORDER-DONE of a number with a result (R175 to R179). -/
def State.reportOrder (s : State) (n : Byte) (done : Bool) : Answer :=
  match s.orderNumbered n with
  | some (i, o) =>
    match o.stage with
    | .issued _ => answer ((if done then s.endDone i o else s.endRefused i o).closeOrder i o) .ok
    | .deferred | .issuing => answer s .state
  | none => if s.ot.expired.contains n then answer s .late else answer s .notFound

/-- ORDER-DONE (R175): its REPLY echoes its parameters whatever the answer. -/
def reportOrderDone (params : List Byte) (s : State) : Answer :=
  match params with
  | [n, r, reason] =>
    match flagOf r.toNat with
    | some refused => { s.reportOrder n (!refused) with data := known [n, r, reason] }
    | none => { answer s .outOfRange with data := known [n, r, reason] }
  | _ => answer s .malformed

/-! ## REQUEST-SLOT and RETIRE-SLOT -/

/-- REQUEST-SLOT FILL on a slot in use (R140). -/
def State.requestFillAt (s : State) (p : SlotId) : Answer :=
  match s.request p with
  | some q =>
    match q.status with
    | .waiting => answer (s.updateRequest p Request.woken).selectIfDue .ok
    | .ready | .selected => answer s .state
  | none =>
    match s.slot p with
    | .empty => answer (s.raiseRequest p .fill .ready).selectIfDue .ok
    | .unknown | .occupied _ | .reserved _ _ | .blocked => answer s .state

/-- REQUEST-SLOT FILL (R140). -/
def requestFill (params : List Byte) (s : State) : Answer :=
  match params with
  | [_, st, po] =>
    match s.slotNamed st po with
    | some p => s.requestFillAt p
    | none => answer s .outOfRange
  | _ => answer s .malformed

/-- The number of WAITING requests (R141). -/
def State.waitingCount (s : State) : Nat := (s.pe.requests.filter fun q => decide (q.status = .waiting)).length

/-- REQUEST-SLOT WAKE (R141). -/
def requestWake (_params : List Byte) (s : State) : Answer :=
  { state := s.wakeAll.selectIfDue, status := .ok, data := one s.waitingCount }

/-- RETIRE-SLOT of an OCCUPIED slot (R142): the occupant WATCH, a REMOVE request raised. -/
def State.retireAt (s : State) (p : SlotId) (m : ModuleRef) : State :=
  (s.claim m [.inService, .watch] fun r => r.inState .watch).raiseRequest p .remove .ready

/-- RETIRE-SLOT (R142). -/
def retire (params : List Byte) (s : State) : Answer :=
  match params with
  | [st, po] =>
    match s.slotNamed st po with
    | some p =>
      match s.slot p with
      | .occupied m => answer (s.retireAt p m).selectIfDue .ok
      | .unknown | .empty | .reserved _ _ | .blocked => answer s .state
    | none => answer s .outOfRange
  | _ => answer s .malformed

/-! ## Mode, clearing, counters, status -/

/-- The state with the engine mode replaced. -/
def State.setMode (s : State) (m : EngineMode) : State := { s with mu := { s.mu with mode := m } }

/-- HALT (R195). -/
def haltEngine (_params : List Byte) (s : State) : Answer := answer (s.setMode .halted) .ok

/-- Every last sequence made NONE (R34). -/
def State.forgetSequences (s : State) : State :=
  { s with iu := { s.iu with live := mapEntries (fun l => { l with lastSequence := none }) s.iu.live } }

/-- RESUME (R34, R195): a change to RUN forgets the last sequences, and a selection that is due is made. -/
def resumeEngine (_params : List Byte) (s : State) : Answer :=
  match s.mu.mode with
  | .run => answer s .ok
  | .halted => answer (s.setMode .run).forgetSequences.selectIfDue .ok

/-- CLEAR-ENGINE (R197), and the settling of a commit pending through it (R198). -/
def clearEngineNow (_params : List Byte) (s : State) : Answer := answer s.clearEngine.settleIfSafe .ok

/-- The six counters in the order of READ-COUNTERS (R207). -/
def countersChars (c : Counters) : List BodyChar :=
  two c.rxDamaged ++ two c.transitOverrun ++ two c.intakeOverrun ++ two c.cmdOverrun ++
    two c.samplesIgnored ++ two c.syncLosses

/-- The state with the error counters replaced. -/
def State.setCounters (s : State) (c : Counters) : State := { s with rp := { s.rp with counters := c } }

/-- READ-COUNTERS (R17, R199). -/
def readErrorCounters (params : List Byte) (s : State) : Answer :=
  match params with
  | [f] =>
    match flagOf f.toNat with
    | some clear =>
      { state := if clear then s.setCounters .zero else s, status := .ok
        data := countersChars s.rp.counters }
    | none => answer s .outOfRange
  | _ => answer s .malformed

/-- Code of the engine mode (R207). -/
def EngineMode.code : EngineMode → Nat
  | .halted => 0
  | .run => 1

/-- Code of the link state (R207). -/
def LinkState.code : LinkState → Nat
  | .hunt => 0
  | .confirm => 1
  | .locked => 2

/-- The number of records in a state (R200). -/
def State.countState (s : State) (st : ModuleState) : Nat :=
  (s.mr.records.toList.filter fun r => decide (r.state = st)).length

/-- The number of requests with a status (R200). -/
def State.countStatus (s : State) (st : RequestStatus) : Nat :=
  (s.pe.requests.filter fun q => decide (q.status = st)).length

/-- The number of live Order Table records (R168, R200). -/
def State.liveOrders (s : State) : Nat :=
  (s.ot.table.toList.filter fun r => decide (r ≠ .free)).length

/-- Whether a record is an ISSUED order (R200). -/
def OrderRecord.isIssued (r : OrderRecord) : Bool :=
  match r with
  | .order { stage := .issued _, .. } => true
  | _ => false

/-- The number of ISSUED orders (R200). -/
def State.issuedOrders (s : State) : Nat := (s.ot.table.toList.filter OrderRecord.isIssued).length

/-- The pending notice kinds in one character: bit k - 1 for the kind of code k (R207). -/
def noticeBits (ns : List Notice) : Nat :=
  (ns.foldl (fun b n => b ||| (1#8 <<< (n.argument.kindCode - 1))) 0#8).toNat

/-- The ten states in the order of their codes (R207). -/
def allStates : List ModuleState :=
  [.free, .settling, .testing, .graded, .pooled, .assigned, .inService, .watch, .outbound, .held]

/-- The 23 characters of READ-STATUS (R200, R207). -/
def State.statusChars (s : State) : List BodyChar :=
  one s.mu.mode.code ++ one (match s.mu.pendingCommit with | some m => m.toNat | none => 0) ++
    one s.rp.link.code ++ known [s.mu.ownAddress, controllerChar s.mu.active.bank.controller] ++
    allStates.flatMap (fun st => one (s.countState st)) ++ one s.pe.poolWait.length ++
    one s.pe.pool.length ++ one (s.countStatus .ready) ++ one (s.countStatus .waiting) ++
    one (s.countStatus .selected) ++ one s.liveOrders ++ one s.issuedOrders ++
    one (noticeBits s.mu.notices)

/-- READ-STATUS (R200). -/
def readEngineStatus (_params : List Byte) (s : State) : Answer :=
  { state := s, status := .ok, data := s.statusChars }

/-- A command whose operation code names none never passes the checks (R188). -/
def noCommand (_params : List Byte) (s : State) : Answer := answer s .unknownCommand

/-! ## The commands -/

/-- LOAD (R189). -/
def execLoad (s : State) : Host.Outcome State Fault Refusal := .next (s.execute .load loadChunks)

/-- COMMIT (R191). -/
def execCommit (s : State) : Host.Outcome State Fault Refusal := .next (s.execute .commit commitMask)

/-- READ-TABLE (R196). -/
def execReadTable (s : State) : Host.Outcome State Fault Refusal :=
  .next (s.execute .readTable readTableEntries)

/-- QUERY-MODULE (R54). -/
def execQueryModule (s : State) : Host.Outcome State Fault Refusal :=
  .next (s.execute .queryModule queryModuleRecord)

/-- QUERY-SLOT (R125). -/
def execQuerySlot (s : State) : Host.Outcome State Fault Refusal :=
  .next (s.execute .querySlot querySlotEntries)

/-- INVENTORY SLOT-EMPTY (R120). -/
def execSlotEmpty (s : State) : Host.Outcome State Fault Refusal :=
  .next (s.execute .slotEmpty inventorySlotEmpty)

/-- INVENTORY SLOT-HOLDS (R121). -/
def execSlotHolds (s : State) : Host.Outcome State Fault Refusal :=
  .next (s.execute .slotHolds inventorySlotHolds)

/-- INVENTORY SLOT-BLOCK (R123). -/
def execSlotBlock (s : State) : Host.Outcome State Fault Refusal :=
  .next (s.execute .slotBlock inventorySlotBlock)

/-- INVENTORY SLOT-UNBLOCK (R123). -/
def execSlotUnblock (s : State) : Host.Outcome State Fault Refusal :=
  .next (s.execute .slotUnblock inventorySlotUnblock)

/-- INVENTORY MODULE-TO-POOL (R55). -/
def execModuleToPool (s : State) : Host.Outcome State Fault Refusal :=
  .next (s.execute .moduleToPool inventoryModuleToPool)

/-- INVENTORY MODULE-GONE (R56). -/
def execModuleGone (s : State) : Host.Outcome State Fault Refusal :=
  .next (s.execute .moduleGone inventoryModuleGone)

/-- ORDER-DONE (R175). -/
def execOrderDone (s : State) : Host.Outcome State Fault Refusal :=
  .next (s.execute .orderDone reportOrderDone)

/-- REQUEST-SLOT FILL (R140). -/
def execRequestSlotFill (s : State) : Host.Outcome State Fault Refusal :=
  .next (s.execute .requestSlotFill requestFill)

/-- REQUEST-SLOT WAKE (R141). -/
def execRequestSlotWake (s : State) : Host.Outcome State Fault Refusal :=
  .next (s.execute .requestSlotWake requestWake)

/-- RETIRE-SLOT (R142). -/
def execRetireSlot (s : State) : Host.Outcome State Fault Refusal := .next (s.execute .retireSlot retire)

/-- HALT (R195). -/
def execHalt (s : State) : Host.Outcome State Fault Refusal := .next (s.execute .halt haltEngine)

/-- RESUME (R195). -/
def execResume (s : State) : Host.Outcome State Fault Refusal := .next (s.execute .resume resumeEngine)

/-- CLEAR-ENGINE (R197). -/
def execClearEngine (s : State) : Host.Outcome State Fault Refusal :=
  .next (s.execute .clearEngine clearEngineNow)

/-- READ-COUNTERS (R199). -/
def execReadCounters (s : State) : Host.Outcome State Fault Refusal :=
  .next (s.execute .readCounters readErrorCounters)

/-- READ-STATUS (R200). -/
def execReadStatus (s : State) : Host.Outcome State Fault Refusal :=
  .next (s.execute .readStatus readEngineStatus)

/-- UNKNOWN-COMMAND (R188): a body too short for an operation code and token, or an operation code that names
no command. -/
def execUnknownCommand (s : State) : Host.Outcome State Fault Refusal :=
  .next (s.execute .unknown noCommand)

end Sys2Proof.Machine
end

