-- ==== Sys2Proof/Machine/Dispatch.lean ====
section
/-! DEFINITION. exec: one arm per command, each a call of its meaning. -/

namespace Sys2Proof.Machine

def exec (i : Instr) (s : State) : Host.Outcome State Fault Refusal :=
  match i with
  | .resetnAssert => Sys2Proof.Machine.execResetnAssert s
  | .resetnRelease straps => Sys2Proof.Machine.execResetnRelease straps s
  | .characterReceived c => Sys2Proof.Machine.execCharacterReceived c s
  | .egressDecision => Sys2Proof.Machine.execEgressDecision s
  | .replyAdmission => Sys2Proof.Machine.execReplyAdmission s
  | .orderAdmission => Sys2Proof.Machine.execOrderAdmission s
  | .verdictAdmission => Sys2Proof.Machine.execVerdictAdmission s
  | .noticeAdmission => Sys2Proof.Machine.execNoticeAdmission s
  | .arrive => Sys2Proof.Machine.execArrive s
  | .depart => Sys2Proof.Machine.execDepart s
  | .measure => Sys2Proof.Machine.execMeasure s
  | .evaluationCompletion => Sys2Proof.Machine.execEvaluationCompletion s
  | .settleExpiry record => Sys2Proof.Machine.execSettleExpiry record s
  | .selection => Sys2Proof.Machine.execSelection s
  | .choiceCompletion => Sys2Proof.Machine.execChoiceCompletion s
  | .orderExpiry order => Sys2Proof.Machine.execOrderExpiry order s
  | .commitSafePoint => Sys2Proof.Machine.execCommitSafePoint s
  | .load => Sys2Proof.Machine.execLoad s
  | .commit => Sys2Proof.Machine.execCommit s
  | .readTable => Sys2Proof.Machine.execReadTable s
  | .queryModule => Sys2Proof.Machine.execQueryModule s
  | .querySlot => Sys2Proof.Machine.execQuerySlot s
  | .slotEmpty => Sys2Proof.Machine.execSlotEmpty s
  | .slotHolds => Sys2Proof.Machine.execSlotHolds s
  | .slotBlock => Sys2Proof.Machine.execSlotBlock s
  | .slotUnblock => Sys2Proof.Machine.execSlotUnblock s
  | .moduleToPool => Sys2Proof.Machine.execModuleToPool s
  | .moduleGone => Sys2Proof.Machine.execModuleGone s
  | .orderDone => Sys2Proof.Machine.execOrderDone s
  | .requestSlotFill => Sys2Proof.Machine.execRequestSlotFill s
  | .requestSlotWake => Sys2Proof.Machine.execRequestSlotWake s
  | .retireSlot => Sys2Proof.Machine.execRetireSlot s
  | .halt => Sys2Proof.Machine.execHalt s
  | .resume => Sys2Proof.Machine.execResume s
  | .clearEngine => Sys2Proof.Machine.execClearEngine s
  | .readCounters => Sys2Proof.Machine.execReadCounters s
  | .readStatus => Sys2Proof.Machine.execReadStatus s
  | .unknownCommand => Sys2Proof.Machine.execUnknownCommand s

end Sys2Proof.Machine
end

