-- ==== Sys2Proof/Machine/Idle.lean ====
section
/-! DEFINITION. What happens when no command waits: time passes (log 3), and what runs out expires (log 4). -/

namespace Sys2Proof.Machine

/-- The search of an evaluation in progress ends (04 section 4.10). -/
def State.endSearch (s : State) : State :=
  s.setEvaluation (s.ge.evaluation.map fun e => { e with found := some (s.searchResult e) })

/-- The scan of a choice in progress moves on by one member (R150). -/
def State.scan (s : State) : State := s.setChoice (s.pe.choice.map Choice.scanOne)

/-- One millisecond (DESIGN CHOICE, log 3): the time base advances, the search of an evaluation in progress ends,
and the scan of a choice in progress moves on by one member. -/
def State.tick (s : State) : State := { s.endSearch.scan with timeBase := s.timeBase + 1 }

/-- The expiry of what ends first: of timers and deadlines that end at one instant, the timers before the deadlines
and each by ascending index (DESIGN CHOICE, log 4). -/
def State.firstExpiry (s : State) : State :=
  match lowest (fun x => s.endsFirst (timerEnd x)) s.ge.settleTimers with
  | some i => s.settleExpiry i
  | none =>
    match lowest (fun r => s.endsFirst r.deadline) s.ot.table with
    | some i => s.orderExpiry i
    | none => s

/-- What happens with no command: a millisecond passes, unless a timer or a deadline has elapsed, whose expiry
then comes before it, so that none outlasts its time (R61, R180). -/
def idle (s : State) : State := if s.noneEndsBefore (s.timeBase + 1) then s.tick else s.firstExpiry

end Sys2Proof.Machine
end

