-- ==== Sys2Proof/Machine/Step.lean ====
section
/-! DEFINITION. One step: the command at the front of the queue, or, on an empty queue, the passing of
time (log 3) and the expiry of what has run out (log 4). -/

namespace Sys2Proof.Machine

/-- The step: exec of the front command on the state with the queue's rest; on an empty queue one
millisecond passes, or a timer or deadline that has elapsed expires (DESIGN CHOICE, logs 3 and 4). -/
def step (s : State) : Host.Outcome State Fault Refusal :=
  match s.pending with
  | [] => .next (idle s)
  | i :: rest => exec i { s with pending := rest }

/-- The state with the command a word spells at the front of its queue; no word spells one, since the
opcode table gives no row any bits. -/
def State.withFetchWord (s : State) (nbits w : Nat) : State :=
  match decodeTableWord nbits w with
  | some i => { s with pending := i :: s.pending }
  | none => s

end Sys2Proof.Machine
end

