-- ==== Sys2Proof/Safety.lean ====
section
/-! DEFINITION. What claims are stated with: the invariants of the part, a command ready for execution, the
REPLY that ends it, and the ranges of table entries. -/

namespace Sys2Proof.Machine

/-! ## Commands -/

/-- The Management Unit may take the head of its queue, a command of an operation code from a source the
controller address admits, with these parameters (R187, R188). -/
structure CommandReady (s : State) (f : Frame) (rest : List Frame) (op token : Byte) (params : List Byte) :
    Prop where
  replied   : s.mu.reply = none
  head      : s.mu.commandQueue = f :: rest
  body      : f.body = op :: token :: params
  permitted : s.mu.active.bank.controller = none ∨ s.mu.active.bank.controller = some f.source

/-- The state once the head of the command input queue is taken, `rest` being the queue's rest (R186). -/
def State.taken (s : State) (rest : List Frame) : State := s.setCommands rest

/-- The state with a REPLY offered to the Ring Port, addressed to the source of a command (R187). -/
def State.offered (s : State) (f : Frame) (body : List Byte) : State :=
  { s with mu := { s.mu with reply := some { destination := f.source, body := body } } }

/-- Two parameters name a slot, and it is in use under the active Bank Settings (R107, R119). -/
structure NamesSlot (s : State) (string position : Byte) (p : SlotId) : Prop where
  string   : string.toNat = p.string.val
  position : position.toNat = p.position.val
  inUse    : p.string.val < s.mu.active.bank.stringsInUse ∧ p.position.val < s.mu.active.bank.positions

/-- The one non-FREE record that holds a tag (R40, R42). -/
structure HoldsTag (s : State) (tag : Tag) (i : ModuleIndex) : Prop where
  held : (s.record i).state ≠ .free ∧ (s.record i).tag = tag
  only : ∀ j, (s.record j).state ≠ .free → (s.record j).tag = tag → j = i

/-- A module named by a slot or an order is in one of these states with the generation named (R41). -/
def State.standsIn (s : State) (m : ModuleRef) (states : List ModuleState) : Prop :=
  (s.record m.index).generation = m.generation ∧ (s.record m.index).state ∈ states

/-- The name of a table's chunk in LOAD (R209). -/
def Table.chunkName : Table → List Byte
  | .orig => [0x4F#8, 0x52#8, 0x49#8, 0x47#8]
  | .rule => [0x52#8, 0x55#8, 0x4C#8, 0x45#8]
  | .pcls => [0x50#8, 0x43#8, 0x4C#8, 0x53#8]
  | .stat => [0x53#8, 0x54#8, 0x41#8, 0x54#8]
  | .bank => [0x42#8, 0x41#8, 0x4E#8, 0x4B#8]

/-- A chunk of LOAD (R189, R209): of a table with its entries' characters, or of a name that is none's. -/
inductive LoadChunk where
  | known (t : Table) (entries : List (List Byte))
  | unknown (name content : List Byte)
  deriving DecidableEq, Repr

/-- The table a chunk is for, if its name is one's. -/
def LoadChunk.table? : LoadChunk → Option Table
  | .known t _ => some t
  | .unknown _ _ => none

/-- The characters of a chunk: its name, the length of what follows, and that (R209). -/
def LoadChunk.characters : LoadChunk → List Byte
  | .known t entries => t.chunkName ++ BitVec.ofNat 8 entries.flatten.length :: entries.flatten
  | .unknown name content => name ++ BitVec.ofNat 8 content.length :: content

/-- A chunk that LOAD can read: its length fits one character, the entries of a table have its entry size, and an
unknown name has four characters (R189, R209). -/
structure LoadChunk.WellFormed (c : LoadChunk) : Prop where
  known   : ∀ t entries, c = .known t entries →
    entries.flatten.length ≤ 255 ∧ ∀ e ∈ entries, e.length = t.entrySize
  unknown : ∀ name content, c = .unknown name content →
    content.length ≤ 255 ∧ name.length = 4 ∧ ∀ t : Table, name ≠ t.chunkName

/-- The characters of a LOAD body cannot be read as a chunk and what follows it (R189): its header or its entries run
past the end of the body, or its length is no multiple of the entry size of the table it names. -/
def ChunkFails (chars : List Byte) : Prop :=
  chars ≠ [] ∧ (chars.length < 5 ∨ ∃ name length rest, chars = name ++ length :: rest ∧ name.length = 4 ∧
    (rest.length < length.toNat ∨ ∃ t : Table, name = t.chunkName ∧ length.toNat % t.entrySize ≠ 0))

/-- The entries of chunks in body order, each with its chunk's ordinal, from `k` on, and its table (R190). -/
def entriesFrom : Nat → List LoadChunk → List (Nat × Table × List Byte)
  | _, [] => []
  | k, .known t entries :: cs => (entries.map fun e => (k, t, e)) ++ entriesFrom (k + 1) cs
  | k, .unknown _ _ :: cs => entriesFrom (k + 1) cs

/-- Each command's operation code, the form or selector code that opens its parameters where it has one, how many
parameters follow (none for LOAD, which takes any number), and the row that executes it (R207). -/
def commandRows : List (Byte × List Byte × Option Nat × Instr) :=
  [(1#8, [], none, .load), (2#8, [], some 1, .commit), (3#8, [], some 4, .readTable),
   (4#8, [0#8], some 1, .queryModule), (4#8, [1#8], some 6, .queryModule), (5#8, [], some 3, .querySlot),
   (7#8, [], some 3, .orderDone), (9#8, [], some 2, .retireSlot), (10#8, [], some 0, .halt),
   (11#8, [], some 0, .resume), (12#8, [], some 0, .clearEngine), (13#8, [], some 1, .readCounters),
   (14#8, [], some 0, .readStatus)] ++
  [(6#8, [0#8], some 2, .slotEmpty), (6#8, [1#8], some 8, .slotHolds), (6#8, [2#8], some 2, .slotBlock),
   (6#8, [3#8], some 2, .slotUnblock), (6#8, [4#8], some 6, .moduleToPool), (6#8, [5#8], some 6, .moduleGone),
   (8#8, [0#8], some 2, .requestSlotFill), (8#8, [1#8], some 0, .requestSlotWake)]

/-- A number in `k` characters, most significant first (10 section 10.7). -/
def bigEndian (k n : Nat) : List Byte := (List.range k).map fun j => BitVec.ofNat 8 (n / 256 ^ (k - 1 - j))

/-! ## RING-OUT and the Originate Queue -/

/-- What the egress arbiter decides with the queues of the first state, freed of what was sent, gives the second
(R15). -/
structure ArbiterDecides (w t : State) : Prop where
  nothing   : w.rp.transitQueue = [] → w.rp.originateQueue = [] →
    t = { w with rp := { w.rp with sending := .fill } }
  transit   : w.rp.transitQueue ≠ [] → w.rp.originateQueue = [] →
    t = { w with rp := { w.rp with sending := .transit } }
  originate : w.rp.transitQueue = [] → w.rp.originateQueue ≠ [] →
    t = { w with rp := { w.rp with sending := .originate, passOver := 0 } }
  passed    : w.rp.transitQueue ≠ [] → w.rp.originateQueue ≠ [] → w.rp.passOver < 2 →
    t = { w with rp := { w.rp with sending := .transit, passOver := w.rp.passOver + 1 } }
  turn      : w.rp.transitQueue ≠ [] → w.rp.originateQueue ≠ [] → 2 ≤ w.rp.passOver →
    t = { w with rp := { w.rp with sending := .originate, passOver := 0 } }

/-- A frame other than REPLY finds room in the Originate Queue (R14). -/
def State.othersFit (s : State) : Prop :=
  (s.rp.originateQueue.filter fun f => decide (f.kind ≠ 0x21#8)).length < 7 ∧ s.rp.originateQueue.length < 8

/-- An ORDER claim stands: an order is ISSUING (R14). -/
def State.orderStands (s : State) : Prop := ∃ i ∈ s.ot.creation, ∃ o, s.order i = .order o ∧ o.stage = .issuing

/-- The admission arbiter at work: while room remains it admits the claim first in order, as the row of that admission
does, until no room or no claim is left (R14). -/
inductive ClaimsAdmitted : State → State → Prop where
  | done (s : State) (h : s.othersFit → ¬ s.orderStands ∧ s.rp.verdictClaims = [] ∧ s.mu.notices = []) :
      ClaimsAdmitted s s
  | order (s t u : State) (room : s.othersFit) (stands : s.orderStands)
      (row : exec .orderAdmission s = .next t) (more : ClaimsAdmitted t u) : ClaimsAdmitted s u
  | verdict (s t u : State) (room : s.othersFit) (none : ¬ s.orderStands) (stands : s.rp.verdictClaims ≠ [])
      (row : exec .verdictAdmission s = .next t) (more : ClaimsAdmitted t u) : ClaimsAdmitted s u
  | notice (s t u : State) (room : s.othersFit) (none : ¬ s.orderStands) (verdicts : s.rp.verdictClaims = [])
      (stands : s.mu.notices ≠ []) (row : exec .noticeAdmission s = .next t) (more : ClaimsAdmitted t u) :
      ClaimsAdmitted s u

/-! ## Measurement records -/

/-- The head of the Intake Queue is a record the Grading Engine may take now (R27, R68). -/
structure MayTake (s : State) (r : MeasurementRecord) (rest : List MeasurementRecord) : Prop where
  head         : s.iu.intakeQueue = r :: rest
  noEvaluation : s.ge.evaluation = none
  noCommit     : s.mu.pendingCommit = none

/-- The six conditions under which a rule matches the sample of an evaluation (R71), with its window
(R72, R73) and its qualifier (R74). -/
structure RuleMatches (r : GradingRule) (e : Evaluation) : Prop where
  valid     : r.valid = true
  mask      : r.originMask.getLsbD e.originClass.val = true
  place     : r.applicability = .both ∨ r.applicability = .bay ∧ e.place = .bay ∨
    r.applicability = .service ∧ e.place = .service
  metric    : r.metric = e.metric
  absolute  : r.mode = .absolute → r.windowLow ≤ (e.value : Int) ∧ (e.value : Int) ≤ r.windowHigh
  relative  : r.mode = .relative → ∃ x, e.reference = some x ∧
    r.windowLow ≤ (e.value : Int) - (x : Int) ∧ (e.value : Int) - (x : Int) ≤ r.windowHigh
  qualifier : ∀ q, r.qualifier = some q → q.low ≤ e.temperature ∧ e.temperature ≤ q.high

/-- The evaluation in progress finds its record in a state its completion claim expects (R81). -/
structure CompletionApplies (s : State) (e : Evaluation) : Prop where
  inProgress : s.ge.evaluation = some e
  generation : (s.record e.module.index).generation = e.module.generation
  state      : e.place = .bay ∧ (s.record e.module.index).state = .testing ∨
    e.place = .service ∧ ((s.record e.module.index).state = .inService ∨
      (s.record e.module.index).state = .watch ∨ (s.record e.module.index).state = .outbound)

/-! ## Selection and the commit's safe point -/

/-- The five conditions of R143 hold together. -/
def State.selectionConditions (s : State) : Prop :=
  s.mu.mode = .run ∧ s.pe.choice = none ∧ s.mu.pendingCommit = none ∧ (∃ o, s.order o = .free) ∧
    ∃ q ∈ s.pe.requests, q.status = .ready

/-- Nothing the part does at once is left undone: no selection is due (R143), and a pending commit waits for an
evaluation or a choice (R192). -/
structure Settled (s : State) : Prop where
  noSelectionDue : ¬ s.selectionConditions
  commitWaits    : s.mu.pendingCommit ≠ none → s.ge.evaluation ≠ none ∨ s.pe.choice ≠ none

/-! ## Time -/

/-- No running settle timer and no running deadline ends before an instant (R61, R180). -/
structure NothingEndsBefore (s : State) (t : Nat) : Prop where
  timers    : ∀ i x, s.timer i = some x → t ≤ x.expiresAt
  deadlines : ∀ i o e, s.order i = .order o → o.stage = .issued e → t ≤ e

/-- The time base has not passed the end of a settle timer or of an order's deadline that still runs (R61, R180). -/
def NothingOverdue (s : State) : Prop := NothingEndsBefore s s.timeBase

/-! ## Capacities and the link -/

/-- Every queue and list that has a capacity, and every saturating counter, is within what its rule allows (R5, R12,
R13, R15, R17, R20, R24, R27, R35, R36, R38, R182, R186, R201); a measured value has two characters (R28). -/
structure WithinCapacities (s : State) : Prop where
  transit       : s.rp.transitQueue.length ≤ 4
  replies       : (s.rp.originateQueue.filter Frame.isReply).length ≤ 1
  others        : (s.rp.originateQueue.filter fun f => !f.isReply).length ≤ 7
  passOver      : s.rp.passOver ≤ 2
  window        : s.rp.window.length ≤ 32
  losses        : s.rp.lossesSince ≤ 65535
  counters      : ∀ c : Counter, s.rp.counters.get c ≤ 65535
  intake        : s.iu.intakeQueue.length ≤ 16
  lost          : ∀ e, (s.live e).lostCount ≤ 255
  commands      : s.mu.commandQueue.length ≤ 4
  notices       : (s.mu.notices.map fun n => n.argument.kindCode).Nodup
  noticeCounts  : ∀ n ∈ s.mu.notices, 1 ≤ n.count ∧ n.count ≤ 255
  expired       : s.ot.expired.length ≤ 8
  gaps          : ∀ i, (s.record i).gapCount ≤ 255
  watches       : ∀ i, (s.record i).watchCount ≤ 15
  arrivals      : s.mr.arrivalCounter ≤ 4294967295 ∧ ∀ i, (s.record i).arrival ≤ 4294967295
  confirmations : ∀ i m, ((s.record i).evidence.get m).confirmations ≤ 255
  unmatched     : ∀ i m, ((s.record i).evidence.get m).unmatched ≤ 255
  lastValues    : ∀ i m v, ((s.record i).evidence.get m).lastValue = some v → v ≤ 65535
  measured      : ∀ r ∈ s.iu.intakeQueue, ∀ m v w, r.content = .measure m v w → v ≤ 65535
  evaluated     : ∀ e, s.ge.evaluation = some e → e.value ≤ 65535

/-- The link is as its state says (R3 to R5, R7): frames are assembled in LOCKED alone, the window is empty
outside it and never holds four error flags, and the confirm count is that of CONFIRM. -/
structure LinkAgrees (s : State) : Prop where
  assembly : s.rp.link ≠ .locked → s.rp.assembly = none
  window   : s.rp.link ≠ .locked → s.rp.window = []
  errors   : errorsIn s.rp.window ≤ 3
  confirm  : s.rp.link ≠ .confirm → s.rp.confirmCount = 0
  confirms : s.rp.confirmCount ≤ 3

/-! ## Requests, pool and orders -/

/-- Every request stands for a slot in use in the state its kind needs, and no slot has two (R134). -/
structure RequestsFit (s : State) : Prop where
  inUse    : ∀ q ∈ s.pe.requests, s.slotInUse q.slot = true
  fits     : ∀ q ∈ s.pe.requests, slotFits (s.slot q.slot) q.kind = true
  distinct : (s.pe.requests.map Request.slot).Nodup

/-- Place of a resolved grade in the pool's key: A first, and so on to D (R128). REJECT and NONE, which no member has
(R52), come last. -/
def gradePlace : Option Grade → Nat
  | some .a => 0
  | some .b => 1
  | some .c => 2
  | some .d => 3
  | some .reject => 4
  | none => 5

/-- The key of the first record goes before that of the second (R128): a better resolved grade; in one grade, the
provisional mark clear before it is set; in one grade and mark, a smaller arrival number. -/
abbrev GoesBefore (x y : ModuleRecord) : Prop :=
  gradePlace x.resolved < gradePlace y.resolved ∨
  gradePlace x.resolved = gradePlace y.resolved ∧
    (x.provisional = false ∧ y.provisional = true ∨ x.provisional = y.provisional ∧ x.arrival < y.arrival)

/-- The Candidate Pool holds exactly the POOLED records, each once, at most 64 and in the order of their keys (R127,
R128); the pool-wait list holds exactly the pool-waiting ones, each once and in that order, and is empty while the
pool has room (R131); a verdict pending and the departed flag belong to GRADED records (R39), and a VERDICT claim
stands exactly for each verdict pending (R14, R42); pool members and incoming modules are graded A to D (R52, R154). -/
structure PoolAgrees (s : State) : Prop where
  members    : ∀ i, i ∈ s.pe.pool ↔ (s.record i).state = .pooled
  once       : s.pe.pool.Nodup
  room       : s.pe.pool.length ≤ 64
  inOrder    : s.pe.pool.Pairwise fun i j => ¬ GoesBefore (s.record j) (s.record i)
  waiting    : ∀ i, i ∈ s.pe.poolWait ↔ (s.record i).poolWaiting = true
  waitOnce   : s.pe.poolWait.Nodup
  waitOrder  : s.pe.poolWait.Pairwise fun i j => ¬ GoesBefore (s.record j) (s.record i)
  full       : s.pe.poolWait ≠ [] → s.pe.pool.length = 64
  verdicts   : ∀ i, (s.record i).verdict ≠ none → (s.record i).state = .graded
  claims     : ∀ i, i ∈ s.rp.verdictClaims ↔ (s.record i).verdict ≠ none
  claimsOnce : s.rp.verdictClaims.Nodup
  departed   : ∀ i, (s.record i).departed = true → (s.record i).state = .graded
  graded     : ∀ i, (s.record i).state = .pooled ∨ (s.record i).state = .assigned →
    poolable (s.record i).resolved = true

/-- The order in an Order Table record is ISSUING or ISSUED (R171). -/
def OrderRecord.onRing (r : OrderRecord) : Bool :=
  match r with
  | .order o => o.onRing
  | .free | .reservedForChoice _ => false

/-- The string an Order Table record names, if it is an order (R168). -/
def OrderRecord.string? (r : OrderRecord) : Option (Fin 8) := r.order?.map fun o => o.slot.string

/-- At most one order of a string is ISSUING or ISSUED, and a DEFERRED order waits behind one (R171, R172); the
creation order lists exactly the orders, each once (R168); a choice holds the record reserved for it (R145). -/
structure OrdersAgree (s : State) : Prop where
  one      : ∀ i j k, (s.order i).onRing = true → (s.order j).onRing = true →
    (s.order i).string? = some k → (s.order j).string? = some k → i = j
  behind   : ∀ i k, (s.order i).string? = some k → ∃ j, (s.order j).onRing = true ∧ (s.order j).string? = some k
  creation : ∀ i, i ∈ s.ot.creation ↔ (s.order i).order? ≠ none
  once     : s.ot.creation.Nodup
  reserved : ∀ c, s.pe.choice = some c → s.order c.order = .reservedForChoice c.slot

/-- Tags, bays, slots and orders name modules that stand where they say: no two non-FREE records share a tag (R40);
a bay's occupant is SETTLING, TESTING or GRADED in that bay (R21); an OCCUPIED slot's module is IN-SERVICE or WATCH in
that slot, and every such module is in one (R114); an order's slot is RESERVED for it, and its modules are ASSIGNED and
OUTBOUND to it (R168, R169); no two orders share a number (R170); the slots that hold something are in use (R108);
no two valid stations share an address (R19). -/
structure PlacesAgree (s : State) : Prop where
  tags     : ∀ i j, (s.record i).state ≠ .free → (s.record j).state ≠ .free →
    (s.record i).tag = (s.record j).tag → i = j
  bays     : ∀ b m, s.occupant b = some m → s.standsIn m [.settling, .testing, .graded] ∧
    (s.record m.index).departed = false ∧ (s.record m.index).location = .bay b
  slots    : ∀ p m, s.slot p = .occupied m →
    s.standsIn m [.inService, .watch] ∧ (s.record m.index).location = .slot p
  serving  : ∀ i, (s.record i).state = .inService ∨ (s.record i).state = .watch →
    ∃ p, s.slot p = .occupied (s.refOf i)
  orders   : ∀ i o, s.order i = .order o → s.slot o.slot = .reserved i o.work.outgoing
  incoming : ∀ i o m, s.order i = .order o → o.work.incoming = some m →
    s.standsIn m [.assigned] ∧ (s.record m.index).order = some i
  outgoing : ∀ i o m, s.order i = .order o → o.work.outgoing = some m →
    s.standsIn m [.outbound] ∧ (s.record m.index).order = some i
  reserved : ∀ p i m, s.slot p = .reserved i m → ∃ o, s.order i = .order o ∧ o.slot = p
  numbers  : ∀ i j o x, s.order i = .order o → s.order j = .order x → o.number = x.number → i = j
  inUse    : ∀ p, s.slotInUse p = false → (∀ m, s.slot p ≠ .occupied m) ∧ ∀ i m, s.slot p ≠ .reserved i m
  stations : ∀ j k, (s.mu.active.stat.get j).valid = true → (s.mu.active.stat.get k).valid = true →
    (s.mu.active.stat.get j).address = (s.mu.active.stat.get k).address → j = k

/-! ## Table entries within their ranges -/

/-- The ranges of an Origin Class Table entry (R58). -/
structure OriginClass.InRange (e : OriginClass) : Prop where
  rest      : e.restCount ≤ 4095
  residency : 1 ≤ e.residency ∧ e.residency ≤ 255
  gaps      : e.gapLimit ≤ 255
  ceiling   : e.ceiling ≠ .reject

/-- The ranges of a grading rule (R66). -/
structure GradingRule.InRange (r : GradingRule) : Prop where
  absolute  : r.mode = .absolute →
    0 ≤ r.windowLow ∧ r.windowLow ≤ 65535 ∧ 0 ≤ r.windowHigh ∧ r.windowHigh ≤ 65535
  relative  : r.mode = .relative →
    -32768 ≤ r.windowLow ∧ r.windowLow ≤ 32767 ∧ -32768 ≤ r.windowHigh ∧ r.windowHigh ≤ 32767
  qualifier : ∀ q, r.qualifier = some q →
    -400 ≤ q.low ∧ q.low ≤ 1250 ∧ -400 ≤ q.high ∧ q.high ≤ 1250
  confirm   : ∀ n, r.confirm = some n → 1 ≤ n ∧ n ≤ 15

/-- The ranges of a Pairing Class Table entry (R147). -/
structure PairingClass.InRange (e : PairingClass) : Prop where
  minimum    : e.minimum ≠ .reject
  tolerances : e.capTolerance ≤ 65535 ∧ e.resTolerance ≤ 65535
  weights    : e.capWeight ≤ 15 ∧ e.resWeight ≤ 15
  reference  : e.referenceMinimum ≤ 16
  priorities : e.fillPriority ≤ 3 ∧ e.replacePriority ≤ 3
  watch      : 1 ≤ e.watchConfirm ∧ e.watchConfirm ≤ 15

/-- The ranges of a Station Table entry (R18). -/
structure Station.InRange (e : Station) : Prop where
  address  : e.address.toNat ≤ 254
  channels : 1 ≤ e.channelCount ∧ e.channelCount ≤ (if e.role = .testBay then 4 else 8)

/-- The ranges of Bank Settings (R190). -/
structure BankSettings.InRange (b : BankSettings) : Prop where
  strings    : b.stringsInUse ≤ 8
  positions  : 1 ≤ b.positions ∧ b.positions ≤ 16
  deadline   : 1 ≤ b.orderDeadline ∧ b.orderDeadline ≤ 4095
  controller : ∀ a, b.controller = some a → a.toNat ≤ 254

/-- One copy of the five tables with every entry within its ranges (R18, R58, R66, R147, R190). -/
structure Tables.InRange (t : Tables) : Prop where
  orig : ∀ i, (t.orig.get i).InRange
  rule : ∀ i, (t.rule.get i).InRange
  pcls : ∀ i, (t.pcls.get i).InRange
  stat : ∀ i, (t.stat.get i).InRange
  bank : t.bank.InRange

/-! ## Runs and searches -/

/-- Both copies of the tables hold entries within their ranges (R190, R194). -/
structure TablesAgree (s : State) : Prop where
  active : s.mu.active.InRange
  shadow : s.mu.shadow.InRange

/-- The run count of every metric of every record is below the confirm count of its candidate rule, and 0 when there is
no candidate rule (R76). -/
structure RunsAgree (s : State) : Prop where
  noCandidate : ∀ i m, ((s.record i).evidence.get m).candidate = none →
    ((s.record i).evidence.get m).runCount = 0
  candidate   : ∀ i m k, ((s.record i).evidence.get m).candidate = some k →
    ((s.record i).evidence.get m).runCount < (s.mu.active.rule.get k).confirm.getD 1

/-- The result that an evaluation in progress holds, once its search has ended, is that of the search of the active
rules (R70, R71, R86). -/
def SearchAgrees (s : State) : Prop :=
  ∀ e r, s.ge.evaluation = some e → e.found = some r → r = search s.mu.active.rule e

end Sys2Proof.Machine
end

