-- ==== Sys2Proof/Certificates/Slice0/Obligations.lean ====
section
/-! DEFINITION. The statements for the provers, in the order of the blocks. -/

open Sys2Proof Sys2Proof.Machine

/-! ## The queue of commands -/

/-- A step of a state with a command at the front of its queue is exec of that command on the queue's rest. -/
def Obligations.StepRunsFrontCommand : Prop :=
  ∀ (c : Instr) (rest : List Instr) (s : State),
    step { s with pending := c :: rest } = exec c { s with pending := rest }

/-- No command stops the part, and none changes the queue of commands (95: each step is whole). -/
def Obligations.EveryCommandCompletes : Prop :=
  ∀ (c : Instr) (s : State), ∃ t, exec c s = .next t ∧ t.pending = s.pending

/-- The model's choice (logs 3 and 4): on an empty queue, when no running timer or deadline has come to its end, one
millisecond passes, an evaluation's search ends and a choice's scan moves on by one member, and nothing else changes.
Otherwise one of those that end first, and have come to their end, expires as its own row makes it expire (R61, R180).
-/
def Obligations.EmptyQueuePassesTime : Prop :=
  ∀ s : State, s.pending = [] →
    (NothingEndsBefore s (s.timeBase + 1) → step s = .next
      { s with
        timeBase := s.timeBase + 1
        ge := { s.ge with
          evaluation := s.ge.evaluation.map fun e => { e with found := some (s.searchResult e) } }
        pe := { s.pe with choice := s.pe.choice.map Choice.scanOne } }) ∧
    (¬ NothingEndsBefore s (s.timeBase + 1) →
      (∃ i x, s.timer i = some x ∧ x.expiresAt ≤ s.timeBase ∧ NothingEndsBefore s x.expiresAt ∧
        step s = exec (.settleExpiry i.val) s) ∨
      ∃ i o t, s.order i = .order o ∧ o.stage = .issued t ∧ t ≤ s.timeBase ∧ NothingEndsBefore s t ∧
        step s = exec (.orderExpiry i.val) s)

/-! ## Reset -/

/-- R16, R203: while RESETN is asserted RING-OUT is held high; at its release every state of the part has its value
after device reset, in both copies of every table, and the own station address is 240 plus the strap value. The model's
choices: the other blocks stay as they are while RESETN is asserted, and a release without an assertion acts as a
release (log 12); the wait for the line to rise ends (log 17); the model's own time base and count of free values are 0
(logs 4 and 8). -/
def Obligations.DeviceReset : Prop :=
  (∀ s : State, exec .resetnAssert s =
    .next { s with rp := { s.rp with resetAsserted := true, sending := .heldHigh } }) ∧
  ∀ (straps : BitVec 3) (s : State), ∃ t, exec (.resetnRelease straps) s = .next t ∧
    t.pending = s.pending ∧ t.timeBase = 0 ∧ t.freeCount = 0 ∧
    t.mu.ownAddress.toNat = 240 + straps.toNat ∧ t.mu.mode = .halted ∧ t.mu.pendingCommit = none ∧
    t.mu.commandQueue = [] ∧ t.mu.notices = [] ∧ t.mu.reply = none ∧
    t.rp.link = .hunt ∧ t.rp.confirmCount = 0 ∧ t.rp.window = [] ∧ t.rp.lossesSince = 0 ∧
    t.rp.assembly = none ∧ t.rp.awaitingHigh = false ∧ t.rp.transitQueue = [] ∧ t.rp.originateQueue = [] ∧
    t.rp.passOver = 0 ∧ t.rp.sending = .fill ∧ t.rp.verdictClaims = [] ∧ t.rp.resetAsserted = false ∧
    (∀ c, t.rp.counters.get c = 0) ∧
    t.iu.intakeQueue = [] ∧
    (∀ e, (t.live e).lastSequence = none ∧ (t.live e).lostCount = 0) ∧ (∀ b, t.occupant b = none) ∧
    (∀ i, t.timer i = none) ∧ t.ge.evaluation = none ∧ t.ge.verdictCounter = 0 ∧
    (∀ i, t.record i =
      { state := .free, generation := 0, tag := 0, originClass := 0, arrival := 0, location := .absent
        evidence := (t.record i).evidence, gapCount := 0, resolved := none, provisional := false, watchCount := 0
        verdict := none, departed := false, order := none }) ∧
    (∀ i m, (t.record i).evidence.get m =
      { grade := none, candidate := none, runCount := 0, confirmations := 0, unmatched := 0, lastValue := none }) ∧
    t.mr.arrivalCounter = 0 ∧
    (∀ k, t.string k =
      { pairingClass := 0, cap := { value := none, count := 0 }, res := { value := none, count := 0 } }) ∧
    (∀ p, t.slot p = .unknown) ∧
    t.pe.pool = [] ∧ t.pe.poolWait = [] ∧ t.pe.requests = [] ∧ t.pe.ageCounter = 0 ∧ t.pe.choice = none ∧
    (∀ o, t.order o = .free) ∧ t.ot.creation = [] ∧ t.ot.numberCounter = 0 ∧ t.ot.expired = [] ∧
    t.mu.active = t.mu.shadow ∧
    (∀ c, t.mu.active.orig.get c = { restCount := 0, residency := 1, gapLimit := 255, ceiling := .d }) ∧
    (∀ r, t.mu.active.rule.get r =
      { valid := false, originMask := 0, applicability := .both, metric := .cap, mode := .absolute
        windowLow := 0, windowHigh := 0, qualifier := none, grade := .d, confirm := none }) ∧
    (∀ k, t.mu.active.pcls.get k =
      { minimum := .d, capTolerance := 0, resTolerance := 0, capWeight := 0, resWeight := 0
        referenceMinimum := 1, flags := 0, fillPriority := 0, replacePriority := 0, watchConfirm := 1 }) ∧
    (∀ e, t.mu.active.stat.get e =
      { valid := false, address := 0, role := .ignore, string := 0, basePosition := 0, channelCount := 1 }) ∧
    t.mu.active.bank.stringsInUse = 0 ∧ t.mu.active.bank.positions = 16 ∧
    (∀ k, t.mu.active.bank.classes.get k = 0) ∧ t.mu.active.bank.restUnit = .s1 ∧
    t.mu.active.bank.policy = .arrival ∧ t.mu.active.bank.orderDeadline = 600 ∧
    t.mu.active.bank.controller = none

/-! ## Reception -/

/-- R1: a bit is what at least two of its three samples say; a start bit of 1 is a false start; otherwise the
character is delivered, in error when its stop bit is 0; nothing is received while RESETN is asserted, nor
after a character in error before the line has risen. R2: the four sorts of delivered character: one in error is of
the sort in error whatever its mark flag; a marked one is a FILL at value 0x55 and otherwise a header; an unmarked one
is a data character. -/
def Obligations.ReceiverDecidesByMajority : Prop :=
  (∀ x : Character,
    (x.error = true → x.sort = .inError x.value) ∧
    (x.error = false → x.mark = true → x.value = 0x55#8 → x.sort = .fill) ∧
    (x.error = false → x.mark = true → x.value ≠ 0x55#8 → x.sort = .header x.value) ∧
    (x.error = false → x.mark = false → x.sort = .data x.value)) ∧
  ∀ (c : LineCharacter) (s : State) (bit : Nat → Bool),
    (∀ k, bit k = ((c.first.getLsbD k && c.second.getLsbD k) || (c.first.getLsbD k && c.third.getLsbD k) ||
      (c.second.getLsbD k && c.third.getLsbD k))) →
    (s.rp.resetAsserted = true ∨ (s.rp.awaitingHigh = true ∧ c.lineRose = false) →
      exec (.characterReceived c) s = .next s) ∧
    (s.rp.resetAsserted = false → (s.rp.awaitingHigh = true → c.lineRose = true) → bit 0 = true →
      exec (.characterReceived c) s = .next { s with rp := { s.rp with awaitingHigh := false } }) ∧
    (s.rp.resetAsserted = false → (s.rp.awaitingHigh = true → c.lineRose = true) → bit 0 = false →
      ∃ x : Character, exec (.characterReceived c) s = .next (s.deliverCharacter x) ∧
        x.error = !(bit 10) ∧ x.mark = bit 9 ∧ ∀ k < 8, x.value.getLsbD k = bit (k + 1))

/-- R3 to R6: a FILL leaves HUNT, three more in a row reach LOCKED, anything else returns to HUNT; losses since
the last relock are reported on entry to LOCKED. The fourth error flag among the last 32 characters in LOCKED
loses sync: a frame in assembly is counted as damaged, SYNC-LOSSES and the losses since relock increment. -/
def Obligations.LinkGainsAndLosesSync : Prop :=
  ∀ (s : State) (x : Character),
    (s.rp.link = .hunt → x.sort = .fill → s.deliverCharacter x =
      { s with rp := { s.rp with awaitingHigh := x.error, link := .confirm, confirmCount := 1 } }) ∧
    (s.rp.link = .hunt → x.sort ≠ .fill → s.deliverCharacter x =
      { s with rp := { s.rp with awaitingHigh := x.error } }) ∧
    (s.rp.link = .confirm → x.sort ≠ .fill → s.deliverCharacter x =
      { s with rp := { s.rp with awaitingHigh := x.error, link := .hunt, confirmCount := 0 } }) ∧
    (s.rp.link = .confirm → x.sort = .fill → s.rp.confirmCount ≠ 3 → s.deliverCharacter x =
      { s with rp := { s.rp with awaitingHigh := x.error, confirmCount := s.rp.confirmCount + 1 } }) ∧
    (s.rp.link = .confirm → x.sort = .fill → s.rp.confirmCount = 3 → s.deliverCharacter x =
      { s with
        rp := { s.rp with
          awaitingHigh := x.error, link := .locked, confirmCount := 0, window := [], assembly := none
          lossesSince := 0 }
        mu := { s.mu with
          notices := if s.rp.lossesSince = 0 then s.mu.notices
            else raiseIn (.linkRelock s.rp.lossesSince) s.mu.notices } }) ∧
    (s.rp.link = .locked → x.error = true → 4 ≤ ((true :: s.rp.window).take 32).count true →
      s.deliverCharacter x =
        { s with rp := { s.rp with
            awaitingHigh := true, link := .hunt, confirmCount := 0, window := [], assembly := none
            lossesSince := min (s.rp.lossesSince + 1) 65535
            counters := { s.rp.counters with
              syncLosses := min (s.rp.counters.syncLosses + 1) 65535
              rxDamaged := if s.rp.assembly = none then s.rp.counters.rxDamaged
                else min (s.rp.counters.rxDamaged + 1) 65535 } } })

/-- R5, R7 to R9: in LOCKED every character enters the window; a data character or a character in error is
appended to a frame in assembly and otherwise stray; an error, a length above 240 and a character beyond
length + 2 damage the frame. With no frame in assembly a header opens one and a FILL does nothing more. -/
def Obligations.LockedCharactersBuildTheFrame : Prop :=
  ∀ (s : State) (x : Character) (w : List Bool), s.rp.link = .locked → w = (x.error :: s.rp.window).take 32 →
    (∀ v, x.sort = .data v → s.rp.assembly = none → s.deliverCharacter x =
      { s with rp := { s.rp with awaitingHigh := false, window := w } }) ∧
    (∀ v a, x.sort = .data v → s.rp.assembly = some a → ∃ d, s.deliverCharacter x =
      { s with rp := { s.rp with
          awaitingHigh := false, window := w
          assembly := some { kind := a.kind, chars := a.chars ++ [v], damaged := d } } } ∧
      (d = true ↔ a.damaged = true ∨ ∃ dst src len rest, a.chars ++ [v] = dst :: src :: len :: rest ∧
        (240 < len.toNat ∨ len.toNat + 2 < rest.length))) ∧
    (∀ v a, x.sort = .inError v → w.count true ≤ 3 → s.rp.assembly = some a → s.deliverCharacter x =
      { s with rp := { s.rp with
          awaitingHigh := true, window := w
          assembly := some { kind := a.kind, chars := a.chars ++ [v], damaged := true } } }) ∧
    (∀ v, x.sort = .inError v → w.count true ≤ 3 → s.rp.assembly = none → s.deliverCharacter x =
      { s with rp := { s.rp with awaitingHigh := true, window := w } }) ∧
    (x.sort = .fill → s.rp.assembly = none → s.deliverCharacter x =
      { s with rp := { s.rp with awaitingHigh := false, window := w } }) ∧
    (∀ k, x.sort = .header k → s.rp.assembly = none → s.deliverCharacter x =
      { s with rp := { s.rp with
          awaitingHigh := false, window := w, assembly := some { kind := k, chars := [], damaged := false } } })

/-- R8 to R12, R186: a frame damaged, of a length above 240 or with fewer or more characters than its length asks for
is not complete. A FILL or a header ends the frame in assembly, and a header opens a new one in its place; a complete
frame with the right check is classified by its source, kind and destination, and another is counted and dropped. -/
def Obligations.FrameEndClassifies : Prop :=
  (∀ a : Assembly,
    (a.damaged = true ∨ ∀ n, a.chars[2]? = some n → 240 < n.toNat ∨ a.chars.length ≠ n.toNat + 5) →
      a.complete = none) ∧
  ∀ (s u : State) (x : Character) (a : Assembly) (opens : State → State), s.rp.link = .locked →
    s.rp.assembly = some a →
    (x.sort = .fill ∧ (∀ v, opens v = v) ∨ ∃ k, x.sort = .header k ∧
      ∀ v, opens v = { v with rp := { v.rp with assembly := some { kind := k, chars := [], damaged := false } } }) →
    u = { s with rp := { s.rp with
      awaitingHigh := false, window := (false :: s.rp.window).take 32, assembly := none } } →
    (a.complete = none → s.deliverCharacter x = opens
      { u with rp := { u.rp with counters := { u.rp.counters with
          rxDamaged := min (u.rp.counters.rxDamaged + 1) 65535 } } }) ∧
    ∀ f, a.complete = some f →
      (f.source = s.mu.ownAddress → s.deliverCharacter x = opens u) ∧
      (f.source ≠ s.mu.ownAddress → f.kind = 0x20#8 → f.destination = s.mu.ownAddress →
        s.deliverCharacter x = opens
          (if s.mu.commandQueue.length < 4 then
            { u with mu := { u.mu with commandQueue := s.mu.commandQueue ++ [f] } }
          else { u with rp := { u.rp with counters := { u.rp.counters with
            cmdOverrun := min (u.rp.counters.cmdOverrun + 1) 65535 } } })) ∧
      (f.source ≠ s.mu.ownAddress → f.kind = 0x20#8 → f.destination ≠ s.mu.ownAddress →
        f.destination = 255#8 → s.deliverCharacter x = opens ((u.forward f).deliverCommand f)) ∧
      (f.source ≠ s.mu.ownAddress → f.kind = 0x10#8 →
        s.deliverCharacter x = opens ((u.forward f).takeSample f)) ∧
      (f.source ≠ s.mu.ownAddress → f.kind ≠ 0x10#8 →
        (f.kind = 0x20#8 → f.destination ≠ s.mu.ownAddress ∧ f.destination ≠ 255#8) →
        s.deliverCharacter x = opens
          (if s.rp.transitQueue.length < 4 then
            { u with rp := { u.rp with transitQueue := s.rp.transitQueue ++ [f] } }
          else { u with rp := { u.rp with counters := { u.rp.counters with
            transitOverrun := min (u.rp.counters.transitOverrun + 1) 65535 } } }))

/-- R10: the check starts from 0xFFFF and takes the bits of each character most significant first, with the polynomial
0x1021 and no inversion: each bit shifts the check left, and when the bit that leaves it differs from the bit taken the
polynomial is added. R8, R9, R205: the characters of a frame, taken one after another, make that frame again, with no
bit dropped; and a frame whose check differs from its own is not complete. -/
def Obligations.FrameRoundTrip : Prop :=
  (checkOf [] = 0xFFFF#16 ∧
    ∀ (chars : List Byte) (b : Byte) (crc : Nat → Half), crc 0 = checkOf chars →
      (∀ k < 8, crc (k + 1) =
        if (crc k).getLsbD 15 = b.getLsbD (7 - k) then crc k <<< 1 else (crc k <<< 1) ^^^ 0x1021#16) →
      checkOf (chars ++ [b]) = crc 8) ∧
  ∀ f : Frame, f.body.length ≤ 240 →
    ((((f.characters.drop 1).map Prod.fst).foldl Assembly.append
        { kind := f.kind, chars := [], damaged := false }).complete =
      if f.check = checkOf (f.destination :: f.source :: BitVec.ofNat 8 f.body.length :: f.body) then some f
      else none) ∧
    f.characters.head? = some (f.kind, true) ∧ ∀ y ∈ f.characters.drop 1, y.2 = false

/-! ## Admission and RING-OUT -/

/-- R12, R15: at the end of a FILL or of a forwarded frame the frame's entry is freed and the arbiter decides:
FILL when both queues are empty, the head of the only non-empty queue, else the Transit Queue's head but for
every third time. R16: nothing is sent while RESETN is asserted. -/
def Obligations.EgressArbiterDecides : Prop :=
  ∀ s w : State,
    (s.rp.resetAsserted = true → exec .egressDecision s = .next s) ∧
    (s.rp.resetAsserted = false →
      (s.rp.sending = .fill ∧ w = s ∨
        s.rp.sending = .transit ∧ w = { s with rp := { s.rp with transitQueue := s.rp.transitQueue.tail } }) →
      ∃ t, exec .egressDecision s = .next t ∧ ArbiterDecides w t)

/-- R13 to R15: at the end of an originated frame its entry is freed; a REPLY that waited behind a queued one, now
gone, is admitted; then, while room remains, the standing ORDER, VERDICT and NOTICE claims are admitted in their order,
each as its own row admits it; and the arbiter decides what is sent next. -/
def Obligations.OriginateEntryIsFreed : Prop :=
  ∀ (s v : State) (f : Frame) (rest : List Frame), s.rp.resetAsserted = false → s.rp.sending = .originate →
    s.rp.originateQueue = f :: rest →
    s.rp.verdictClaims.Nodup → (∀ i ∈ s.rp.verdictClaims, (s.record i).verdict ≠ none) →
    (s.mu.reply = none ∨ (∃ g ∈ rest, g.kind = 0x21#8) →
      v = { s with rp := { s.rp with originateQueue := rest } }) →
    (∀ r, s.mu.reply = some r → (∀ g ∈ rest, g.kind ≠ 0x21#8) → v = { s with
      mu := { s.mu with reply := none }
      rp := { s.rp with
        originateQueue := rest ++ [buildFrame 0x21#8 r.destination s.mu.ownAddress r.body] } }) →
    ∃ w t, ClaimsAdmitted v w ∧ exec .egressDecision s = .next t ∧ ArbiterDecides w t

/-- R14, R173, R174: with room, the ISSUING order created earliest is admitted: its ORDER frame is built and
queued, it becomes ISSUED and its deadline starts from the active Bank Settings. -/
def Obligations.OrderAdmission : Prop :=
  ∀ (s : State) (i : OrderIndex) (o : Order) (before after : List OrderIndex),
    s.ot.creation = before ++ i :: after → s.order i = .order o → o.stage = .issuing →
    (∀ j ∈ before, ∀ x, s.order j = .order x → x.stage ≠ .issuing) →
    (s.rp.originateQueue.filter fun f => decide (f.kind ≠ 0x21#8)).length < 7 →
    s.rp.originateQueue.length < 8 →
    exec .orderAdmission s =
      .next { s with
        rp := { s.rp with originateQueue := s.rp.originateQueue ++
          [buildFrame 0x31#8 (s.mu.active.bank.controller.getD 255#8) s.mu.ownAddress
            (orderBody o (o.work.incoming.map fun m => (s.record m.index).tag)
              (o.work.outgoing.map fun m => (s.record m.index).tag))] }
        ot := { s.ot with
          table := put s.ot.table i
            (.order { o with stage := .issued (s.timeBase + s.mu.active.bank.orderDeadline * 1000) }) } }

/-- R14, R94, R95, R52: with room and no ORDER claim standing, the VERDICT claim made earliest is admitted: the
VERDICT is built and queued and is no longer pending; an in-bay record stays, a departed one of no grade or
REJECT becomes FREE, and a departed one of A to D enters the pool while it has room and waits otherwise. -/
def Obligations.VerdictAdmission : Prop :=
  ∀ (s u : State) (i : ModuleIndex) (v : Verdict) (rest : List ModuleIndex),
    (∀ o x, s.order o = .order x → x.stage ≠ .issuing) → s.rp.verdictClaims = i :: rest →
    (s.record i).verdict = some v →
    (s.rp.originateQueue.filter fun f => decide (f.kind ≠ 0x21#8)).length < 7 →
    s.rp.originateQueue.length < 8 →
    u = { s with
      rp := { s.rp with
        verdictClaims := rest
        originateQueue := s.rp.originateQueue ++
          [buildFrame 0x30#8 (s.mu.active.bank.controller.getD 255#8) s.mu.ownAddress
            (verdictBody v (s.record i))] }
      mr := { s.mr with records := put s.mr.records i { s.record i with verdict := none } } } →
    ((s.record i).departed = false → exec .verdictAdmission s = .next u.selectIfDue) ∧
    ((s.record i).departed = true → (s.record i).resolved = none ∨ (s.record i).resolved = some .reject →
      exec .verdictAdmission s =
        .next (u.setRecord i (ModuleRecord.cleared (s.record i).generation)).selectIfDue) ∧
    ((s.record i).departed = true → (∃ g, (s.record i).resolved = some g ∧ g ≠ .reject) →
      exec .verdictAdmission s =
        .next (if s.pe.pool.length < 64 then u.enterPool i else u.enterPoolWait i).selectIfDue)

/-- R13, R14, R201, R202: an offered REPLY is admitted when no REPLY is queued, with its envelope built, and waits
otherwise; with room and no ORDER and no VERDICT claim standing, the notice raised earliest is admitted and leaves the
set. A kind raised while pending keeps its raise place, its count grows to 255 at most and its argument is the latest;
a kind not pending takes the last place with count 1; every other kind keeps its entry and its place. -/
def Obligations.ReplyAndNoticeAdmission : Prop :=
  (∀ (a : NoticeArgument) (ns : List Notice),
    ((∀ n ∈ ns, n.argument.kindCode ≠ a.kindCode) → raiseIn a ns = ns ++ [{ argument := a, count := 1 }]) ∧
    (∀ before after n, ns = before ++ n :: after → n.argument.kindCode = a.kindCode →
      (∀ m ∈ before, m.argument.kindCode ≠ a.kindCode) →
      raiseIn a ns = before ++ { argument := a, count := min (n.count + 1) 255 } :: after)) ∧
  (∀ (s : State) (r : ReplyOffer), s.mu.reply = some r →
    ((∀ f ∈ s.rp.originateQueue, f.kind ≠ 0x21#8) → exec .replyAdmission s =
      .next { s with
        mu := { s.mu with reply := none }
        rp := { s.rp with originateQueue := s.rp.originateQueue ++
          [{ kind := 0x21#8, destination := r.destination, source := s.mu.ownAddress, body := r.body
             check := checkOf (r.destination :: s.mu.ownAddress :: BitVec.ofNat 8 r.body.length :: r.body) }] } }) ∧
    ((∃ f ∈ s.rp.originateQueue, f.kind = 0x21#8) → exec .replyAdmission s = .next s)) ∧
  ∀ (s : State) (n : Notice) (rest : List Notice),
    (∀ o x, s.order o = .order x → x.stage ≠ .issuing) → s.rp.verdictClaims = [] → s.mu.notices = n :: rest →
    (s.rp.originateQueue.filter fun f => decide (f.kind ≠ 0x21#8)).length < 7 →
    s.rp.originateQueue.length < 8 →
    exec .noticeAdmission s =
      .next { s with
        mu := { s.mu with notices := rest }
        rp := { s.rp with originateQueue := s.rp.originateQueue ++
          [buildFrame 0x32#8 (s.mu.active.bank.controller.getD 255#8) s.mu.ownAddress
            (BitVec.ofNat 8 n.argument.kindCode :: BitVec.ofNat 8 n.count ::
              padded (argumentChars n.argument))] } }

/-! ## Sample intake -/

/-- R22, R23, R26: a sample is admitted in RUN from a valid entry that is not IGNORE; a well-formed one takes
part in the sequence check and becomes a measurement record, dropped and counted when sixteen are queued; a
malformed one takes part in the check where it has a sequence number and costs one lost sample. -/
def Obligations.SampleAdmission : Prop :=
  ∀ (s : State) (f : Frame) (e : Fin 32),
    (s.mu.mode = .halted → s.takeSample f = s) ∧
    ((∀ k, (s.mu.active.stat.get k).valid = true → (s.mu.active.stat.get k).address ≠ f.source) →
      s.takeSample f = s) ∧
    ((s.mu.active.stat.get e).valid = true → (s.mu.active.stat.get e).address = f.source →
      (∀ k, (s.mu.active.stat.get k).valid = true → (s.mu.active.stat.get k).address = f.source → k = e) →
      s.mu.mode = .run →
      ((s.mu.active.stat.get e).role = .ignore → s.takeSample f = s) ∧
      ((s.mu.active.stat.get e).role ≠ .ignore → f.body = [] →
        s.takeSample f =
          s.setLive e { s.live e with lostCount := min ((s.live e).lostCount + 1) 255 }) ∧
      ((s.mu.active.stat.get e).role ≠ .ignore → ∀ q rest t, f.body = q :: rest → t = s.checkSequence e q →
        (sampleOf f.body = none → s.takeSample f =
          t.setLive e { t.live e with lostCount := min ((t.live e).lostCount + 1) 255 }) ∧
        (∀ x, sampleOf f.body = some x → s.iu.intakeQueue.length < 16 → s.takeSample f =
          t.setIntake (s.iu.intakeQueue ++ [{ station := some e, channel := x.channel, content := x.content }])) ∧
        (∀ x, sampleOf f.body = some x → 16 ≤ s.iu.intakeQueue.length →
          s.takeSample f = t.count .intakeOverrun)))

/-- A tag is its six characters, most significant first (10 section 10.7). R206, R23: the well-formed SAMPLE bodies,
one for each kind and length, and what each says. No other body is well formed: not one of another length or kind,
with a channel above 7, an invalid tag, an origin class above 15, a metric code above 3 or a temperature outside -400
to +1250. -/
def Obligations.SampleBodies : Prop :=
  ((∀ t0 t1 t2 t3 t4 t5 : Byte,
      tagOf [t0, t1, t2, t3, t4, t5] = (t0 ++ t1 ++ t2 ++ t3 ++ t4 ++ t5 : BitVec 48)) ∧
    ∀ t : Tag, tagOf (bigEndian 6 t.toNat) = t) ∧
  (∀ (q t0 t1 t2 t3 t4 t5 : Byte) (ch : Fin 8) (c : Fin 16), validTag (tagOf [t0, t1, t2, t3, t4, t5]) = true →
    sampleOf [q, BitVec.ofNat 8 ch.val, 1#8, t0, t1, t2, t3, t4, t5, BitVec.ofNat 8 c.val] =
      some { sequence := q, channel := ch, content := .arrive (tagOf [t0, t1, t2, t3, t4, t5]) c }) ∧
  (∀ (q : Byte) (ch : Fin 8), sampleOf [q, BitVec.ofNat 8 ch.val, 2#8] =
    some { sequence := q, channel := ch, content := .depart none }) ∧
  (∀ (q t0 t1 t2 t3 t4 t5 : Byte) (ch : Fin 8), validTag (tagOf [t0, t1, t2, t3, t4, t5]) = true →
    sampleOf [q, BitVec.ofNat 8 ch.val, 2#8, t0, t1, t2, t3, t4, t5] =
      some { sequence := q, channel := ch, content := .depart (some (tagOf [t0, t1, t2, t3, t4, t5])) }) ∧
  (∀ (q v1 v0 w1 w0 : Byte) (ch : Fin 8) (m : Metric), -400 ≤ (w1 ++ w0 : BitVec 16).toInt →
    (w1 ++ w0 : BitVec 16).toInt ≤ 1250 →
    sampleOf [q, BitVec.ofNat 8 ch.val, 3#8, BitVec.ofNat 8 m.code, v1, v0, w1, w0] =
      some { sequence := q, channel := ch
             content := .measure m (v1 ++ v0 : BitVec 16).toNat (w1 ++ w0 : BitVec 16).toInt }) ∧
  ∀ (body : List Byte) (x : Sample), sampleOf body = some x → ∃ q ch kind rest, ch.toNat ≤ 7 ∧
    body = q :: ch :: kind :: rest ∧
    ((kind = 1#8 ∧ ∃ tag c, rest = tag ++ [c] ∧ tag.length = 6 ∧ c.toNat ≤ 15 ∧
        tagOf tag ≠ 0 ∧ tagOf tag ≠ 0xFFFFFFFFFFFF#48) ∨
      (kind = 2#8 ∧ (rest = [] ∨ rest.length = 6 ∧ tagOf rest ≠ 0 ∧ tagOf rest ≠ 0xFFFFFFFFFFFF#48)) ∨
      (kind = 3#8 ∧ ∃ m v1 v0 w1 w0, rest = [m, v1, v0, w1, w0] ∧ m.toNat ≤ 3 ∧
        -400 ≤ (w1 ++ w0 : BitVec 16).toInt ∧ (w1 ++ w0 : BitVec 16).toInt ≤ 1250))

/-- R24, R25: a sample's number is held against the last; what is missing, mod 256, is charged to the station's
lost count, and at a TEST-BAY station each occupant in SETTLING or TESTING, named by its generation, takes one
gap. No other record and no other station changes. -/
def Obligations.SequenceGapsAreCharged : Prop :=
  ∀ (s t : State) (e : Fin 32) (q : Byte) (lost : Nat), t = s.checkSequence e q →
    ((s.live e).lastSequence = none → lost = 0) →
    (∀ l, (s.live e).lastSequence = some l → lost = (q.toNat + 256 + 255 - l.toNat) % 256) →
    ((t.live e).lastSequence = some q ∧ (t.live e).lostCount = min ((s.live e).lostCount + lost) 255 ∧
      (t.live e).bays = (s.live e).bays) ∧
    (∀ k, k ≠ e → t.live k = s.live k) ∧ t.iu.intakeQueue = s.iu.intakeQueue ∧
    (∀ i, (lost = 0 ∨ (s.mu.active.stat.get e).role ≠ .testBay ∨
        ∀ c m, (s.live e).bays.get c = some m → m.index ≠ i) → t.record i = s.record i) ∧
    (lost ≠ 0 → (s.mu.active.stat.get e).role = .testBay →
      (∀ c d m n, (s.live e).bays.get c = some m → (s.live e).bays.get d = some n → m.index = n.index → c = d) →
      ∀ c m, (s.live e).bays.get c = some m →
        t.record m.index =
          if (s.record m.index).generation = m.generation ∧
              ((s.record m.index).state = .settling ∨ (s.record m.index).state = .testing) then
            { s.record m.index with gapCount := min ((s.record m.index).gapCount + 1) 255 }
          else s.record m.index)

/-! ## Arrival and departure -/

/-- R29: a record resolves by the tables of the moment: VOID and a channel beyond the entry's count to nothing, a
TEST-BAY entry to the bay, a BANK entry to the slot at base position + channel. The model's choice, of which R29 says
nothing and which no run meets (log 18): an IGNORE entry resolves to nothing. -/
def Obligations.TargetResolution : Prop :=
  ∀ (s : State) (r : MeasurementRecord),
    (r.station = none → s.target r = .none) ∧
    ∀ e, r.station = some e →
      ((s.mu.active.stat.get e).channelCount ≤ r.channel.val → s.target r = .none) ∧
      ((s.mu.active.stat.get e).role = .ignore → s.target r = .none) ∧
      (∀ c : Fin 4, r.channel.val < (s.mu.active.stat.get e).channelCount →
        (s.mu.active.stat.get e).role = .testBay → r.channel.val = c.val →
        s.target r = .bay { entry := e, channel := c }) ∧
      (∀ p : Fin 16, r.channel.val < (s.mu.active.stat.get e).channelCount →
        (s.mu.active.stat.get e).role = .bank →
        p.val = (s.mu.active.stat.get e).basePosition.val + r.channel.val →
        s.target r = .slot { string := (s.mu.active.stat.get e).string, position := p })

/-- R47, R48, R37, R38, R60, R61: an ARRIVE of a new tag at an empty bay takes the FREE record of lowest index,
with a new generation, the next arrival number and every other field cleared; it is SETTLING with its timer
started, or TESTING when its rest time is 0. -/
def Obligations.ArrivalOfNewTag : Prop :=
  ∀ (s : State) (r : MeasurementRecord) (rest : List MeasurementRecord) (b : Bay) (tag : Tag) (c : Fin 16)
    (i : ModuleIndex) (ms : Nat), MayTake s r rest → r.content = .arrive tag c → s.target r = .bay b →
    s.occupant b = none → (∀ j, (s.record j).state ≠ .free → (s.record j).tag ≠ tag) →
    (s.record i).state = .free → (∀ j, j.val < i.val → (s.record j).state ≠ .free) →
    ms = (s.mu.active.orig.get c).restCount *
      (match s.mu.active.bank.restUnit with | .s1 => 1 | .s10 => 10 | .s60 => 60) * 1000 →
    exec .arrive s = .next (State.selectIfDue { s with
      iu := {
        live := put s.iu.live b.entry { s.live b.entry with
          bays := put (s.live b.entry).bays b.channel
            (some { index := i, generation := (s.record i).generation + 1 }) }
        intakeQueue := rest }
      mr := {
        records := put s.mr.records i { ModuleRecord.cleared ((s.record i).generation + 1) with
          state := if ms = 0 then .testing else .settling
          tag := tag, originClass := c, arrival := s.mr.arrivalCounter, location := .bay b }
        arrivalCounter := min (s.mr.arrivalCounter + 1) 4294967295 }
      ge := { s.ge with
        settleTimers := put s.ge.settleTimers i
          (if ms = 0 then none
           else some { generation := (s.record i).generation + 1, expiresAt := s.timeBase + ms }) } })

/-- R44, R45, R47: an ARRIVE at an occupied bay first departs the occupant, as a DEPART without a tag would, with
all its consequences, and is then the arrival at the empty bay. One at an empty bay whose tag a record holds in a
refusing state raises TAG-CONFLICT with the state found; one of a new tag with no FREE record raises
REGISTER-FULL. Nothing else changes. -/
def Obligations.ArrivalDisplacesOrIsRefused : Prop :=
  ∀ (s : State) (r : MeasurementRecord) (rest : List MeasurementRecord) (b : Bay) (tag : Tag) (c : Fin 16),
    MayTake s r rest → r.content = .arrive tag c → s.target r = .bay b →
    (∀ m, s.occupant b = some m →
      exec .arrive s = exec .arrive (s.departFrom b m) ∧ (s.departFrom b m).occupant b = none ∧
      MayTake (s.departFrom b m) r rest ∧ (s.departFrom b m).target r = .bay b) ∧
    (∀ i, s.occupant b = none → (s.record i).state ≠ .free → (s.record i).tag = tag →
      (∀ j, (s.record j).state ≠ .free → (s.record j).tag = tag → j = i) →
      (s.record i).state ≠ .pooled →
      ((s.record i).state = .graded → (s.record i).verdict ≠ none) →
      exec .arrive s = .next (State.selectIfDue { s with
        iu := { s.iu with intakeQueue := rest }
        mu := { s.mu with notices := raiseIn (.tagConflict tag (s.record i).state) s.mu.notices } })) ∧
    (s.occupant b = none → (∀ j, (s.record j).state ≠ .free) → (∀ j, (s.record j).tag ≠ tag) →
      exec .arrive s = .next (State.selectIfDue { s with
        iu := { s.iu with intakeQueue := rest }
        mu := { s.mu with notices := raiseIn (.registerFull tag) s.mu.notices } }))

/-- R46, R48, R37, R38, R60, R61, R131: an ARRIVE of a tag found POOLED, pool-waiting or GRADED in-bay with its verdict
sent is a retest. The record leaves the pool, and the first pool-waiting record takes its place; or it leaves the
pool-wait list; or its old bay, which held it, is emptied. It keeps its index and tag, takes the next generation and
arrival number and the ARRIVE's origin class, has every other field cleared, and is the new bay's occupant; it is
SETTLING with its timer started, or TESTING when its rest time is 0. -/
def Obligations.RetestArrival : Prop :=
  ∀ (s u : State) (r : MeasurementRecord) (rest : List MeasurementRecord) (b : Bay) (tag : Tag) (c : Fin 16)
    (i : ModuleIndex) (ms : Nat), MayTake s r rest → r.content = .arrive tag c → s.target r = .bay b →
    s.occupant b = none → (s.record i).tag = tag →
    (∀ j, (s.record j).state ≠ .free → (s.record j).tag = tag → j = i) →
    ((s.record i).state = .pooled ∧ u = s.leavePool i ∨
      (s.record i).state = .graded ∧ (s.record i).departed = true ∧ (s.record i).verdict = none ∧
        (∃ g, (s.record i).resolved = some g ∧ g ≠ .reject) ∧
        u = { s with pe := { s.pe with poolWait := s.pe.poolWait.erase i } } ∨
      (s.record i).state = .graded ∧ (s.record i).departed = false ∧ (s.record i).verdict = none ∧
        ((∃ old, (s.record i).location = .bay old ∧
            u = if s.occupant old = some { index := i, generation := (s.record i).generation } then
                { s with iu := { s.iu with live := put s.iu.live old.entry { s.live old.entry with
                  bays := put (s.live old.entry).bays old.channel none } } }
              else s) ∨
          (∀ old, (s.record i).location ≠ .bay old) ∧ u = s)) →
    ms = (s.mu.active.orig.get c).restCount *
      (match s.mu.active.bank.restUnit with | .s1 => 1 | .s10 => 10 | .s60 => 60) * 1000 →
    ∃ t, exec .arrive s = .next t ∧
      t = State.selectIfDue { u with
        iu := {
          live := put u.iu.live b.entry { u.live b.entry with
            bays := put (u.live b.entry).bays b.channel
              (some { index := i, generation := (s.record i).generation + 1 }) }
          intakeQueue := rest }
        mr := {
          records := put u.mr.records i { ModuleRecord.cleared ((s.record i).generation + 1) with
            state := if ms = 0 then .testing else .settling
            tag := tag, originClass := c, arrival := s.mr.arrivalCounter, location := .bay b }
          arrivalCounter := min (s.mr.arrivalCounter + 1) 4294967295 }
        ge := { u.ge with
          settleTimers := put s.ge.settleTimers i
            (if ms = 0 then none
             else some { generation := (s.record i).generation + 1, expiresAt := s.timeBase + ms }) } } ∧
      (PoolAgrees s → i ∉ t.pe.pool ∧ i ∉ t.pe.poolWait)

/-- R49 to R52, R93: a DEPART of a bay's occupant empties the bay and departs its module. A SETTLING or TESTING
module's timer stops and an ABANDONED verdict is made with the next verdict sequence, its evidence and gap count kept.
A GRADED one with its verdict pending waits for that; otherwise it becomes FREE for REJECT or no grade, enters the pool
while it has room, or waits. -/
def Obligations.DepartureEndsTheStay : Prop :=
  (∀ (s : State) (r : MeasurementRecord) (rest : List MeasurementRecord) (b : Bay) (m : ModuleRef)
    (tag : Option Tag), MayTake s r rest → r.content = .depart tag → s.target r = .bay b →
    s.occupant b = some m → (tag = none ∨ tag = some (s.record m.index).tag) →
    exec .depart s = .next (State.selectIfDue (State.departModule { s with
      iu := {
        live := put s.iu.live b.entry { s.live b.entry with
          bays := put (s.live b.entry).bays b.channel none }
        intakeQueue := rest } } m))) ∧
  ∀ (s u : State) (m : ModuleRef), (s.record m.index).generation = m.generation →
    u = { s with
      mr := { s.mr with
        records := put s.mr.records m.index { s.record m.index with departed := true, location := .absent } } } →
    ((s.record m.index).state = .settling ∨ (s.record m.index).state = .testing →
      s.departModule m = { s with
        mr := { s.mr with
          records := put s.mr.records m.index { s.record m.index with
            state := .graded, resolved := none, provisional := false, departed := true, location := .absent
            verdict := some { kind := .abandoned, sequence := s.ge.verdictCounter } } }
        ge := { s.ge with
          settleTimers := put s.ge.settleTimers m.index none, verdictCounter := s.ge.verdictCounter + 1 }
        rp := { s.rp with verdictClaims := s.rp.verdictClaims ++ [m.index] } }) ∧
    ((s.record m.index).state = .graded → (s.record m.index).departed = false →
      ((s.record m.index).verdict ≠ none → s.departModule m = u) ∧
      ((s.record m.index).verdict = none →
        (s.record m.index).resolved = none ∨ (s.record m.index).resolved = some .reject →
        s.departModule m = u.setRecord m.index (ModuleRecord.cleared (s.record m.index).generation)) ∧
      ((s.record m.index).verdict = none → (∃ g, (s.record m.index).resolved = some g ∧ g ≠ .reject) →
        s.departModule m =
          if s.pe.pool.length < 64 then u.enterPool m.index else u.enterPoolWait m.index))

/-- R128, R129, R133, R158: a record entering the pool is POOLED with its departed flag clear, no location and a watch
count of 0; it stands after every member whose key goes before its own or equals it and before every one whose key
comes after (GoesBefore: better grade, then provisional mark clear, then smaller arrival number); every WAITING
request becomes READY, and a FILL or REPLACE choice is marked stale. R130, R131: a record entering the pool-wait list
is GRADED, departed, with no location, verdict or order and a watch count of 0, stands there by the same key, and
wakes nothing; a promotion takes the first of that list into the pool, and follows a member that leaves. -/
def Obligations.PoolEntry : Prop :=
  (∀ (s t : State) (i : ModuleIndex), t = s.enterPool i → (∀ j ∈ s.pe.pool, j ≠ i) →
    s.pe.pool.Pairwise (fun j k => ¬ GoesBefore (s.record k) (s.record j)) →
    t.record i = { s.record i with
      state := .pooled, departed := false, location := .absent, watchCount := 0, order := none } ∧
    (∀ j, j ≠ i → t.record j = s.record j) ∧
    (∃ before after, s.pe.pool = before ++ after ∧ t.pe.pool = before ++ i :: after ∧
      (∀ j ∈ before, ¬ GoesBefore (s.record i) (s.record j)) ∧
      ∀ j ∈ after, GoesBefore (s.record i) (s.record j)) ∧
    t.pe.poolWait = s.pe.poolWait ∧
    t.pe.requests = (s.pe.requests.map fun q =>
      if q.status = .waiting then { q with status := .ready } else q) ∧
    (∀ c, s.pe.choice = some c → c.kind ≠ .remove → t.pe.choice = some { c with stale := true }) ∧
    (∀ c, s.pe.choice = some c → c.kind = .remove → t.pe.choice = some c) ∧
    (s.pe.choice = none → t.pe.choice = none)) ∧
  (∀ (s t : State) (i : ModuleIndex), t = s.enterPoolWait i → (∀ j ∈ s.pe.poolWait, j ≠ i) →
    s.pe.poolWait.Pairwise (fun j k => ¬ GoesBefore (s.record k) (s.record j)) →
    ∃ before after, s.pe.poolWait = before ++ after ∧
      (∀ j ∈ before, ¬ GoesBefore (s.record i) (s.record j)) ∧
      (∀ j ∈ after, GoesBefore (s.record i) (s.record j)) ∧
      t = { s with
        pe := { s.pe with poolWait := before ++ i :: after }
        mr := { s.mr with
          records := put s.mr.records i { s.record i with
            state := .graded, departed := true, location := .absent, verdict := none, watchCount := 0
            order := none } } }) ∧
  (∀ s : State, s.pe.poolWait = [] → s.promote = s) ∧
  (∀ (s : State) (i : ModuleIndex) (rest : List ModuleIndex), s.pe.poolWait = i :: rest →
    s.promote = State.enterPool { s with pe := { s.pe with poolWait := rest } } i) ∧
  ∀ (s : State) (i : ModuleIndex),
    s.leavePool i = State.promote { s with pe := { s.pe with pool := s.pe.pool.erase i } }

/-- R29, R30, R49, R63, R69: a record taken and not acted on increments SAMPLES-IGNORED and does nothing else. -/
def Obligations.RecordsNotActedOn : Prop :=
  ∀ (s t : State) (r : MeasurementRecord) (rest : List MeasurementRecord), MayTake s r rest →
    t = { s with
      iu := { s.iu with intakeQueue := rest }
      rp := { s.rp with counters := { s.rp.counters with
        samplesIgnored := min (s.rp.counters.samplesIgnored + 1) 65535 } } } →
    (∀ tag c, r.content = .arrive tag c → (∀ b, s.target r ≠ .bay b) → exec .arrive s = .next t) ∧
    (∀ tag, r.content = .depart tag → (∀ b, s.target r ≠ .bay b) → exec .depart s = .next t) ∧
    (∀ tag b, r.content = .depart tag → s.target r = .bay b → ¬ s.selectionConditions →
      (s.occupant b = none ∨
        ∃ m g, s.occupant b = some m ∧ tag = some g ∧ g ≠ (s.record m.index).tag) →
      exec .depart s = .next t) ∧
    (∀ k v w, r.content = .measure k v w →
      (s.target r = .none ∨ (∃ b, s.target r = .bay b ∧ s.occupant b = none) ∨
        (∃ b m, s.target r = .bay b ∧ s.occupant b = some m ∧ (s.record m.index).generation = m.generation ∧
          ((s.record m.index).state = .graded ∨
            (s.record m.index).state = .settling ∧ (k = .cap ∨ k = .drift))) ∨
        (∃ p, s.target r = .slot p ∧ ∀ m, s.slot p ≠ .occupied m)) →
      exec .measure s = .next t)

/-- R69, R70, R115: a MEASURE for a TESTING occupant begins an evaluation with place BAY and no reference; one
for an OCCUPIED slot begins one with place SERVICE, holding the string's reference of a CAP or RES metric. -/
def Obligations.MeasureBeginsEvaluation : Prop :=
  ∀ (s : State) (r : MeasurementRecord) (rest : List MeasurementRecord) (k : Metric) (v : Nat) (w : Int)
    (m : ModuleRef), MayTake s r rest → r.content = .measure k v w →
    (∀ b, s.target r = .bay b → s.occupant b = some m → (s.record m.index).generation = m.generation →
      (s.record m.index).state = .testing →
      exec .measure s = .next { s with
        iu := { s.iu with intakeQueue := rest }
        ge := { s.ge with
          evaluation := some
            { module := m, heldState := .testing, originClass := (s.record m.index).originClass, place := .bay
              metric := k, value := v, temperature := w, reference := none, found := none } } }) ∧
    (∀ p, s.target r = .slot p → s.slot p = .occupied m →
      exec .measure s = .next { s with
        iu := { s.iu with intakeQueue := rest }
        ge := { s.ge with
          evaluation := some
            { module := m, heldState := (s.record m.index).state
              originClass := (s.record m.index).originClass, place := .service
              metric := k, value := v, temperature := w, found := none
              reference := if k = .cap then (s.string p.string).cap.value
                else if k = .res then (s.string p.string).res.value else none } } })

/-- R62, R63: a RES or HEAT measurement of a SETTLING occupant restarts its timer from the full rest time, or
makes it TESTING when that is 0; an expiry ends the timer and makes a SETTLING record of the timer's generation
TESTING, and leaves any other record as it is. The model's choice (log 4): the row of an expiry brings the time base to
the instant at which its timer ends, and has no effect while another timer or deadline ends before that instant. -/
def Obligations.RestPeriod : Prop :=
  (∀ (s : State) (r : MeasurementRecord) (rest : List MeasurementRecord) (k : Metric) (v : Nat) (w : Int)
    (b : Bay) (m : ModuleRef) (ms : Nat), MayTake s r rest → r.content = .measure k v w → k = .res ∨ k = .heat →
    s.target r = .bay b → s.occupant b = some m → (s.record m.index).generation = m.generation →
    (s.record m.index).state = .settling →
    ms = (s.mu.active.orig.get (s.record m.index).originClass).restCount *
      (match s.mu.active.bank.restUnit with | .s1 => 1 | .s10 => 10 | .s60 => 60) * 1000 →
    (ms ≠ 0 → exec .measure s = .next { s with
      iu := { s.iu with intakeQueue := rest }
      ge := { s.ge with
        settleTimers := put s.ge.settleTimers m.index
          (some { generation := m.generation, expiresAt := s.timeBase + ms }) } }) ∧
    (ms = 0 → exec .measure s = .next { s with
      iu := { s.iu with intakeQueue := rest }
      ge := { s.ge with settleTimers := put s.ge.settleTimers m.index none }
      mr := { s.mr with records := put s.mr.records m.index { s.record m.index with state := .testing } } })) ∧
  ∀ (s : State) (i : ModuleIndex) (x : SettleTimer), s.timer i = some x →
    (NothingEndsBefore s x.expiresAt → exec (.settleExpiry i.val) s = .next { s with
      timeBase := max s.timeBase x.expiresAt
      ge := { s.ge with settleTimers := put s.ge.settleTimers i none }
      mr := { s.mr with
        records :=
          if (s.record i).generation = x.generation ∧ (s.record i).state = .settling then
            put s.mr.records i { s.record i with state := .testing }
          else s.mr.records } }) ∧
    (¬ NothingEndsBefore s x.expiresAt → exec (.settleExpiry i.val) s = .next s)

/-! ## Evaluation, resolution and regrading -/

/-- R71 to R74: the search stops at the active rule of lowest index that meets all six conditions, and finds
none when no rule does. -/
def Obligations.SearchFindsTheFirstMatch : Prop :=
  ∀ (rules : Vector GradingRule 96) (e : Evaluation),
    (∀ i, search rules e = .rule i ↔
      RuleMatches (rules.get i) e ∧ ∀ j, j.val < i.val → ¬ RuleMatches (rules.get j) e) ∧
    (search rules e = .noRule ↔ ∀ i, ¬ RuleMatches (rules.get i) e)

/-- R75, R78, R79, R80, R82, R83, R84: a completion whose record has another generation or has left the expected
states is discarded and counted in SAMPLES-IGNORED. One without a confirmation writes the set of its own metric
alone: the run of the rule found, or a missed search with RULE-HOLE raised, and the last value; no resolution runs;
a changed CAP or RES value in service recomputes the string's references. The rule found is that of the search of the
active rules, which an evaluation whose search has ended holds (SearchAgrees). -/
def Obligations.CompletionWithoutConfirmation : Prop :=
  (∀ (s u : State) (e : Evaluation) (x y : Evidence) (found : SearchResult) (p : SlotId) (rule : GradingRule),
    CompletionApplies s e → SearchAgrees s → search s.mu.active.rule e = found →
    x = (s.record e.module.index).evidence.get e.metric →
    (e.place = .service → (s.record e.module.index).location = .slot p) →
    (found = .noRule ∧
        y = { x with
          candidate := none, runCount := 0, unmatched := min (x.unmatched + 1) 255, lastValue := some e.value } ∨
      (∃ i n, found = .rule i ∧ rule = s.mu.active.rule.get i ∧
        n = (if x.candidate = some i then x.runCount + 1 else 1) ∧ n ≠ rule.confirm.getD 1 ∧
        y = { x with candidate := some i, runCount := n, lastValue := some e.value })) →
    u = { s with
      mr := { s.mr with
        records := put s.mr.records e.module.index { s.record e.module.index with
          evidence := (s.record e.module.index).evidence.set e.metric y } }
      mu := { s.mu with
        notices := if found = .noRule then raiseIn (.ruleHole e.module.index e.metric) s.mu.notices
          else s.mu.notices } } →
    exec .evaluationCompletion s = .next ((State.setEvaluation
      (if e.place = .service ∧ (e.metric = .cap ∨ e.metric = .res) ∧ x.lastValue ≠ some e.value then
        u.recompute p.string else u) none).settleIfSafe.selectIfDue)) ∧
  ∀ (s : State) (e : Evaluation), s.ge.evaluation = some e → ¬ CompletionApplies s e →
    exec .evaluationCompletion s = .next (State.selectIfDue (State.settleIfSafe { s with
      ge := { s.ge with evaluation := none }
      rp := { s.rp with counters := { s.rp.counters with
        samplesIgnored := min (s.rp.counters.samplesIgnored + 1) 65535 } } }))

/-- R75, R82, R88, R92, R97: when the search of the active rules finds a rule whose run is complete, the confirmation
gives the metric the rule's grade, counts it and ends the run; the record is resolved; in a bay a first grade ends the
test with a GRADED verdict and its claim, no grade leaves the test going on; in service the grade is compared with the
string's minimum. -/
def Obligations.EvaluationConfirms : Prop :=
  ∀ (s : State) (e : Evaluation) (x : Evidence) (k : Fin 96) (rule : GradingRule) (i : ModuleIndex)
    (r : ModuleRecord), CompletionApplies s e → SearchAgrees s → search s.mu.active.rule e = .rule k →
    i = e.module.index →
    x = (s.record i).evidence.get e.metric → rule = s.mu.active.rule.get k →
    (if x.candidate = some k then x.runCount + 1 else 1) = rule.confirm.getD 1 →
    r = ({ s.record i with
      evidence := (s.record i).evidence.set e.metric { x with
        candidate := some k, runCount := 0, grade := some rule.grade
        confirmations := min (x.confirmations + 1) 255
        lastValue := some e.value } } : ModuleRecord).withGrade (s.mu.active.orig.get (s.record i).originClass) →
    (e.place = .bay → r.resolved = none →
      exec .evaluationCompletion s =
        .next (((s.setRecord i r).setEvaluation none).settleIfSafe.selectIfDue)) ∧
    (e.place = .bay → r.resolved ≠ none →
      exec .evaluationCompletion s = .next (State.selectIfDue (State.settleIfSafe { s with
        mr := { s.mr with
          records := put s.mr.records i { r with
            state := .graded, departed := false
            verdict := some { kind := .graded, sequence := s.ge.verdictCounter } } }
        ge := { s.ge with evaluation := none, verdictCounter := s.ge.verdictCounter + 1 }
        rp := { s.rp with verdictClaims := s.rp.verdictClaims ++ [i] } }))) ∧
    (∀ p, e.place = .service → (s.record i).location = .slot p →
      exec .evaluationCompletion s = .next ((State.setEvaluation
        (if (e.metric = .cap ∨ e.metric = .res) ∧ x.lastValue ≠ some e.value then
          ((s.setRecord i r).regrade i p).recompute p.string else (s.setRecord i r).regrade i p)
        none).settleIfSafe.selectIfDue))

/-- R89, R90, R88: with a metric UNGRADED the grade is NONE and the mark clear; otherwise the worst metric grade
is demoted once, and the mark set, when a confirmations count is below the residency threshold or the gap count
above the gap limit, and the result is capped at the ceiling. No other field changes. -/
def Obligations.ResolutionWeighsTheEvidence : Prop :=
  ∀ (c : OriginClass) (r t : ModuleRecord), t = r.withGrade c →
    t = { r with resolved := t.resolved, provisional := t.provisional } ∧
    ((r.evidence.cap.grade = none ∨ r.evidence.res.grade = none ∨ r.evidence.drift.grade = none ∨
        r.evidence.heat.grade = none) → t.resolved = none ∧ t.provisional = false) ∧
    ∀ g1 g2 g3 g4 start : Grade, r.evidence.cap.grade = some g1 → r.evidence.res.grade = some g2 →
      r.evidence.drift.grade = some g3 → r.evidence.heat.grade = some g4 →
      (start = g1 ∨ start = g2 ∨ start = g3 ∨ start = g4) →
      (g1.rank ≤ start.rank ∧ g2.rank ≤ start.rank ∧ g3.rank ≤ start.rank ∧ g4.rank ≤ start.rank) →
      (t.provisional = true ↔
        (r.evidence.cap.confirmations < c.residency ∨ r.evidence.res.confirmations < c.residency ∨
          r.evidence.drift.confirmations < c.residency ∨ r.evidence.heat.confirmations < c.residency) ∨
        c.gapLimit < r.gapCount) ∧
      ∃ g kept, t.resolved = some g ∧
        (t.provisional = false → kept = start) ∧
        (t.provisional = true → kept = match start with
          | .a => .b | .b => .c | .c => .d | .d => .d | .reject => .reject) ∧
        (kept.rank < c.ceiling.rank → g = c.ceiling) ∧ (c.ceiling.rank ≤ kept.rank → g = kept)

/-- R97 to R101: what a resolution in service does to the watch count, the state and the slot's request. -/
def Obligations.RegradingInService : Prop :=
  ∀ (s : State) (i : ModuleIndex) (p : SlotId) (c : PairingClass) (n : Nat),
    c = s.mu.active.pcls.get (s.string p.string).pairingClass → n = min ((s.record i).watchCount + 1) 15 →
    ((s.record i).resolved = none → s.regrade i p = s) ∧
    (∀ g, (s.record i).resolved = some g → (s.record i).state = .outbound →
      s.regrade i p = s.setRecord i { s.record i with
        watchCount := if g.rank ≤ c.minimum.rank then 0 else n }) ∧
    (∀ g, (s.record i).resolved = some g → c.minimum.rank < g.rank → g ≠ .reject →
      ((s.record i).state = .inService → n < c.watchConfirm →
        s.regrade i p = s.setRecord i { s.record i with watchCount := n }) ∧
      ((s.record i).state = .inService → c.watchConfirm ≤ n →
        s.regrade i p =
          (s.setRecord i { s.record i with watchCount := n, state := .watch }).raiseRequest p .replace .ready) ∧
      ((s.record i).state = .watch →
        s.regrade i p = (s.setRecord i { s.record i with watchCount := n }).raiseRequest p .replace .ready)) ∧
    ((s.record i).resolved = some .reject → c.minimum ≠ .reject →
      (s.record i).state = .inService ∨ (s.record i).state = .watch →
      s.regrade i p =
        (s.setRecord i { s.record i with watchCount := n, state := .watch }).raiseRequest p .remove .ready) ∧
    (∀ g, (s.record i).resolved = some g → g.rank ≤ c.minimum.rank →
      ((s.record i).state = .inService → s.regrade i p = s.setRecord i { s.record i with watchCount := 0 }) ∧
      ((s.record i).state = .watch → s.request p = none →
        s.regrade i p = s.setRecord i { s.record i with watchCount := 0, state := .inService }) ∧
      (∀ q, (s.record i).state = .watch → s.request p = some q → q.status ≠ .selected →
        s.regrade i p =
          (s.setRecord i { s.record i with watchCount := 0, state := .inService }).withdraw p) ∧
      (∀ q, (s.record i).state = .watch → s.request p = some q → q.status = .selected →
        s.regrade i p = s.setRecord i { s.record i with watchCount := 0 }))

/-! ## Strings and requests -/

/-- R111, R112: a string's reference of a metric is the sum of the last values of its OCCUPIED slots' modules
divided by their number, rounded down, and absent without any; a recomputation stores both, and when either
changed makes the string's WAITING requests READY and marks a FILL or REPLACE choice for the string stale. -/
def Obligations.ReferencesAreRoundedMeans : Prop :=
  ∀ (s : State) (k : Fin 8) (values : Metric → List Nat) (cap res : Reference),
    (∀ m, values m = (List.finRange 16).filterMap fun p =>
      match s.slot { string := k, position := p } with
      | .occupied x => ((s.record x.index).evidence.get m).lastValue
      | _ => none) →
    cap = (if values .cap = [] then { value := none, count := 0 }
      else { value := some ((values .cap).sum / (values .cap).length), count := (values .cap).length }) →
    res = (if values .res = [] then { value := none, count := 0 }
      else { value := some ((values .res).sum / (values .res).length), count := (values .res).length }) →
    (((s.string k).cap = cap ∧ (s.string k).res = res) → s.recompute k = s) ∧
    (¬ ((s.string k).cap = cap ∧ (s.string k).res = res) → s.recompute k =
      { s with
        sm := { s.sm with strings := put s.sm.strings k { s.string k with cap := cap, res := res } }
        pe := { s.pe with
          requests := s.pe.requests.map fun q =>
            if q.slot.string = k ∧ q.status = .waiting then { q with status := .ready } else q
          choice := s.pe.choice.map fun c =>
            if c.slot.string = k ∧ c.kind ≠ .remove then { c with stale := true } else c } })

/-- R116, R134 to R136, R99: a raise for a slot out of use or in a state that does not fit creates nothing; a
slot with no request gets one at the end of the queue with the next age and its kind's priority; a REPLACE
becomes REMOVE in its place; every other request stays as it is. -/
def Obligations.RequestRaise : Prop :=
  ∀ (s : State) (p : SlotId) (k : RequestKind) (st : RequestStatus) (c : PairingClass),
    c = s.mu.active.pcls.get (s.string p.string).pairingClass →
    (s.slotInUse p = false → s.raiseRequest p k st = s) ∧
    (k = .fill → s.slot p ≠ .empty → s.raiseRequest p k st = s) ∧
    (k ≠ .fill → (∀ m, s.slot p ≠ .occupied m) → s.raiseRequest p k st = s) ∧
    (s.slotInUse p = true → (k = .fill → s.slot p = .empty) →
      (k ≠ .fill → ∃ m, s.slot p = .occupied m) →
      ((∀ q ∈ s.pe.requests, q.slot ≠ p) → s.raiseRequest p k st =
        { s with pe := { s.pe with
            ageCounter := s.pe.ageCounter + 1
            requests := s.pe.requests ++
              [{ slot := p, kind := k, age := s.pe.ageCounter, status := st
                 priority := match k with
                   | .fill => c.fillPriority
                   | .replace => c.replacePriority
                   | .remove => 3 }] } }) ∧
      (∀ q before after, s.pe.requests = before ++ q :: after → q.slot = p →
        (∀ x ∈ before, x.slot ≠ p) → (∀ x ∈ after, x.slot ≠ p) →
        (q.kind = .replace → k = .remove → s.raiseRequest p k st =
          { s with pe := { s.pe with
              requests := before ++ { q with kind := .remove, priority := 3 } :: after } }) ∧
        (¬ (q.kind = .replace ∧ k = .remove) → s.raiseRequest p k st = s)))

/-! ## Selection and choice -/

/-- R143, R144, R145, R150, R151, R152: when its conditions hold together, a selection takes the oldest READY
request under ARRIVAL and the oldest of highest priority under PRIORITY, makes it SELECTED, reserves the lowest
FREE Order Table record, and begins the choice, which holds the references its kind asks for (those of a REPLACE
leave its slot out) and every pool member in pool order; otherwise nothing changes. -/
def Obligations.SelectionReserves : Prop :=
  ∀ (s : State) (policy : Policy),
    (s.mu.active.bank.policy = policy → exec .selection s = .next (s.select policy)) ∧
    (¬ s.selectionConditions → s.select policy = s) ∧
    ∀ (q : Request) (o : OrderIndex) (before after : List Request) (values : Metric → List Nat)
      (mean : Metric → Reference),
      s.selectionConditions → s.pe.requests = before ++ q :: after → q.status = .ready →
      (∀ x ∈ before ++ after, x.slot ≠ q.slot) →
      (policy = .arrival → ∀ x ∈ before, x.status ≠ .ready) →
      (policy = .priority → (∀ x ∈ before, x.status = .ready → x.priority < q.priority) ∧
        ∀ x ∈ after, x.status = .ready → x.priority ≤ q.priority) →
      s.order o = .free → (∀ k, k.val < o.val → s.order k ≠ .free) →
      (∀ m, values m = (List.finRange 16).filterMap fun p =>
        if p = q.slot.position then none
        else match s.slot { string := q.slot.string, position := p } with
          | .occupied x => ((s.record x.index).evidence.get m).lastValue
          | _ => none) →
      (∀ m, mean m = if values m = [] then { value := none, count := 0 }
        else { value := some ((values m).sum / (values m).length), count := (values m).length }) →
      s.select policy = { s with
        ot := { s.ot with table := put s.ot.table o (.reservedForChoice q.slot) }
        pe := { s.pe with
          requests := before ++ { q with status := .selected } :: after
          choice := some
            { age := q.age, kind := q.kind, slot := q.slot, noted := s.slot q.slot, order := o
              cls := s.mu.active.pcls.get (s.string q.slot.string).pairingClass
              capReference := match q.kind with
                | .fill => (s.string q.slot.string).cap
                | .replace => mean .cap
                | .remove => { value := none, count := 0 }
              resReference := match q.kind with
                | .fill => (s.string q.slot.string).res
                | .replace => mean .res
                | .remove => { value := none, count := 0 }
              members := if q.kind = .remove then [] else s.pe.pool.map fun i =>
                { module := { index := i, generation := (s.record i).generation }
                  resolved := (s.record i).resolved
                  capValue := (s.record i).evidence.cap.lastValue
                  resValue := (s.record i).evidence.res.lastValue }
              scanPosition := 0, best := none, stale := false } } }

/-- R149, R153, R154, R155: a test is transparent below the reference minimum or at a count of 0, and then passed
by every member; else a member passes it within the tolerance; GRADE is at least the minimum; the flag of the
combination decides eligibility; the score adds each weight times the distance, or times 65535 without a value,
and nothing for a transparent test. -/
def Obligations.EligibilityAndScore : Prop :=
  ∀ (c : Choice) (m : Member) (capOpen resOpen : Prop) (cap res grade : Bool),
    (capOpen ↔ c.capReference.count < c.cls.referenceMinimum ∨ c.capReference.count = 0) →
    (resOpen ↔ c.resReference.count < c.cls.referenceMinimum ∨ c.resReference.count = 0) →
    (cap = true ↔ capOpen ∨ ∃ v r, m.capValue = some v ∧ c.capReference.value = some r ∧
      v ≤ r + c.cls.capTolerance ∧ r ≤ v + c.cls.capTolerance) →
    (res = true ↔ resOpen ∨ ∃ v r, m.resValue = some v ∧ c.resReference.value = some r ∧
      v ≤ r + c.cls.resTolerance ∧ r ≤ v + c.cls.resTolerance) →
    (grade = true ↔ ∃ g, m.resolved = some g ∧ g.rank ≤ c.cls.minimum.rank) →
    c.eligible m =
      c.cls.flags.getLsbD ((if cap then 1 else 0) + (if res then 2 else 0) + (if grade then 4 else 0)) ∧
    (c.cls.flags = 0 → c.eligible m = false) ∧ (c.cls.flags = 255 → c.eligible m = true) ∧
    (∃ x y, c.score m = x + y ∧ (capOpen → x = 0) ∧ (resOpen → y = 0) ∧
      (¬ capOpen → m.capValue = none → x = c.cls.capWeight * 65535) ∧
      (¬ resOpen → m.resValue = none → y = c.cls.resWeight * 65535) ∧
      (∀ v r, ¬ capOpen → m.capValue = some v → c.capReference.value = some r →
        x = c.cls.capWeight * ((v - r) + (r - v))) ∧
      (∀ v r, ¬ resOpen → m.resValue = some v → c.resReference.value = some r →
        y = c.cls.resWeight * ((v - r) + (r - v)))) ∧
    (PairingClass.InRange c.cls → (∀ v, m.capValue = some v ∨ m.resValue = some v → v ≤ 65535) →
      (∀ v, c.capReference.value = some v ∨ c.resReference.value = some v → v ≤ 65535) → c.score m ≤ 1966050)

/-- R156: the first eligible member, and each eligible one of lower score, becomes the best so far; at the end of
the scan the eligible member of lowest score is chosen, the earliest in pool order among equals, and none when none
is eligible. How far the scan has gone makes no difference to what it chooses. -/
def Obligations.BestCandidate : Prop :=
  (∀ (c : Choice) (best : Option Best) (m : Member),
    (c.eligible m = false → c.better best m = best) ∧
    (c.eligible m = true → (∀ b, best = some b → c.score m < b.score) →
      c.better best m = some { module := m.module, score := c.score m }) ∧
    (∀ b, best = some b → b.score ≤ c.score m → c.better best m = best)) ∧
  (∀ c : Choice, c.scanOne.chosen = c.chosen) ∧
  ∀ c : Choice, c.scanPosition = 0 → c.best = none →
    (c.chosen = none ↔ ∀ m ∈ c.members, c.eligible m = false) ∧
    ∀ before m after, c.members = before ++ m :: after → c.eligible m = true →
      (∀ x ∈ before, c.eligible x = true → c.score m < c.score x) →
      (∀ x ∈ after, c.eligible x = true → c.score m ≤ c.score x) →
      c.chosen = some { module := m.module, score := c.score m }

/-- R159, R161, R162, R164, R166, R170, R171: a completion that finds its request, its slot, its candidate POOLED
and its outgoing module WATCH makes the order of the request's kind in the reserved record, with the first free
number from the counter on and DEFERRED behind another order of the string that is ISSUING or ISSUED; candidate,
outgoing module and slot take their new states, the request leaves, the first pool-waiting record takes the
place in the pool, the references are recomputed when the slot left OCCUPIED, and the next selection is made, by
PRIORITY, or after a commit that waited is settled. -/
def Obligations.ChoiceMakesOrder : Prop :=
  ∀ (s : State) (c : Choice) (before after : List Request) (q : Request) (n : Byte) (k : Nat) (stage : OrderStage)
    (made : OrderWork → OrderTracker) (finish : State → Host.Outcome State Fault Refusal),
    s.pe.choice = some c → s.pe.requests = before ++ q :: after → q.slot = c.slot → q.age = c.age →
    q.kind = c.kind → (∀ x ∈ before ++ after, x.slot ≠ c.slot) → s.slot c.slot = c.noted →
    s.order c.order = .reservedForChoice c.slot →
    k < 256 → n = s.ot.numberCounter + BitVec.ofNat 8 k →
    (n ∉ s.ot.expired ∧ ∀ i o, s.order i = .order o → o.number ≠ n) →
    (∀ j < k, s.ot.numberCounter + BitVec.ofNat 8 j ∈ s.ot.expired ∨
      ∃ i o, s.order i = .order o ∧ o.number = s.ot.numberCounter + BitVec.ofNat 8 j) →
    ((∃ i o, s.order i = .order o ∧ o.slot.string = c.slot.string ∧ o.stage ≠ .deferred) →
      stage = .deferred) →
    ((∀ i o, s.order i = .order o → o.slot.string = c.slot.string → o.stage = .deferred) → stage = .issuing) →
    (∀ w, made w = { s.ot with
      table := put s.ot.table c.order (.order { stage := stage, slot := c.slot, number := n, work := w })
      creation := s.ot.creation ++ [c.order], numberCounter := n + 1 }) →
    (∀ t, finish t = .next
      (if s.mu.pendingCommit = none then (t.setChoice none).select .priority
        else (t.setChoice none).settleIfSafe.selectIfDue)) →
    (∀ b, c.kind = .fill → c.noted = .empty → c.chosen = some b → s.standsIn b.module [.pooled] →
      exec .choiceCompletion s = finish (State.promote { s.setSlot c.slot (.reserved c.order none) with
        mr := { s.mr with
          records :=
            put s.mr.records b.module.index
              { s.record b.module.index with state := .assigned, order := some c.order } }
        ot := made (.insert b.module)
        pe := { s.pe with requests := before ++ after, pool := s.pe.pool.erase b.module.index } })) ∧
    (∀ b out, c.kind = .replace → c.noted = .occupied out → c.chosen = some b →
      s.standsIn b.module [.pooled] → s.standsIn out [.watch] →
      exec .choiceCompletion s = finish (State.recompute (State.promote
        { s.setSlot c.slot (.reserved c.order (some out)) with
          mr := { s.mr with
            records :=
              put
                (put s.mr.records b.module.index
                  { s.record b.module.index with state := .assigned, order := some c.order })
                out.index { s.record out.index with state := .outbound, order := some c.order } }
          ot := made (.swap b.module out)
          pe := { s.pe with requests := before ++ after, pool := s.pe.pool.erase b.module.index } })
        c.slot.string)) ∧
    (∀ out, c.kind = .remove → c.noted = .occupied out → s.standsIn out [.watch] →
      exec .choiceCompletion s = finish (State.recompute
        { s.setSlot c.slot (.reserved c.order (some out)) with
          mr := { s.mr with
            records :=
              put s.mr.records out.index
                { s.record out.index with state := .outbound, order := some c.order } }
          ot := made (.remove out)
          pe := { s.pe with requests := before ++ after } }
        c.slot.string))

/-- R160, R163, R159, R164: a completion that makes no order frees the reserved record and ends the choice. With no
candidate the request becomes WAITING, or READY with the stale mark, and STRING-WAITING is raised. With the
request gone or of another kind, or the slot, the candidate or the outgoing module not as it was, the result is
discarded and a request still there becomes READY. Then the next selection is made. -/
def Obligations.ChoiceWithoutOrder : Prop :=
  ∀ (s : State) (c : Choice) (freed : State) (finish : State → Host.Outcome State Fault Refusal),
    s.pe.choice = some c → c.order ∉ s.ot.creation →
    freed = { s with
      ot := { s.ot with table := put s.ot.table c.order .free }, pe := { s.pe with choice := none } } →
    (∀ t, finish t =
      .next (if s.mu.pendingCommit = none then t.select .priority else t.settleIfSafe.selectIfDue)) →
    ((∀ x ∈ s.pe.requests, x.slot = c.slot → x.age ≠ c.age) → exec .choiceCompletion s = finish freed) ∧
    ∀ before after q, s.pe.requests = before ++ q :: after → q.slot = c.slot → q.age = c.age →
      (∀ x ∈ before ++ after, x.slot ≠ c.slot) →
      (q.kind = c.kind → c.kind ≠ .remove → c.chosen = none →
        exec .choiceCompletion s = finish { freed with
          pe := { freed.pe with
            requests := before ++ { q with status := if c.stale then .ready else .waiting } :: after }
          mu := { s.mu with notices := raiseIn (.stringWaiting c.slot) s.mu.notices } }) ∧
      (q.kind ≠ c.kind ∨ (c.kind = .remove ∨ c.chosen ≠ none) ∧
          (s.slot c.slot ≠ c.noted ∨
            (c.kind ≠ .remove ∧ ∃ b, c.chosen = some b ∧ ¬ s.standsIn b.module [.pooled]) ∨
            (c.kind ≠ .fill ∧ ∃ out, c.noted = .occupied out ∧ ¬ s.standsIn out [.watch])) →
        exec .choiceCompletion s = finish { freed with
          pe := { freed.pe with requests := before ++ { q with status := .ready } :: after } })

/-! ## The end of an order -/

/-- R175 to R179, R118, R172: ORDER-DONE answers OUT-OF-RANGE, STATE, LATE or NOT-FOUND and changes nothing, or
ends an ISSUED order. DONE puts the incoming module in service in the slot, frees the outgoing one, and leaves the
slot of a REMOVE EMPTY with a READY FILL request. REFUSED returns the incoming module to the pool and the outgoing
one to WATCH in the slot, and raises, after the wakes, a WAITING request. Then the record is free, the oldest
DEFERRED order of the string is issued and a selection is made. Number, result and reason are echoed. -/
def Obligations.OrderDone : Prop :=
  ∀ (s u : State) (f : Frame) (rest : List Frame) (token n r reason : Byte)
    (reply : State → Byte → Host.Outcome State Fault Refusal), CommandReady s f rest 7#8 token [n, r, reason] →
    u = s.taken rest → (∀ v st, reply v st = .next (v.offered f [7#8, token, st, n, r, reason])) →
    (1 < r.toNat → exec .orderDone s = reply u 5#8) ∧
    (r.toNat ≤ 1 → (∀ j x, s.order j = .order x → x.number ≠ n) →
      exec .orderDone s = reply u (if n ∈ s.ot.expired then 9#8 else 8#8)) ∧
    ∀ i o, r.toNat ≤ 1 → s.order i = .order o → o.number = n →
      (∀ j x, s.order j = .order x → x.number = n → j = i) →
      ((o.stage = .deferred ∨ o.stage = .issuing) → exec .orderDone s = reply u 6#8) ∧
      ∀ (e : Nat) (x : Option ModuleRef) (p : SlotId) (close : State → Host.Outcome State Fault Refusal),
        o.stage = .issued e → p = o.slot → s.slot p = .reserved i x →
        (∀ v, close v = reply (((v.freeOrderRecord i).promoteDeferred p.string).selectIfDue) 0#8) →
        (∀ m, o.work = .insert m → s.standsIn m [.assigned] →
          (r = 0#8 → exec .orderDone s = close (State.recompute ((u.setRecord m.index
            { s.record m.index with state := .inService, location := .slot p, order := none, watchCount := 0
              }).setSlot p (.occupied m)) p.string)) ∧
          (r = 1#8 → exec .orderDone s = close (State.raiseRequest
            ((if s.pe.pool.length < 64 then u.enterPool m.index else u.enterPoolWait m.index).setSlot p .empty)
            p .fill .waiting))) ∧
        (∀ m out, o.work = .swap m out → s.standsIn m [.assigned] → s.standsIn out [.outbound] →
          (r = 0#8 → exec .orderDone s = close (State.recompute (((u.setRecord m.index
            { s.record m.index with state := .inService, location := .slot p, order := none, watchCount := 0
              }).setRecord out.index (ModuleRecord.cleared out.generation)).setSlot p (.occupied m))
            p.string)) ∧
          (r = 1#8 → exec .orderDone s = close (State.raiseRequest (State.recompute (((
            if s.pe.pool.length < 64 then u.enterPool m.index else u.enterPoolWait m.index).setRecord out.index
            { s.record out.index with state := .watch, location := .slot p, order := none }).setSlot p
            (.occupied out)) p.string) p
            (if (s.record out.index).resolved = some .reject then .remove else .replace) .waiting))) ∧
        (∀ out, o.work = .remove out → s.standsIn out [.outbound] →
          (r = 0#8 → exec .orderDone s = close (State.raiseRequest ((u.setRecord out.index
            (ModuleRecord.cleared out.generation)).setSlot p .empty) p .fill .ready)) ∧
          (r = 1#8 → exec .orderDone s = close (State.raiseRequest (State.recompute ((u.setRecord out.index
            { s.record out.index with state := .watch, location := .slot p, order := none }).setSlot p
            (.occupied out)) p.string) p .remove .waiting)))

/-- R181, R182, R172: the expiry of an ISSUED order makes its modules HELD with their evidence and grades kept, its
slot UNKNOWN, raises ORDER-EXPIRED with its number, which enters the expired list, the oldest of eight leaving;
the record is free, the oldest DEFERRED order of the string is issued and a selection is made. An order that is not
ISSUED does not expire. The model's choice (log 4): the row of an expiry brings the time base to the instant at which
the deadline elapses (R180), and has no effect while a timer or another deadline ends before that instant. -/
def Obligations.OrderExpires : Prop :=
  (∀ (s : State) (i : OrderIndex),
    (∀ o t, s.order i = .order o → o.stage = .issued t → ¬ NothingEndsBefore s t) →
    exec (.orderExpiry i.val) s = .next s) ∧
  (∀ (s : State) (i : OrderIndex) (o : Order) (t : Nat) (x : Option ModuleRef)
    (held : ModuleIndex → ModuleRecord), s.order i = .order o → o.stage = .issued t → NothingEndsBefore s t →
    s.slot o.slot = .reserved i x →
    (∀ m, o.work.incoming = some m → s.standsIn m [.assigned]) →
    (∀ m, o.work.outgoing = some m → s.standsIn m [.outbound]) →
    (∀ k, held k = { s.record k with state := .held, location := .absent, order := none }) →
    exec (.orderExpiry i.val) s = .next (State.selectIfDue (State.promoteDeferred
      { s.setSlot o.slot .unknown with
        timeBase := max s.timeBase t
        mr := { s.mr with records :=
          match o.work with
          | .insert m => put s.mr.records m.index (held m.index)
          | .swap m out => put (put s.mr.records m.index (held m.index)) out.index (held out.index)
          | .remove out => put s.mr.records out.index (held out.index) }
        mu := { s.mu with notices := raiseIn (.orderExpired o.number) s.mu.notices }
        ot := { s.ot with
          table := put s.ot.table i .free, creation := s.ot.creation.erase i
          expired := (if s.ot.expired.length < 8 then s.ot.expired else s.ot.expired.tail) ++ [o.number] } }
      o.slot.string))) ∧
  ∀ (s : State) (k : Fin 8),
    ((∀ i ∈ s.ot.creation, ∀ o, s.order i = .order o → o.slot.string = k → o.stage ≠ .deferred) →
      s.promoteDeferred k = s) ∧
    ∀ before i after o, s.ot.creation = before ++ i :: after → s.order i = .order o → o.stage = .deferred →
      o.slot.string = k →
      (∀ j ∈ before, ∀ x, s.order j = .order x → x.slot.string = k → x.stage ≠ .deferred) →
      s.promoteDeferred k = { s with ot := { s.ot with
        table := put s.ot.table i (.order { o with stage := .issuing }) } }

/-! ## Tables -/

/-- R188 to R190, R209: LOAD reads its body chunk by chunk. One whose next chunk cannot be read is answered MALFORMED
with that chunk's ordinal. Of well-formed chunks, those of unknown names are passed over and counted; the first whose
table a pending commit names answers COLLISION, and then the first entry out of range OUT-OF-RANGE with chunk and
index. In these cases nothing is written; otherwise every entry is written to the shadow copies in body order, nothing
else changes, and the REPLY says how many entries were written and how many chunks were unknown. -/
def Obligations.LoadWritesShadow : Prop :=
  ∀ (s : State) (f : Frame) (rest : List Frame) (token : Byte) (params fails : List Byte) (chunks : List LoadChunk),
    CommandReady s f rest 1#8 token params → params = chunks.flatMap LoadChunk.characters ++ fails →
    (∀ c ∈ chunks, c.WellFormed) →
    (ChunkFails fails → exec .load s =
      .next ((s.taken rest).offered f [1#8, token, 2#8, BitVec.ofNat 8 (chunks.length + 1), 255#8])) ∧
    (fails = [] →
      (∀ mask before c t after, s.mu.pendingCommit = some mask → chunks = before ++ c :: after →
        c.table? = some t → mask.getLsbD t.code = true →
        (∀ x ∈ before, ∀ t, x.table? = some t → mask.getLsbD t.code = false) →
        exec .load s =
          .next ((s.taken rest).offered f [1#8, token, 7#8, BitVec.ofNat 8 (before.length + 1), 255#8])) ∧
      ((∀ mask, s.mu.pendingCommit = some mask → ∀ c ∈ chunks, ∀ t, c.table? = some t →
          mask.getLsbD t.code = false) →
        (∀ before k t i fields after, entriesFrom 1 chunks = before ++ (k, t, i :: fields) :: after →
          (∀ x ∈ before, (entryWriteOf x.2.1 x.2.2).isSome) → entryWriteOf t (i :: fields) = none →
          exec .load s = .next ((s.taken rest).offered f [1#8, token, 5#8, BitVec.ofNat 8 k, i])) ∧
        ∀ writes : List EntryWrite,
          (entriesFrom 1 chunks).map (fun x => entryWriteOf x.2.1 x.2.2) = writes.map some →
          exec .load s = .next ({ s.taken rest with
            mu := { (s.taken rest).mu with shadow := writes.foldl Tables.write s.mu.shadow } }.offered f
              [1#8, token, 0#8, BitVec.ofNat 8 writes.length,
                BitVec.ofNat 8 (chunks.filter fun c : LoadChunk => c.table?.isNone).length])))

/-- R209, R66, R18, R58, R147, R204: the characters of a table entry within its ranges, field by field, are the
characters the part sends for it, and with its index before them are read as that entry of that table, every field
kept; the temperatures of an absent qualifier are sent as 0, read whatever they are, and not kept (R66). No other
characters are read: not a code outside its list, a field or an index out of range, or another length. -/
def Obligations.TableEntriesRoundTrip : Prop :=
  (∀ (i : Fin 16) (e : OriginClass) (chars : List Byte), e.InRange →
    chars = bigEndian 2 e.restCount ++
      [BitVec.ofNat 8 e.residency, BitVec.ofNat 8 e.gapLimit, BitVec.ofNat 8 e.ceiling.rank] →
    entryWriteOf .orig (BitVec.ofNat 8 i.val :: chars) = some (.orig i e) ∧ originClassChars e = known chars) ∧
  (∀ (i : Fin 96) (e : GradingRule) (chars loaded temperatures before after : List Byte), e.InRange →
    (e.qualifier = none → temperatures.length = 4) →
    (∀ q, e.qualifier = some q → temperatures =
      bigEndian 2 (BitVec.ofInt 16 q.low).toNat ++ bigEndian 2 (BitVec.ofInt 16 q.high).toNat) →
    before = (if e.valid then 1#8 else 0#8) :: bigEndian 2 e.originMask.toNat ++
      [match e.applicability with | .bay => 0#8 | .service => 1#8 | .both => 2#8,
        match e.metric with | .cap => 0#8 | .res => 1#8 | .drift => 2#8 | .heat => 3#8,
        match e.mode with | .absolute => 0#8 | .relative => 1#8] ++
      bigEndian 2 (BitVec.ofInt 16 e.windowLow).toNat ++ bigEndian 2 (BitVec.ofInt 16 e.windowHigh).toNat ++
      [if e.qualifier = none then 0#8 else 1#8] →
    after = [BitVec.ofNat 8 e.grade.rank, BitVec.ofNat 8 (e.confirm.getD 0)] →
    loaded = before ++ temperatures ++ after →
    chars = before ++ (if e.qualifier = none then [0#8, 0#8, 0#8, 0#8] else temperatures) ++ after →
    entryWriteOf .rule (BitVec.ofNat 8 i.val :: loaded) = some (.rule i e) ∧ gradingRuleChars e = known chars) ∧
  (∀ (i : Fin 8) (e : PairingClass) (chars : List Byte), e.InRange →
    chars = BitVec.ofNat 8 e.minimum.rank :: bigEndian 2 e.capTolerance ++ bigEndian 2 e.resTolerance ++
      [BitVec.ofNat 8 e.capWeight, BitVec.ofNat 8 e.resWeight, BitVec.ofNat 8 e.referenceMinimum, e.flags,
        BitVec.ofNat 8 e.fillPriority, BitVec.ofNat 8 e.replacePriority, BitVec.ofNat 8 e.watchConfirm] →
    entryWriteOf .pcls (BitVec.ofNat 8 i.val :: chars) = some (.pcls i e) ∧ pairingClassChars e = known chars) ∧
  (∀ (i : Fin 32) (e : Station) (chars : List Byte), e.InRange →
    chars = [if e.valid then 1#8 else 0#8, e.address,
      match e.role with | .testBay => 0#8 | .bank => 1#8 | .ignore => 2#8, BitVec.ofNat 8 e.string.val,
      BitVec.ofNat 8 e.basePosition.val, BitVec.ofNat 8 e.channelCount] →
    entryWriteOf .stat (BitVec.ofNat 8 i.val :: chars) = some (.stat i e) ∧ stationChars e = known chars) ∧
  (∀ (e : BankSettings) (chars : List Byte), e.InRange →
    chars = [BitVec.ofNat 8 e.stringsInUse, BitVec.ofNat 8 e.positions] ++
      ((List.finRange 8).map fun k => BitVec.ofNat 8 (e.classes.get k).val) ++
      [match e.restUnit with | .s1 => 0#8 | .s10 => 1#8 | .s60 => 2#8,
        match e.policy with | .arrival => 0#8 | .priority => 1#8] ++
      bigEndian 2 e.orderDeadline ++ [e.controller.getD 255#8] →
    entryWriteOf .bank (0#8 :: chars) = some (.bank e) ∧ bankSettingsChars e = known chars) ∧
  ∀ (loaded : List Byte) (w : EntryWrite),
    (entryWriteOf .orig loaded = some w → ∃ i e chars, w = .orig i e ∧ e.InRange ∧
      originClassChars e = known chars ∧ loaded = BitVec.ofNat 8 i.val :: chars) ∧
    (entryWriteOf .rule loaded = some w → ∃ i e before temperatures after, w = .rule i e ∧ e.InRange ∧
      before.length = 11 ∧ temperatures.length = 4 ∧
      loaded = BitVec.ofNat 8 i.val :: (before ++ temperatures ++ after) ∧
      gradingRuleChars e = known
        (before ++ (if e.qualifier = none then [0#8, 0#8, 0#8, 0#8] else temperatures) ++ after)) ∧
    (entryWriteOf .pcls loaded = some w → ∃ i e chars, w = .pcls i e ∧ e.InRange ∧
      pairingClassChars e = known chars ∧ loaded = BitVec.ofNat 8 i.val :: chars) ∧
    (entryWriteOf .stat loaded = some w → ∃ i e chars, w = .stat i e ∧ e.InRange ∧
      stationChars e = known chars ∧ loaded = BitVec.ofNat 8 i.val :: chars) ∧
    (entryWriteOf .bank loaded = some w → ∃ e chars, w = .bank e ∧ e.InRange ∧
      bankSettingsChars e = known chars ∧ loaded = 0#8 :: chars)

/-- R191 to R194, R86: a COMMIT of no table or of a flag beyond the five is answered OUT-OF-RANGE, one while another
is pending STATE; else it is ACCEPTED and pending, and settled in the same execution when no evaluation and no
choice is in progress. At the safe point it is validated and refused with its notice, the active tables unchanged,
or taken: the masked tables become active, the stations' live fields are carried (StationCommitCarriesLiveFields), the
geometry and the classes are applied, runs cleared, priorities read again, WAITING requests woken and COMMIT-TAKEN
raised. The model's reading (log 13): a slot that is out of use keeps its stored state until it comes into use. -/
def Obligations.CommitSettles : Prop :=
  (∀ (s : State) (f : Frame) (rest : List Frame) (token m : Byte), CommandReady s f rest 2#8 token [m] →
    (m.toNat = 0 ∨ 31 < m.toNat → exec .commit s = .next ((s.taken rest).offered f [2#8, token, 5#8])) ∧
    (1 ≤ m.toNat → m.toNat ≤ 31 →
      (s.mu.pendingCommit ≠ none → exec .commit s = .next ((s.taken rest).offered f [2#8, token, 6#8])) ∧
      (s.mu.pendingCommit = none → s.ge.evaluation ≠ none ∨ s.pe.choice ≠ none →
        exec .commit s = .next ({ s.taken rest with
          mu := { (s.taken rest).mu with pendingCommit := some (m.setWidth 5) } }.offered f
            [2#8, token, 1#8, m])) ∧
      (s.mu.pendingCommit = none → s.ge.evaluation = none → s.pe.choice = none →
        exec .commit s = .next (((s.taken rest).settleCommit (m.setWidth 5)).selectIfDue.offered f
          [2#8, token, 1#8, m])))) ∧
  (∀ (s : State) (mask : BitVec 5), s.mu.pendingCommit = some mask →
    (s.ge.evaluation ≠ none ∨ s.pe.choice ≠ none → exec .commitSafePoint s = .next s) ∧
    (s.ge.evaluation = none → s.pe.choice = none →
      exec .commitSafePoint s = .next (s.settleCommit mask).selectIfDue)) ∧
  ∀ (s : State) (mask : BitVec 5),
    (∀ x, s.validate mask = some x → s.settleCommit mask =
      { s with mu := { s.mu with
          pendingCommit := none, notices := raiseIn (.commitRefused x) s.mu.notices } }) ∧
    (∀ (new : Tables) (u c : State), s.validate mask = none →
      new = { orig := if mask.getLsbD 0 then s.mu.shadow.orig else s.mu.active.orig
              rule := if mask.getLsbD 1 then s.mu.shadow.rule else s.mu.active.rule
              pcls := if mask.getLsbD 2 then s.mu.shadow.pcls else s.mu.active.pcls
              stat := if mask.getLsbD 3 then s.mu.shadow.stat else s.mu.active.stat
              bank := if mask.getLsbD 4 then s.mu.shadow.bank else s.mu.active.bank } →
      u = { s with mu := { s.mu with pendingCommit := none, active := new } } →
      c = (if mask.getLsbD 3 then u.carryStations s.mu.active.stat new.stat else u) →
      ∃ (records : Vector ModuleRecord 192) (strings : StringMap) (requests : List Request),
        s.settleCommit mask = { c with
          mr := { c.mr with records := records }, sm := strings, pe := { c.pe with requests := requests }
          mu := { u.mu with notices := raiseIn (.commitTaken mask) s.mu.notices } } ∧
        (∀ i, records.get i = if mask.getLsbD 1 then
          { c.record i with evidence := (c.record i).evidence.mapAll fun x =>
              { x with candidate := none, runCount := 0 } } else c.record i) ∧
        (∀ k, strings.strings.get k = if mask.getLsbD 4 then
          { s.string k with pairingClass := new.bank.classes.get k } else s.string k) ∧
        (∀ p : SlotId, (strings.slots.get p.string).get p.position =
          if inUse new.bank p = true ∧ inUse s.mu.active.bank p = false then .unknown else s.slot p) ∧
        requests = ((c.pe.requests.filter fun q => !mask.getLsbD 4 || inUse new.bank q.slot).map fun q =>
          { q with
            priority := if mask.getLsbD 2 || mask.getLsbD 4 then
              match q.kind with
              | .fill => (new.pcls.get (strings.strings.get q.slot.string).pairingClass).fillPriority
              | .replace => (new.pcls.get (strings.strings.get q.slot.string).pairingClass).replacePriority
              | .remove => 3 else q.priority
            status := if (mask.getLsbD 0 || mask.getLsbD 2 || mask.getLsbD 4) = true ∧ q.status = .waiting
              then .ready else q.status }))

/-- R19, R67, R108, R193: the validation of a commit, in the order of its checks: the first slot that would go out
of use while OCCUPIED or RESERVED; the first valid station entry with a duplicate address, a slot out of range or a
slot covered twice; the first valid rule that is RELATIVE on DRIFT or HEAT, or has a window or a qualifier out of
order. A commit that meets none passes. -/
def Obligations.CommitValidation : Prop :=
  ∀ (s : State) (mask : BitVec 5) (old new : BankSettings) (stations : Vector Station 32)
    (rules : Vector GradingRule 96) (dropped : SlotId → Prop) (covers : Fin 32 → Fin 8 → Nat → Prop)
    (duplicate range overlap : Fin 32 → Prop) (metric window temperature : Fin 96 → Prop),
    old = s.mu.active.bank → new = (if mask.getLsbD 4 then s.mu.shadow.bank else old) →
    stations = (if mask.getLsbD 3 then s.mu.shadow.stat else s.mu.active.stat) →
    rules = (if mask.getLsbD 1 then s.mu.shadow.rule else s.mu.active.rule) →
    (∀ p, dropped p ↔ p.string.val < old.stringsInUse ∧ p.position.val < old.positions ∧
      ¬ (p.string.val < new.stringsInUse ∧ p.position.val < new.positions) ∧
      ((∃ m, s.slot p = .occupied m) ∨ ∃ o m, s.slot p = .reserved o m)) →
    (∀ i k n, covers i k n ↔ (stations.get i).valid = true ∧ (stations.get i).role = .bank ∧
      (stations.get i).string = k ∧ (stations.get i).basePosition.val ≤ n ∧
      n < (stations.get i).basePosition.val + (stations.get i).channelCount) →
    (∀ i, duplicate i ↔ (stations.get i).valid = true ∧ ∃ j, j.val < i.val ∧ (stations.get j).valid = true ∧
      (stations.get j).address = (stations.get i).address) →
    (∀ i, range i ↔ (stations.get i).valid = true ∧ (stations.get i).role = .bank ∧
      (new.stringsInUse ≤ (stations.get i).string.val ∨
        new.positions < (stations.get i).basePosition.val + (stations.get i).channelCount)) →
    (∀ i, overlap i ↔ ∃ k n j, j.val < i.val ∧ covers i k n ∧ covers j k n) →
    (∀ i, metric i ↔ (rules.get i).valid = true ∧ (rules.get i).mode = .relative ∧
      ((rules.get i).metric = .drift ∨ (rules.get i).metric = .heat)) →
    (∀ i, window i ↔ (rules.get i).valid = true ∧ (rules.get i).windowHigh < (rules.get i).windowLow) →
    (∀ i, temperature i ↔ (rules.get i).valid = true ∧ ∃ q, (rules.get i).qualifier = some q ∧ q.high < q.low) →
    (∀ p, mask.getLsbD 4 = true → dropped p →
      (∀ q : SlotId, q.string.val < p.string.val ∨ q.string = p.string ∧ q.position.val < p.position.val →
        ¬ dropped q) → s.validate mask = some (.geometryReduction p)) ∧
    ((mask.getLsbD 4 = true → ∀ p, ¬ dropped p) →
      (∀ i, mask.getLsbD 3 = true ∨ mask.getLsbD 4 = true →
        (∀ j, j.val < i.val → ¬ duplicate j ∧ ¬ range j ∧ ¬ overlap j) →
        (duplicate i → s.validate mask = some (.duplicateAddress i)) ∧
        (¬ duplicate i → range i → s.validate mask = some (.slotRange i)) ∧
        (¬ duplicate i → ¬ range i → overlap i → s.validate mask = some (.slotOverlap i))) ∧
      ((mask.getLsbD 3 = true ∨ mask.getLsbD 4 = true → ∀ j, ¬ duplicate j ∧ ¬ range j ∧ ¬ overlap j) →
        (∀ i, mask.getLsbD 1 = true → (∀ j, j.val < i.val → ¬ metric j ∧ ¬ window j ∧ ¬ temperature j) →
          (metric i → s.validate mask = some (.relativeMetric i)) ∧
          (¬ metric i → window i → s.validate mask = some (.windowOrder i)) ∧
          (¬ metric i → ¬ window i → temperature i → s.validate mask = some (.temperatureOrder i))) ∧
        ((mask.getLsbD 1 = true → ∀ j, ¬ metric j ∧ ¬ window j ∧ ¬ temperature j) →
          s.validate mask = none)))

/-- R31, R32, R53: at a taken Station Table commit live fields go by address: a new address and an invalid entry start
cleared; an unchanged entry keeps all; a changed one keeps its lost count, forgets its last sequence, and keeps the
occupants of its channels only between TEST-BAY roles; a queued record follows an unchanged station and becomes VOID
otherwise. A kept occupant whose entry moved has its location rewritten; an occupant that is not kept is departed, by
ascending old entry and then channel, as DEPART departs a module (DepartureEndsTheStay). -/
def Obligations.StationCommitCarriesLiveFields : Prop :=
  ∀ (s t : State) (old new : Vector Station 32) (same : Station → Station → Prop)
    (stays : Fin 32 → Fin 4 → Fin 32 → Prop), t = s.carryStations old new →
    (∀ j k, (old.get j).valid = true → (old.get k).valid = true → (old.get j).address = (old.get k).address →
      j = k) →
    (∀ j k, (new.get j).valid = true → (new.get k).valid = true → (new.get j).address = (new.get k).address →
      j = k) →
    (∀ x y, same x y ↔ x.role = y.role ∧ x.string = y.string ∧ x.basePosition = y.basePosition ∧
      x.channelCount = y.channelCount) →
    (∀ j c i, stays j c i ↔ (old.get j).valid = true ∧ (new.get i).valid = true ∧
      (old.get j).address = (new.get i).address ∧
      (same (old.get j) (new.get i) ∨
        (old.get j).role = .testBay ∧ (new.get i).role = .testBay ∧ c.val < (new.get i).channelCount)) →
    (∀ i, ((new.get i).valid = false ∨
        ∀ j, (old.get j).valid = true → (old.get j).address ≠ (new.get i).address) →
      t.live i = { lastSequence := none, lostCount := 0, bays := Vector.replicate 4 none }) ∧
    (∀ i j, (new.get i).valid = true → (old.get j).valid = true →
      (old.get j).address = (new.get i).address →
      (same (old.get j) (new.get i) → t.live i = s.live j) ∧
      (¬ same (old.get j) (new.get i) →
        (t.live i).lastSequence = none ∧ (t.live i).lostCount = (s.live j).lostCount ∧
        ∀ c : Fin 4, (stays j c i → (t.live i).bays.get c = (s.live j).bays.get c) ∧
          (¬ stays j c i → (t.live i).bays.get c = none))) ∧
    (∃ station : Option (Fin 32) → Option (Fin 32),
      t.iu.intakeQueue = s.iu.intakeQueue.map (fun r => { r with station := station r.station }) ∧
      station none = none ∧
      ∀ j, (old.get j).valid = true →
        (∀ i, (new.get i).valid = true → (new.get i).address = (old.get j).address →
          same (old.get j) (new.get i) → station (some j) = some i) ∧
        ((∀ i, (new.get i).valid = true → (new.get i).address = (old.get j).address →
          ¬ same (old.get j) (new.get i)) → station (some j) = none)) ∧
    ∀ kept : Fin 32 → Fin 4 → Bool, (∀ j c, kept j c = true ↔ ∃ i, stays j c i) →
      (∀ b d m n, s.occupant b = some m → s.occupant d = some n → m.index = n.index → b = d) →
      ∃ records : Vector ModuleRecord 192,
        t = ((List.finRange 32).flatMap fun j => (List.finRange 4).filterMap fun c =>
            if kept j c then none else (s.live j).bays.get c).foldl State.departModule
          { s with iu := t.iu, mr := { s.mr with records := records } } ∧
        (∀ j c i m, stays j c i → i ≠ j → (s.live j).bays.get c = some m →
          s.standsIn m [.settling, .testing, .graded] →
          records.get m.index = { s.record m.index with location := .bay { entry := i, channel := c } }) ∧
        ∀ k, (∀ j c i m, stays j c i → i ≠ j → (s.live j).bays.get c = some m → m.index = k →
          ¬ s.standsIn m [.settling, .testing, .graded]) → records.get k = s.record k

/-! ## Commands that read -/

/-- R54, R125, R196, R199, R200: the reading commands answer OK with their data and change nothing but what a YES
clears of READ-COUNTERS, or answer OUT-OF-RANGE or NOT-FOUND. R196, R209: an entry of READ-TABLE is its index, then
the entry's characters from the copy asked, then the live fields for an entry of the active Station Table alone. The
characters of a REPLY that the manual does not state are the model's free values (log 8), for every value of their
count. -/
def Obligations.QueriesAnswer : Prop :=
  ([Table.orig, .rule, .pcls, .stat, .bank].map Table.code = [0, 1, 2, 3, 4] ∧
    [Table.orig, .rule, .pcls, .stat, .bank].map Table.size = [16, 96, 8, 32, 1] ∧
    [Table.orig, .rule, .pcls, .stat, .bank].map Table.entrySize = [6, 18, 13, 7, 16]) ∧
  (∀ (s : State) (active : Bool) (copy : Tables), copy = (if active then s.mu.active else s.mu.shadow) →
    (∀ i : Fin 16, s.tableEntry .orig active i.val =
      known [BitVec.ofNat 8 i.val] ++ originClassChars (copy.orig.get i)) ∧
    (∀ i : Fin 96, s.tableEntry .rule active i.val =
      known [BitVec.ofNat 8 i.val] ++ gradingRuleChars (copy.rule.get i)) ∧
    (∀ i : Fin 8, s.tableEntry .pcls active i.val =
      known [BitVec.ofNat 8 i.val] ++ pairingClassChars (copy.pcls.get i)) ∧
    (∀ i : Fin 32, s.tableEntry .stat active i.val =
      known [BitVec.ofNat 8 i.val] ++ stationChars (copy.stat.get i) ++ if active then liveChars (s.live i) else []) ∧
    s.tableEntry .bank active 0 = known [0#8] ++ bankSettingsChars copy.bank) ∧
  ∀ (s u : State) (f : Frame) (rest : List Frame) (token op : Byte) (params : List Byte)
    (reply : List BodyChar → Host.Outcome State Fault Refusal) (bad : Byte → Host.Outcome State Fault Refusal),
    CommandReady s f rest op token params → u = s.taken rest →
    (∀ d, reply d = .next ({ u with freeCount := s.freeCount + openCount d }.offered f
      (op :: token :: 0#8 :: fillIn s.freeCount d))) →
    (∀ st, bad st = .next (u.offered f [op, token, st])) →
    (∀ t c first count : Byte, op = 3#8 → params = [t, c, first, count] →
      (4 < t.toNat ∨ 1 < c.toNat → exec .readTable s = bad 5#8) ∧
      ∀ table n, c.toNat ≤ 1 → t.toNat = table.code →
        (table.size ≤ first.toNat → exec .readTable s = bad 5#8) ∧
        (first.toNat < table.size →
          n = min (min count.toNat (table.size - first.toNat))
            (233 / (if table = .stat ∧ c = 0#8 then 18 else table.entrySize)) →
          exec .readTable s = reply (known [t, c, first, BitVec.ofNat 8 n] ++
            (List.range n).flatMap fun k => s.tableEntry table (decide (c = 0#8)) (first.toNat + k)))) ∧
    (op = 4#8 →
      (∀ i : ModuleIndex, params = [0#8, BitVec.ofNat 8 i.val] → exec .queryModule s =
        reply (moduleRecordChars i (s.record i) (decide (i ∈ s.pe.poolWait)))) ∧
      (∀ i : Byte, params = [0#8, i] → 192 ≤ i.toNat → exec .queryModule s = bad 5#8) ∧
      ∀ (tag : List Byte), tag.length = 6 → params = 1#8 :: tag →
        (tagOf tag = 0 ∨ tagOf tag = 0xFFFFFFFFFFFF#48 → exec .queryModule s = bad 5#8) ∧
        (tagOf tag ≠ 0 → tagOf tag ≠ 0xFFFFFFFFFFFF#48 →
          (∀ i, HoldsTag s (tagOf tag) i → exec .queryModule s =
            reply (moduleRecordChars i (s.record i) (decide (i ∈ s.pe.poolWait)))) ∧
          ((∀ i, (s.record i).state ≠ .free → (s.record i).tag ≠ tagOf tag) →
            exec .queryModule s = bad 8#8))) ∧
    (∀ st first count : Byte, op = 5#8 → params = [st, first, count] →
      (s.mu.active.bank.stringsInUse ≤ st.toNat ∨ 7 < st.toNat ∨ s.mu.active.bank.positions ≤ first.toNat →
        exec .querySlot s = bad 5#8) ∧
      ∀ k : Fin 8, st.toNat = k.val → k.val < s.mu.active.bank.stringsInUse →
        first.toNat < s.mu.active.bank.positions →
        exec .querySlot s = reply (stringRecordChars (s.string k) ++
          one (min count.toNat (s.mu.active.bank.positions - first.toNat)) ++
          (List.range (min count.toNat (s.mu.active.bank.positions - first.toNat))).flatMap fun j =>
            s.slotEntry k (first.toNat + j))) ∧
    (∀ c : Byte, op = 13#8 → params = [c] →
      (1 < c.toNat → exec .readCounters s = bad 5#8) ∧
      (c = 0#8 → exec .readCounters s = reply (countersChars s.rp.counters)) ∧
      (c = 1#8 → exec .readCounters s = .next ({ u with
        rp := { u.rp with counters :=
          { rxDamaged := 0, transitOverrun := 0, intakeOverrun := 0, cmdOverrun := 0, samplesIgnored := 0
            syncLosses := 0 } } }.offered f
        (13#8 :: token :: 0#8 :: (charsOf 2 s.rp.counters.rxDamaged ++ charsOf 2 s.rp.counters.transitOverrun ++
          charsOf 2 s.rp.counters.intakeOverrun ++ charsOf 2 s.rp.counters.cmdOverrun ++
          charsOf 2 s.rp.counters.samplesIgnored ++ charsOf 2 s.rp.counters.syncLosses))))) ∧
    (op = 14#8 → params = [] → exec .readStatus s = reply s.statusChars ∧ s.statusChars.length = 23) ∧
    ∀ i r w, (moduleRecordChars i r w).length = 59

/-- R204, R207, R208, R196, R125, R200: the characters of what the part reports, field by field. A REPLY shows a module
record, a string record, the entry of a slot in use, the live fields of an active station, and the status; VERDICT,
ORDER and NOTICE carry their bodies. The model's readings: characters the manual does not state are free (log 8, `none`
here), and an absent verdict sequence is 00 FF (log 11). -/
def Obligations.BodiesAreLaidOut : Prop :=
  ([ModuleState.free, .settling, .testing, .graded, .pooled, .assigned, .inService, .watch, .outbound, .held].map
      ModuleState.code = List.range 10 ∧
    [none, some Grade.a, some .b, some .c, some .d, some .reject].map gradeCode = [255, 0, 1, 2, 3, 4] ∧
    [Metric.cap, .res, .drift, .heat].map Metric.code = List.range 4) ∧
  (∀ (i : ModuleIndex) (r : ModuleRecord) (w : Bool) (place : List BodyChar) (verdict : List Byte)
    (set : Evidence → List BodyChar),
    (r.location = .absent → place = [some 0#8, none, none]) →
    (∀ b, r.location = .bay b → place = known [1#8, BitVec.ofNat 8 b.entry.val, BitVec.ofNat 8 b.channel.val]) →
    (∀ p, r.location = .slot p →
      place = known [2#8, BitVec.ofNat 8 p.string.val, BitVec.ofNat 8 p.position.val]) →
    (r.verdict = none → verdict = [0#8, 0#8, 255#8]) →
    (∀ v, r.verdict = some v →
      verdict = (match v.kind with | .graded => 1#8 | .abandoned => 2#8) :: bigEndian 2 v.sequence.toNat) →
    (∀ x, set x = known [BitVec.ofNat 8 (gradeCode x.grade),
        (x.candidate.map fun k => BitVec.ofNat 8 k.val).getD 255#8, BitVec.ofNat 8 x.runCount,
        BitVec.ofNat 8 x.confirmations, BitVec.ofNat 8 x.unmatched] ++
      match x.lastValue with
      | some v => known (1#8 :: bigEndian 2 v)
      | none => [some 0#8, none, none]) →
    moduleRecordChars i r w =
      known ([BitVec.ofNat 8 i.val, r.generation, BitVec.ofNat 8 r.state.code] ++ bigEndian 6 r.tag.toNat ++
        [BitVec.ofNat 8 r.originClass.val] ++ bigEndian 4 r.arrival) ++ place ++
      known ([BitVec.ofNat 8 r.gapCount, BitVec.ofNat 8 (gradeCode r.resolved),
        if r.provisional then 1#8 else 0#8, BitVec.ofNat 8 r.watchCount] ++ verdict ++
        [if r.departed then 1#8 else 0#8, (r.order.map fun o => BitVec.ofNat 8 o.val).getD 255#8,
          if w then 1#8 else 0#8]) ++
      set r.evidence.cap ++ set r.evidence.res ++ set r.evidence.drift ++ set r.evidence.heat) ∧
  (∀ (r : StringRecord) (reference : Reference → List BodyChar),
    (∀ x, reference x = (match x.value with | some v => known (bigEndian 2 v) | none => [none, none]) ++
      known [BitVec.ofNat 8 x.count]) →
    stringRecordChars r = known [BitVec.ofNat 8 r.pairingClass.val] ++ reference r.cap ++ reference r.res) ∧
  (∀ (s : State) (p : SlotId) (state : Byte) (module number request : List BodyChar)
    (shown : ModuleRef → List BodyChar),
    (∀ m, shown m = known ([BitVec.ofNat 8 m.index.val, m.generation] ++ bigEndian 6 (s.record m.index).tag.toNat)) →
    (s.slot p = .unknown → state = 0#8) → (s.slot p = .empty → state = 1#8) → (s.slot p = .blocked → state = 4#8) →
    (s.slot p = .unknown ∨ s.slot p = .empty ∨ s.slot p = .blocked ∨ (∃ o, s.slot p = .reserved o none) →
      module = known [255#8, 255#8, 0#8, 0#8, 0#8, 0#8, 0#8, 0#8]) →
    (∀ m, s.slot p = .occupied m → state = 2#8 ∧ module = shown m) →
    (∀ o x, s.slot p = .reserved o x → state = 3#8 ∧ (∀ m, x = some m → module = shown m) ∧
      ∀ d, s.order o = .order d → number = known [d.number]) →
    ((∀ o d, (∃ x, s.slot p = .reserved o x) → s.order o ≠ .order d) → number = [none]) →
    (s.request p = none → request = [some 0#8, none]) →
    (∀ q, s.request p = some q → request =
      known [match q.kind with | .fill => 1#8 | .replace => 2#8 | .remove => 3#8,
        match q.status with | .ready => 0#8 | .waiting => 1#8 | .selected => 2#8]) →
    s.slotEntry p.string p.position.val =
      known [BitVec.ofNat 8 p.position.val, state] ++ module ++ number ++ request) ∧
  (∀ l : StationLive, liveChars l =
    known ((match l.lastSequence with | some q => [1#8, q] | none => [0#8, 255#8]) ++ [BitVec.ofNat 8 l.lostCount]) ++
      (List.finRange 4).flatMap fun c => match l.bays.get c with
        | some m => known [BitVec.ofNat 8 m.index.val, m.generation]
        | none => [some 255#8, none]) ∧
  (∀ (s : State) (kinds : Byte) (records : ModuleState → Nat) (requests : RequestStatus → Nat)
    (issued : OrderIndex → Bool),
    (∀ k < 8, kinds.getLsbD k = true ↔ ∃ n ∈ s.mu.notices, n.argument.kindCode = k + 1) →
    (∀ st, records st = ((List.finRange 192).filter fun i => decide ((s.record i).state = st)).length) →
    (∀ st, requests st = (s.pe.requests.filter fun q => decide (q.status = st)).length) →
    (∀ i, issued i = true ↔ ∃ o t, s.order i = .order o ∧ o.stage = .issued t) →
    s.statusChars = known (
      [match s.mu.mode with | .halted => 0#8 | .run => 1#8, ((s.mu.pendingCommit.map (BitVec.setWidth 8)).getD 0#8),
        match s.rp.link with | .hunt => 0#8 | .confirm => 1#8 | .locked => 2#8, s.mu.ownAddress,
        s.mu.active.bank.controller.getD 255#8] ++
      ([ModuleState.free, .settling, .testing, .graded, .pooled, .assigned, .inService, .watch, .outbound, .held].map
        fun st => BitVec.ofNat 8 (records st)) ++
      [BitVec.ofNat 8 s.pe.poolWait.length, BitVec.ofNat 8 s.pe.pool.length, BitVec.ofNat 8 (requests .ready),
        BitVec.ofNat 8 (requests .waiting), BitVec.ofNat 8 (requests .selected),
        BitVec.ofNat 8 ((List.finRange 8).filter fun i => decide (s.order i ≠ .free)).length,
        BitVec.ofNat 8 ((List.finRange 8).filter issued).length, kinds])) ∧
  (∀ (v : Verdict) (r : ModuleRecord), verdictBody v r =
    bigEndian 2 v.sequence.toNat ++ [match v.kind with | .graded => 1#8 | .abandoned => 2#8] ++
      bigEndian 6 r.tag.toNat ++
      [BitVec.ofNat 8 r.originClass.val, BitVec.ofNat 8 (gradeCode r.resolved),
        if r.provisional then 1#8 else 0#8] ++
      ([Metric.cap, .res, .drift, .heat].map fun m => BitVec.ofNat 8 (gradeCode (r.evidence.get m).grade)) ++
      ([Metric.cap, .res, .drift, .heat].map fun m => BitVec.ofNat 8 (r.evidence.get m).confirmations) ++
      [BitVec.ofNat 8 r.gapCount]) ∧
  (∀ (o : Order) (incoming outgoing : Option Tag), orderBody o incoming outgoing =
    [o.number, match o.work with | .insert _ => 1#8 | .swap _ _ => 2#8 | .remove _ => 3#8,
      BitVec.ofNat 8 o.slot.string.val, BitVec.ofNat 8 o.slot.position.val] ++
      bigEndian 6 (incoming.getD 0).toNat ++ bigEndian 6 (outgoing.getD 0).toNat) ∧
  ∀ (a : NoticeArgument) (chars : List Byte) (place : Nat → Nat → Byte → List Byte) (slot : SlotId → List Byte),
    (∀ table failure b, place table failure b = [BitVec.ofNat 8 table, BitVec.ofNat 8 failure, b]) →
    (∀ p, slot p = [BitVec.ofNat 8 p.string.val, BitVec.ofNat 8 p.position.val]) →
    chars = (match a with
      | .registerFull tag => bigEndian 6 tag.toNat
      | .tagConflict tag found => bigEndian 6 tag.toNat ++ [BitVec.ofNat 8 found.code]
      | .ruleHole i m => [BitVec.ofNat 8 i.val, BitVec.ofNat 8 m.code]
      | .orderExpired n => [n]
      | .linkRelock n => bigEndian 2 n
      | .commitTaken mask => [mask.setWidth 8]
      | .commitRefused (.duplicateAddress e) => place 3 1 (BitVec.ofNat 8 e.val)
      | .commitRefused (.slotRange e) => place 3 2 (BitVec.ofNat 8 e.val)
      | .commitRefused (.slotOverlap e) => place 3 3 (BitVec.ofNat 8 e.val)
      | .commitRefused (.relativeMetric k) => place 1 4 (BitVec.ofNat 8 k.val)
      | .commitRefused (.windowOrder k) => place 1 5 (BitVec.ofNat 8 k.val)
      | .commitRefused (.temperatureOrder k) => place 1 6 (BitVec.ofNat 8 k.val)
      | .commitRefused (.geometryReduction p) => [4#8, 7#8] ++ slot p
      | .stringWaiting p => slot p) →
    argumentChars a = chars ∧ padded chars = chars ++ List.replicate (8 - chars.length) 0#8 ∧
      a.kindCode = match a with
        | .registerFull _ => 1
        | .tagConflict _ _ => 2
        | .ruleHole _ _ => 3
        | .orderExpired _ => 4
        | .linkRelock _ => 5
        | .commitTaken _ => 6
        | .commitRefused _ => 7
        | .stringWaiting _ => 8

/-! ## INVENTORY, requests and the engine's mode -/

/-- R119, R120, R123, R116, R136: the slot forms. A slot not in use is answered OUT-OF-RANGE. SLOT-EMPTY makes an
UNKNOWN or OCCUPIED slot EMPTY with a READY FILL request, freeing the occupant and recomputing the references;
SLOT-BLOCK blocks an EMPTY or UNKNOWN slot and withdraws its request; SLOT-UNBLOCK makes a BLOCKED slot EMPTY with
a READY FILL request. Any other state is answered STATE, with nothing changed. -/
def Obligations.SlotForms : Prop :=
  ∀ (s u : State) (f : Frame) (rest : List Frame) (token form st po : Byte)
    (reply : State → List Byte → Host.Outcome State Fault Refusal),
    CommandReady s f rest 6#8 token [form, st, po] → u = s.taken rest →
    (∀ v d, reply v d = .next (v.offered f (6#8 :: token :: d))) →
    ((∀ p, ¬ NamesSlot s st po p) →
      (form = 0#8 → exec .slotEmpty s = reply u [5#8]) ∧ (form = 2#8 → exec .slotBlock s = reply u [5#8]) ∧
      (form = 3#8 → exec .slotUnblock s = reply u [5#8])) ∧
    ∀ p, NamesSlot s st po p →
      (form = 0#8 →
        (s.slot p = .unknown → exec .slotEmpty s =
          reply ((u.setSlot p .empty).raiseRequest p .fill .ready).selectIfDue [0#8, 0#8]) ∧
        (s.slot p = .empty → exec .slotEmpty s =
          reply (u.raiseRequest p .fill .ready).selectIfDue [0#8, 0#8]) ∧
        (∀ m, s.slot p = .occupied m → s.standsIn m [.inService, .watch] → exec .slotEmpty s =
          reply (State.selectIfDue (State.recompute (State.raiseRequest ({ u.setSlot p .empty with
            mr := { s.mr with records := put s.mr.records m.index (ModuleRecord.cleared m.generation) }
            pe := { s.pe with requests := s.pe.requests.filter fun q => decide (q.slot ≠ p) } })
            p .fill .ready) p.string)) [0#8, 0#8]) ∧
        ((∃ o m, s.slot p = .reserved o m) ∨ s.slot p = .blocked → exec .slotEmpty s = reply u [6#8])) ∧
      (form = 2#8 →
        (s.slot p = .empty ∨ s.slot p = .unknown → exec .slotBlock s = reply { u.setSlot p .blocked with
          pe := { s.pe with requests := s.pe.requests.filter fun q => decide (q.slot ≠ p) } } [0#8, 2#8]) ∧
        ((∃ o m, s.slot p = .reserved o m) ∨ (∃ m, s.slot p = .occupied m) ∨ s.slot p = .blocked →
          exec .slotBlock s = reply u [6#8])) ∧
      (form = 3#8 →
        (s.slot p = .blocked → exec .slotUnblock s =
          reply ((u.setSlot p .empty).raiseRequest p .fill .ready).selectIfDue [0#8, 3#8]) ∧
        (s.slot p ≠ .blocked → exec .slotUnblock s = reply u [6#8]))

/-- R119, R121, R122: SLOT-HOLDS takes the HELD, POOLED or pool-waiting record of the tag into service in the slot,
or adopts the lowest FREE record for a new tag, the displaced occupant counting as free; it changes nothing for the
slot's own occupant, and answers STATE for a record in another state and FULL without a FREE record. The model's
reading (log 14): a tag no module may carry is OUT-OF-RANGE on any slot in use. -/
def Obligations.SlotHolds : Prop :=
  ∀ (s u v : State) (f : Frame) (rest : List Frame) (token st po : Byte) (tag : List Byte) (p : SlotId)
    (reply : State → List Byte → Host.Outcome State Fault Refusal) (finish : State → ModuleRef → State),
    CommandReady s f rest 6#8 token (1#8 :: st :: po :: tag) → tag.length = 6 → u = s.taken rest →
    (∀ v d, reply v d = .next (v.offered f (6#8 :: token :: d))) →
    (∀ v m, finish v m = State.selectIfDue (State.recompute (State.withdraw
      (v.setSlot p (.occupied m)) p) p.string)) →
    ((∀ q, ¬ NamesSlot s st po q) → exec .slotHolds s = reply u [5#8]) ∧
    (NamesSlot s st po p →
      (tagOf tag = 0 ∨ tagOf tag = 0xFFFFFFFFFFFF#48 → exec .slotHolds s = reply u [5#8]) ∧
      (tagOf tag ≠ 0 → tagOf tag ≠ 0xFFFFFFFFFFFF#48 →
        ((∃ o m, s.slot p = .reserved o m) ∨ s.slot p = .blocked → exec .slotHolds s = reply u [6#8]) ∧
        (((s.slot p = .unknown ∨ s.slot p = .empty) ∧ v = u) ∨
            (∃ m, s.slot p = .occupied m ∧ s.standsIn m [.inService, .watch] ∧
              v = u.setRecord m.index (ModuleRecord.cleared m.generation)) →
          (∀ i, HoldsTag s (tagOf tag) i →
            (s.slot p = .occupied { index := i, generation := (s.record i).generation } →
              exec .slotHolds s = reply u [0#8, 1#8]) ∧
            (s.slot p ≠ .occupied { index := i, generation := (s.record i).generation } →
              ∀ taken : State, taken = v.setRecord i { s.record i with
                state := .inService, location := .slot p, departed := false, order := none } →
              ((s.record i).state = .held → exec .slotHolds s = reply
                (finish taken { index := i, generation := (s.record i).generation }) [0#8, 1#8]) ∧
              ((s.record i).state = .pooled → exec .slotHolds s = reply
                (finish (taken.leavePool i) { index := i, generation := (s.record i).generation })
                [0#8, 1#8]) ∧
              ((s.record i).poolWaiting = true → exec .slotHolds s = reply
                (finish { taken with pe := { s.pe with poolWait := s.pe.poolWait.erase i } }
                  { index := i, generation := (s.record i).generation }) [0#8, 1#8]) ∧
              ((s.record i).state ≠ .held → (s.record i).state ≠ .pooled →
                (s.record i).poolWaiting = false → exec .slotHolds s = reply u [6#8]))) ∧
          ((∀ i, (s.record i).state ≠ .free → (s.record i).tag ≠ tagOf tag) →
            (∀ i, (v.record i).state = .free → (∀ j, j.val < i.val → (v.record j).state ≠ .free) →
              exec .slotHolds s = reply (finish (v.setRecord i
                { ModuleRecord.cleared ((v.record i).generation + 1) with
                  state := .inService, tag := tagOf tag, location := .slot p })
                { index := i, generation := (v.record i).generation + 1 }) [0#8, 1#8]) ∧
            ((∀ i, (v.record i).state ≠ .free) → exec .slotHolds s = reply u [10#8])))))

/-- R55, R56, R129 to R133: MODULE-TO-POOL enters a HELD record graded A to D in the pool, and is answered FULL
when it holds 64 and STATE for any other record; MODULE-GONE makes a HELD, POOLED or pool-waiting record FREE and
takes it off its list, and is answered STATE for any other. An invalid tag is answered OUT-OF-RANGE, an unknown one
NOT-FOUND. -/
def Obligations.ModuleForms : Prop :=
  ∀ (s u : State) (f : Frame) (rest : List Frame) (token form : Byte) (tag : List Byte) (c : Instr)
    (reply : State → List Byte → Host.Outcome State Fault Refusal),
    CommandReady s f rest 6#8 token (form :: tag) → tag.length = 6 → u = s.taken rest →
    (form = 4#8 ∧ c = .moduleToPool ∨ form = 5#8 ∧ c = .moduleGone) →
    (∀ v d, reply v d = .next (v.offered f (6#8 :: token :: d))) →
    (tagOf tag = 0 ∨ tagOf tag = 0xFFFFFFFFFFFF#48 → exec c s = reply u [5#8]) ∧
    (tagOf tag ≠ 0 → tagOf tag ≠ 0xFFFFFFFFFFFF#48 →
      ((∀ i, (s.record i).state ≠ .free → (s.record i).tag ≠ tagOf tag) → exec c s = reply u [8#8]) ∧
      ∀ i, HoldsTag s (tagOf tag) i →
        (form = 4#8 →
          ((s.record i).state = .held → (∃ g, (s.record i).resolved = some g ∧ g ≠ .reject) →
            exec c s = if s.pe.pool.length < 64 then reply (u.enterPool i).selectIfDue [0#8, 4#8]
              else reply u [10#8]) ∧
          ((s.record i).state ≠ .held ∨ (s.record i).resolved = none ∨
              (s.record i).resolved = some .reject → exec c s = reply u [6#8])) ∧
        (form = 5#8 → ∀ freed : State,
          freed = u.setRecord i (ModuleRecord.cleared (s.record i).generation) →
          ((s.record i).state = .held → exec c s = reply freed.selectIfDue [0#8, 5#8]) ∧
          ((s.record i).state = .pooled → exec c s = reply (freed.leavePool i).selectIfDue [0#8, 5#8]) ∧
          ((s.record i).poolWaiting = true → exec c s = reply (State.selectIfDue { freed with
            pe := { s.pe with poolWait := s.pe.poolWait.erase i } }) [0#8, 5#8]) ∧
          ((s.record i).state ≠ .held → (s.record i).state ≠ .pooled → (s.record i).poolWaiting = false →
            exec c s = reply u [6#8])))

/-- R140, R141, R142: REQUEST-SLOT FILL wakes a WAITING request of the slot or creates a READY FILL request for an
EMPTY slot without one, and is answered STATE otherwise; WAKE makes every WAITING request READY and answers how
many; RETIRE-SLOT makes an OCCUPIED slot's module WATCH and raises a READY REMOVE request, and is answered STATE on
any other slot. A slot not in use is answered OUT-OF-RANGE. -/
def Obligations.RequestCommands : Prop :=
  ∀ (s u : State) (f : Frame) (rest : List Frame) (token st po : Byte), u = s.taken rest →
    (CommandReady s f rest 8#8 token [0#8, st, po] →
      ((∀ p, ¬ NamesSlot s st po p) →
        exec .requestSlotFill s = .next (u.offered f [8#8, token, 5#8])) ∧
      ∀ p, NamesSlot s st po p →
        (∀ before q after, s.pe.requests = before ++ q :: after → q.slot = p →
          (∀ x ∈ before ++ after, x.slot ≠ p) →
          (q.status = .waiting → exec .requestSlotFill s = .next ((State.selectIfDue { u with
            pe := { s.pe with requests := before ++ { q with status := .ready } :: after } }).offered f
              [8#8, token, 0#8])) ∧
          (q.status ≠ .waiting → exec .requestSlotFill s = .next (u.offered f [8#8, token, 6#8]))) ∧
        ((∀ q ∈ s.pe.requests, q.slot ≠ p) →
          (s.slot p = .empty → exec .requestSlotFill s =
            .next ((u.raiseRequest p .fill .ready).selectIfDue.offered f [8#8, token, 0#8])) ∧
          (s.slot p ≠ .empty → exec .requestSlotFill s = .next (u.offered f [8#8, token, 6#8])))) ∧
    (CommandReady s f rest 8#8 token [1#8] →
      exec .requestSlotWake s = .next ((State.selectIfDue { u with
        pe := { s.pe with
          requests := s.pe.requests.map fun q =>
            if q.status = .waiting then { q with status := .ready } else q } }).offered f
        [8#8, token, 0#8,
          BitVec.ofNat 8 (s.pe.requests.filter fun q => decide (q.status = .waiting)).length])) ∧
    (CommandReady s f rest 9#8 token [st, po] →
      ((∀ p, ¬ NamesSlot s st po p) → exec .retireSlot s = .next (u.offered f [9#8, token, 5#8])) ∧
      ∀ p, NamesSlot s st po p →
        (∀ m, s.slot p = .occupied m → s.standsIn m [.inService, .watch] → exec .retireSlot s =
          .next (((u.setRecord m.index { s.record m.index with state := .watch }).raiseRequest p .remove
            .ready).selectIfDue.offered f [9#8, token, 0#8])) ∧
        ((∀ m, s.slot p ≠ .occupied m) → exec .retireSlot s = .next (u.offered f [9#8, token, 6#8])))

/-- R195, R34, R197, R198, R126, R185: HALT makes the mode HALTED and RESUME makes it RUN, forgetting every last
sequence and making a due selection when it was HALTED. CLEAR-ENGINE returns every block to its empty state, HALTED,
and keeps the tables, the counters, the order number counter, the link, both ring queues and the commands; a
pending commit is settled at its end. The model's reading (log 13): a slot out of use keeps its stored state. -/
def Obligations.ModeCommands : Prop :=
  ∀ (s u : State) (f : Frame) (rest : List Frame) (token : Byte), u = s.taken rest →
    (CommandReady s f rest 10#8 token [] → exec .halt s =
      .next ({ u with mu := { u.mu with mode := .halted } }.offered f [10#8, token, 0#8])) ∧
    (CommandReady s f rest 11#8 token [] →
      (s.mu.mode = .run → exec .resume s = .next (u.offered f [11#8, token, 0#8])) ∧
      (s.mu.mode = .halted → ∃ live : Vector StationLive 32,
        (∀ e, live.get e = { s.live e with lastSequence := none }) ∧
        exec .resume s = .next ((State.selectIfDue { u with
          iu := { u.iu with live := live }, mu := { u.mu with mode := .run } }).offered f
            [11#8, token, 0#8]))) ∧
    (CommandReady s f rest 12#8 token [] → ∃ (v : State) (slots : Vector (Vector SlotRecord 16) 8)
        (strings : Vector StringRecord 8),
      exec .clearEngine s = .next ((match s.mu.pendingCommit with
        | some mask => v.settleCommit mask
        | none => v).offered f [12#8, token, 0#8]) ∧
      v = { u with
        rp := { u.rp with verdictClaims := [] }
        iu := State.reset.iu, ge := State.reset.ge, mr := State.reset.mr
        sm := { strings := strings, slots := slots }
        pe := State.reset.pe
        ot := { State.reset.ot with numberCounter := s.ot.numberCounter }
        mu := { u.mu with mode := .halted, notices := [] } } ∧
      (∀ k, strings.get k =
        { pairingClass := (s.string k).pairingClass, cap := .absent, res := .absent }) ∧
      ∀ p : SlotId, (slots.get p.string).get p.position =
        if s.slotInUse p = true then .unknown else s.slot p)

/-- R186, R187, R188: the common checks in their order, each with nothing changed but the command taken: a body
without operation code and token is MALFORMED, a source the controller address excludes is NOT-PERMITTED, an
operation code that names no command is UNKNOWN-COMMAND, a parameter list not of the length the command and its form
ask for MALFORMED, and an unlisted selector or form OUT-OF-RANGE whatever its length. While a REPLY waits to be
admitted no command is taken. The model's readings: ORDER-DONE echoes its three parameters with NOT-PERMITTED too
(log 10); an INVENTORY or REQUEST-SLOT without a listed form is answered by the row of the first form (log 9). -/
def Obligations.CommonChecks : Prop :=
  ∀ (s u : State) (f : Frame) (rest : List Frame), s.mu.commandQueue = f :: rest → u = s.taken rest →
    (s.mu.reply ≠ none → (∀ x ∈ commandRows, exec x.2.2.2 s = .next s) ∧ exec .unknownCommand s = .next s) ∧
    (s.mu.reply = none →
      (f.body = [] → exec .unknownCommand s = .next (u.offered f [0#8, 0#8, 2#8])) ∧
      (∀ op, f.body = [op] → exec .unknownCommand s = .next (u.offered f [op, 0#8, 2#8])) ∧
      ((∃ a, s.mu.active.bank.controller = some a ∧ a ≠ f.source) →
        (∀ op token params, f.body = op :: token :: params → op = 0#8 ∨ 14 < op.toNat →
          exec .unknownCommand s = .next (u.offered f [op, token, 4#8])) ∧
        (∀ x ∈ commandRows, ∀ token params, f.body = x.1 :: token :: (x.2.1 ++ params) →
          exec x.2.2.2 s = .next (u.offered f (x.1 :: token :: 4#8 ::
            if x.1 = 7#8 ∧ params.length = 3 then params else []))) ∧
        ∀ op token c params, (op, c) ∈ [(4#8, Instr.queryModule), (6#8, .slotEmpty), (8#8, .requestSlotFill)] →
          f.body = op :: token :: params →
          params = [] ∨ (∃ b ps, params = b :: ps ∧ (if op = 6#8 then 5 else 1) < b.toNat) →
          exec c s = .next (u.offered f [op, token, 4#8])) ∧
      (s.mu.active.bank.controller = none ∨ s.mu.active.bank.controller = some f.source →
        (∀ op token params, f.body = op :: token :: params → op = 0#8 ∨ 14 < op.toNat →
          exec .unknownCommand s = .next (u.offered f [op, token, 3#8])) ∧
        (∀ x ∈ commandRows, ∀ token params n, f.body = x.1 :: token :: (x.2.1 ++ params) →
          x.2.2.1 = some n → params.length ≠ n → exec x.2.2.2 s = .next (u.offered f [x.1, token, 2#8])) ∧
        ∀ op token c params, (op, c) ∈ [(4#8, Instr.queryModule), (6#8, .slotEmpty), (8#8, .requestSlotFill)] →
          f.body = op :: token :: params →
          (params = [] → exec c s = .next (u.offered f [op, token, 2#8])) ∧
          ∀ b ps, params = b :: ps → (if op = 6#8 then 5 else 1) < b.toNat →
            exec c s = .next (u.offered f [op, token, 5#8])))

/-! ## Invariants -/

/-- After device reset, whatever the straps, the part satisfies every invariant stated below. -/
def Obligations.ResetSatisfiesInvariants : Prop :=
  ∀ (straps : BitVec 3) (s : State), s = State.afterReset straps →
    (Settled s ∧ NothingOverdue s) ∧ (WithinCapacities s ∧ LinkAgrees s) ∧
    (TablesAgree s ∧ RunsAgree s ∧ SearchAgrees s) ∧ RequestsFit s ∧ PoolAgrees s ∧ OrdersAgree s ∧ PlacesAgree s

/-- R143, R192, R61, R180: no step leaves a selection due and not made, nor a pending commit at its safe point
unsettled, nor lets the time base pass the end of a settle timer or of an order's deadline that still runs (the time
base and its instants are the model's, log 4). -/
def Obligations.EveryStepSettles : Prop :=
  (∀ s t : State, Settled s → step s = .next t → Settled t) ∧
  ∀ s t : State, NothingOverdue s → step s = .next t → NothingOverdue t

/-- R5, R12, R13, R15, R17, R20, R24, R27, R35, R36, R38, R182, R186, R201, R3, R4, R7: every step keeps the queues and
lists that have a capacity and the saturating counters (of the ring, the stations, the module records and the notices)
within what their rules allow, and the link's fields as its state says. -/
def Obligations.EveryStepKeepsCapacities : Prop :=
  (∀ s t : State, WithinCapacities s → step s = .next t → WithinCapacities t) ∧
  ∀ s t : State, LinkAgrees s → step s = .next t → LinkAgrees t

/-- R190, R194, R76, R70, R86: every step keeps both copies of the tables within their ranges, every run count below
the confirm count of its candidate rule, and the result an evaluation holds that of the search of the active rules. -/
def Obligations.EveryStepKeepsTablesAndRuns : Prop :=
  (∀ s t : State, TablesAgree s → step s = .next t → TablesAgree t) ∧
  (∀ s t : State, TablesAgree s → RunsAgree s → step s = .next t → RunsAgree t) ∧
  ∀ s t : State, SearchAgrees s → step s = .next t → SearchAgrees t

/-- R127, R128, R131, R39, R14, R42, R52, R154: every step keeps the Candidate Pool and the pool-wait list in agreement
with the module records and in the order of their keys, and the VERDICT claims those of the verdicts pending. -/
def Obligations.EveryStepKeepsPool : Prop :=
  ∀ s t : State, PoolAgrees s → step s = .next t → PoolAgrees t

/-- R134, R116, R168, R171, R172, R145: every step keeps each request on a slot that fits it, one request a slot, and
one order a string on the ring with the DEFERRED ones behind it. -/
def Obligations.EveryStepKeepsRequestsAndOrders : Prop :=
  (∀ s t : State, RequestsFit s → step s = .next t → RequestsFit t) ∧
  ∀ s t : State, OrdersAgree s → step s = .next t → OrdersAgree t

/-- R40, R21, R114, R168, R169, R170, R108, R19: every step keeps tags, bays, slots and orders naming modules that
stand where they say. -/
def Obligations.EveryStepKeepsPlaces : Prop :=
  ∀ s t : State, PoolAgrees s → RequestsFit s → OrdersAgree s → WithinCapacities s → PlacesAgree s →
    step s = .next t → PlacesAgree t
end

