-- ==== Sys2Proof/Laws/State.lean ====
section
/-! SUPPORT. What each plain update of State leaves in each block: one lemma per field and update, each true
by rfl, so that no proof unfolds a record update. -/

namespace Sys2Proof.Machine

/-! ### setRecord -/

@[simp] theorem State.setRecord_rp (s : State) (i : ModuleIndex) (r : ModuleRecord) :
    (s.setRecord i r).rp =
      s.rp := rfl
@[simp] theorem State.setRecord_iu (s : State) (i : ModuleIndex) (r : ModuleRecord) :
    (s.setRecord i r).iu =
      s.iu := rfl
@[simp] theorem State.setRecord_ge (s : State) (i : ModuleIndex) (r : ModuleRecord) :
    (s.setRecord i r).ge =
      s.ge := rfl
@[simp] theorem State.setRecord_mr (s : State) (i : ModuleIndex) (r : ModuleRecord) :
    (s.setRecord i r).mr =
      { s.mr with records := put s.mr.records i r } := rfl
@[simp] theorem State.setRecord_sm (s : State) (i : ModuleIndex) (r : ModuleRecord) :
    (s.setRecord i r).sm =
      s.sm := rfl
@[simp] theorem State.setRecord_pe (s : State) (i : ModuleIndex) (r : ModuleRecord) :
    (s.setRecord i r).pe =
      s.pe := rfl
@[simp] theorem State.setRecord_ot (s : State) (i : ModuleIndex) (r : ModuleRecord) :
    (s.setRecord i r).ot =
      s.ot := rfl
@[simp] theorem State.setRecord_mu (s : State) (i : ModuleIndex) (r : ModuleRecord) :
    (s.setRecord i r).mu =
      s.mu := rfl
@[simp] theorem State.setRecord_timeBase (s : State) (i : ModuleIndex) (r : ModuleRecord) :
    (s.setRecord i r).timeBase =
      s.timeBase := rfl
@[simp] theorem State.setRecord_freeCount (s : State) (i : ModuleIndex) (r : ModuleRecord) :
    (s.setRecord i r).freeCount =
      s.freeCount := rfl
@[simp] theorem State.setRecord_pending (s : State) (i : ModuleIndex) (r : ModuleRecord) :
    (s.setRecord i r).pending =
      s.pending := rfl

/-! ### setLive -/

@[simp] theorem State.setLive_rp (s : State) (e : Fin 32) (x : StationLive) : (s.setLive e x).rp = s.rp := rfl
@[simp] theorem State.setLive_iu (s : State) (e : Fin 32) (x : StationLive) :
    (s.setLive e x).iu =
      { s.iu with live := put s.iu.live e x } := rfl
@[simp] theorem State.setLive_ge (s : State) (e : Fin 32) (x : StationLive) : (s.setLive e x).ge = s.ge := rfl
@[simp] theorem State.setLive_mr (s : State) (e : Fin 32) (x : StationLive) : (s.setLive e x).mr = s.mr := rfl
@[simp] theorem State.setLive_sm (s : State) (e : Fin 32) (x : StationLive) : (s.setLive e x).sm = s.sm := rfl
@[simp] theorem State.setLive_pe (s : State) (e : Fin 32) (x : StationLive) : (s.setLive e x).pe = s.pe := rfl
@[simp] theorem State.setLive_ot (s : State) (e : Fin 32) (x : StationLive) : (s.setLive e x).ot = s.ot := rfl
@[simp] theorem State.setLive_mu (s : State) (e : Fin 32) (x : StationLive) : (s.setLive e x).mu = s.mu := rfl
@[simp] theorem State.setLive_timeBase (s : State) (e : Fin 32) (x : StationLive) :
    (s.setLive e x).timeBase =
      s.timeBase := rfl
@[simp] theorem State.setLive_freeCount (s : State) (e : Fin 32) (x : StationLive) :
    (s.setLive e x).freeCount =
      s.freeCount := rfl
@[simp] theorem State.setLive_pending (s : State) (e : Fin 32) (x : StationLive) :
    (s.setLive e x).pending =
      s.pending := rfl

/-! ### setOccupant -/

@[simp] theorem State.setOccupant_rp (s : State) (b : Bay) (m : Option ModuleRef) :
    (s.setOccupant b m).rp =
      s.rp := rfl
@[simp] theorem State.setOccupant_iu (s : State) (b : Bay) (m : Option ModuleRef) :
    (s.setOccupant b m).iu =
      { s.iu with live := put s.iu.live b.entry { s.live b.entry with bays := put (s.live b.entry).bays b.channel m } } := rfl
@[simp] theorem State.setOccupant_ge (s : State) (b : Bay) (m : Option ModuleRef) :
    (s.setOccupant b m).ge =
      s.ge := rfl
@[simp] theorem State.setOccupant_mr (s : State) (b : Bay) (m : Option ModuleRef) :
    (s.setOccupant b m).mr =
      s.mr := rfl
@[simp] theorem State.setOccupant_sm (s : State) (b : Bay) (m : Option ModuleRef) :
    (s.setOccupant b m).sm =
      s.sm := rfl
@[simp] theorem State.setOccupant_pe (s : State) (b : Bay) (m : Option ModuleRef) :
    (s.setOccupant b m).pe =
      s.pe := rfl
@[simp] theorem State.setOccupant_ot (s : State) (b : Bay) (m : Option ModuleRef) :
    (s.setOccupant b m).ot =
      s.ot := rfl
@[simp] theorem State.setOccupant_mu (s : State) (b : Bay) (m : Option ModuleRef) :
    (s.setOccupant b m).mu =
      s.mu := rfl
@[simp] theorem State.setOccupant_timeBase (s : State) (b : Bay) (m : Option ModuleRef) :
    (s.setOccupant b m).timeBase =
      s.timeBase := rfl
@[simp] theorem State.setOccupant_freeCount (s : State) (b : Bay) (m : Option ModuleRef) :
    (s.setOccupant b m).freeCount =
      s.freeCount := rfl
@[simp] theorem State.setOccupant_pending (s : State) (b : Bay) (m : Option ModuleRef) :
    (s.setOccupant b m).pending =
      s.pending := rfl

/-! ### setSlot -/

@[simp] theorem State.setSlot_rp (s : State) (p : SlotId) (x : SlotRecord) : (s.setSlot p x).rp = s.rp := rfl
@[simp] theorem State.setSlot_iu (s : State) (p : SlotId) (x : SlotRecord) : (s.setSlot p x).iu = s.iu := rfl
@[simp] theorem State.setSlot_ge (s : State) (p : SlotId) (x : SlotRecord) : (s.setSlot p x).ge = s.ge := rfl
@[simp] theorem State.setSlot_mr (s : State) (p : SlotId) (x : SlotRecord) : (s.setSlot p x).mr = s.mr := rfl
@[simp] theorem State.setSlot_sm (s : State) (p : SlotId) (x : SlotRecord) :
    (s.setSlot p x).sm =
      { s.sm with slots := put s.sm.slots p.string (put (s.sm.slots.get p.string) p.position x) } := rfl
@[simp] theorem State.setSlot_pe (s : State) (p : SlotId) (x : SlotRecord) : (s.setSlot p x).pe = s.pe := rfl
@[simp] theorem State.setSlot_ot (s : State) (p : SlotId) (x : SlotRecord) : (s.setSlot p x).ot = s.ot := rfl
@[simp] theorem State.setSlot_mu (s : State) (p : SlotId) (x : SlotRecord) : (s.setSlot p x).mu = s.mu := rfl
@[simp] theorem State.setSlot_timeBase (s : State) (p : SlotId) (x : SlotRecord) :
    (s.setSlot p x).timeBase =
      s.timeBase := rfl
@[simp] theorem State.setSlot_freeCount (s : State) (p : SlotId) (x : SlotRecord) :
    (s.setSlot p x).freeCount =
      s.freeCount := rfl
@[simp] theorem State.setSlot_pending (s : State) (p : SlotId) (x : SlotRecord) :
    (s.setSlot p x).pending =
      s.pending := rfl

/-! ### setString -/

@[simp] theorem State.setString_rp (s : State) (k : Fin 8) (x : StringRecord) : (s.setString k x).rp = s.rp := rfl
@[simp] theorem State.setString_iu (s : State) (k : Fin 8) (x : StringRecord) : (s.setString k x).iu = s.iu := rfl
@[simp] theorem State.setString_ge (s : State) (k : Fin 8) (x : StringRecord) : (s.setString k x).ge = s.ge := rfl
@[simp] theorem State.setString_mr (s : State) (k : Fin 8) (x : StringRecord) : (s.setString k x).mr = s.mr := rfl
@[simp] theorem State.setString_sm (s : State) (k : Fin 8) (x : StringRecord) :
    (s.setString k x).sm =
      { s.sm with strings := put s.sm.strings k x } := rfl
@[simp] theorem State.setString_pe (s : State) (k : Fin 8) (x : StringRecord) : (s.setString k x).pe = s.pe := rfl
@[simp] theorem State.setString_ot (s : State) (k : Fin 8) (x : StringRecord) : (s.setString k x).ot = s.ot := rfl
@[simp] theorem State.setString_mu (s : State) (k : Fin 8) (x : StringRecord) : (s.setString k x).mu = s.mu := rfl
@[simp] theorem State.setString_timeBase (s : State) (k : Fin 8) (x : StringRecord) :
    (s.setString k x).timeBase =
      s.timeBase := rfl
@[simp] theorem State.setString_freeCount (s : State) (k : Fin 8) (x : StringRecord) :
    (s.setString k x).freeCount =
      s.freeCount := rfl
@[simp] theorem State.setString_pending (s : State) (k : Fin 8) (x : StringRecord) :
    (s.setString k x).pending =
      s.pending := rfl

/-! ### setOrder -/

@[simp] theorem State.setOrder_rp (s : State) (o : OrderIndex) (x : OrderRecord) :
    (s.setOrder o x).rp =
      s.rp := rfl
@[simp] theorem State.setOrder_iu (s : State) (o : OrderIndex) (x : OrderRecord) :
    (s.setOrder o x).iu =
      s.iu := rfl
@[simp] theorem State.setOrder_ge (s : State) (o : OrderIndex) (x : OrderRecord) :
    (s.setOrder o x).ge =
      s.ge := rfl
@[simp] theorem State.setOrder_mr (s : State) (o : OrderIndex) (x : OrderRecord) :
    (s.setOrder o x).mr =
      s.mr := rfl
@[simp] theorem State.setOrder_sm (s : State) (o : OrderIndex) (x : OrderRecord) :
    (s.setOrder o x).sm =
      s.sm := rfl
@[simp] theorem State.setOrder_pe (s : State) (o : OrderIndex) (x : OrderRecord) :
    (s.setOrder o x).pe =
      s.pe := rfl
@[simp] theorem State.setOrder_ot (s : State) (o : OrderIndex) (x : OrderRecord) :
    (s.setOrder o x).ot =
      { s.ot with table := put s.ot.table o x } := rfl
@[simp] theorem State.setOrder_mu (s : State) (o : OrderIndex) (x : OrderRecord) :
    (s.setOrder o x).mu =
      s.mu := rfl
@[simp] theorem State.setOrder_timeBase (s : State) (o : OrderIndex) (x : OrderRecord) :
    (s.setOrder o x).timeBase =
      s.timeBase := rfl
@[simp] theorem State.setOrder_freeCount (s : State) (o : OrderIndex) (x : OrderRecord) :
    (s.setOrder o x).freeCount =
      s.freeCount := rfl
@[simp] theorem State.setOrder_pending (s : State) (o : OrderIndex) (x : OrderRecord) :
    (s.setOrder o x).pending =
      s.pending := rfl

/-! ### setTimer -/

@[simp] theorem State.setTimer_rp (s : State) (i : ModuleIndex) (x : Option SettleTimer) :
    (s.setTimer i x).rp =
      s.rp := rfl
@[simp] theorem State.setTimer_iu (s : State) (i : ModuleIndex) (x : Option SettleTimer) :
    (s.setTimer i x).iu =
      s.iu := rfl
@[simp] theorem State.setTimer_ge (s : State) (i : ModuleIndex) (x : Option SettleTimer) :
    (s.setTimer i x).ge =
      { s.ge with settleTimers := put s.ge.settleTimers i x } := rfl
@[simp] theorem State.setTimer_mr (s : State) (i : ModuleIndex) (x : Option SettleTimer) :
    (s.setTimer i x).mr =
      s.mr := rfl
@[simp] theorem State.setTimer_sm (s : State) (i : ModuleIndex) (x : Option SettleTimer) :
    (s.setTimer i x).sm =
      s.sm := rfl
@[simp] theorem State.setTimer_pe (s : State) (i : ModuleIndex) (x : Option SettleTimer) :
    (s.setTimer i x).pe =
      s.pe := rfl
@[simp] theorem State.setTimer_ot (s : State) (i : ModuleIndex) (x : Option SettleTimer) :
    (s.setTimer i x).ot =
      s.ot := rfl
@[simp] theorem State.setTimer_mu (s : State) (i : ModuleIndex) (x : Option SettleTimer) :
    (s.setTimer i x).mu =
      s.mu := rfl
@[simp] theorem State.setTimer_timeBase (s : State) (i : ModuleIndex) (x : Option SettleTimer) :
    (s.setTimer i x).timeBase =
      s.timeBase := rfl
@[simp] theorem State.setTimer_freeCount (s : State) (i : ModuleIndex) (x : Option SettleTimer) :
    (s.setTimer i x).freeCount =
      s.freeCount := rfl
@[simp] theorem State.setTimer_pending (s : State) (i : ModuleIndex) (x : Option SettleTimer) :
    (s.setTimer i x).pending =
      s.pending := rfl

/-! ### reachTime -/

@[simp] theorem State.reachTime_rp (s : State) (x : Nat) : (s.reachTime x).rp = s.rp := rfl
@[simp] theorem State.reachTime_iu (s : State) (x : Nat) : (s.reachTime x).iu = s.iu := rfl
@[simp] theorem State.reachTime_ge (s : State) (x : Nat) : (s.reachTime x).ge = s.ge := rfl
@[simp] theorem State.reachTime_mr (s : State) (x : Nat) : (s.reachTime x).mr = s.mr := rfl
@[simp] theorem State.reachTime_sm (s : State) (x : Nat) : (s.reachTime x).sm = s.sm := rfl
@[simp] theorem State.reachTime_pe (s : State) (x : Nat) : (s.reachTime x).pe = s.pe := rfl
@[simp] theorem State.reachTime_ot (s : State) (x : Nat) : (s.reachTime x).ot = s.ot := rfl
@[simp] theorem State.reachTime_mu (s : State) (x : Nat) : (s.reachTime x).mu = s.mu := rfl
@[simp] theorem State.reachTime_timeBase (s : State) (x : Nat) : (s.reachTime x).timeBase = max s.timeBase x := rfl
@[simp] theorem State.reachTime_freeCount (s : State) (x : Nat) : (s.reachTime x).freeCount = s.freeCount := rfl
@[simp] theorem State.reachTime_pending (s : State) (x : Nat) : (s.reachTime x).pending = s.pending := rfl

/-! ### count -/

@[simp] theorem State.count_rp (s : State) (c : Counter) :
    (s.count c).rp =
      { s.rp with counters := s.rp.counters.bump c } := rfl
@[simp] theorem State.count_iu (s : State) (c : Counter) : (s.count c).iu = s.iu := rfl
@[simp] theorem State.count_ge (s : State) (c : Counter) : (s.count c).ge = s.ge := rfl
@[simp] theorem State.count_mr (s : State) (c : Counter) : (s.count c).mr = s.mr := rfl
@[simp] theorem State.count_sm (s : State) (c : Counter) : (s.count c).sm = s.sm := rfl
@[simp] theorem State.count_pe (s : State) (c : Counter) : (s.count c).pe = s.pe := rfl
@[simp] theorem State.count_ot (s : State) (c : Counter) : (s.count c).ot = s.ot := rfl
@[simp] theorem State.count_mu (s : State) (c : Counter) : (s.count c).mu = s.mu := rfl
@[simp] theorem State.count_timeBase (s : State) (c : Counter) : (s.count c).timeBase = s.timeBase := rfl
@[simp] theorem State.count_freeCount (s : State) (c : Counter) : (s.count c).freeCount = s.freeCount := rfl
@[simp] theorem State.count_pending (s : State) (c : Counter) : (s.count c).pending = s.pending := rfl

/-! ### raise -/

@[simp] theorem State.raise_rp (s : State) (a : NoticeArgument) : (s.raise a).rp = s.rp := rfl
@[simp] theorem State.raise_iu (s : State) (a : NoticeArgument) : (s.raise a).iu = s.iu := rfl
@[simp] theorem State.raise_ge (s : State) (a : NoticeArgument) : (s.raise a).ge = s.ge := rfl
@[simp] theorem State.raise_mr (s : State) (a : NoticeArgument) : (s.raise a).mr = s.mr := rfl
@[simp] theorem State.raise_sm (s : State) (a : NoticeArgument) : (s.raise a).sm = s.sm := rfl
@[simp] theorem State.raise_pe (s : State) (a : NoticeArgument) : (s.raise a).pe = s.pe := rfl
@[simp] theorem State.raise_ot (s : State) (a : NoticeArgument) : (s.raise a).ot = s.ot := rfl
@[simp] theorem State.raise_mu (s : State) (a : NoticeArgument) :
    (s.raise a).mu =
      { s.mu with notices := raiseIn a s.mu.notices } := rfl
@[simp] theorem State.raise_timeBase (s : State) (a : NoticeArgument) : (s.raise a).timeBase = s.timeBase := rfl
@[simp] theorem State.raise_freeCount (s : State) (a : NoticeArgument) : (s.raise a).freeCount = s.freeCount := rfl
@[simp] theorem State.raise_pending (s : State) (a : NoticeArgument) : (s.raise a).pending = s.pending := rfl

/-! ### setRequests -/

@[simp] theorem State.setRequests_rp (s : State) (qs : List Request) : (s.setRequests qs).rp = s.rp := rfl
@[simp] theorem State.setRequests_iu (s : State) (qs : List Request) : (s.setRequests qs).iu = s.iu := rfl
@[simp] theorem State.setRequests_ge (s : State) (qs : List Request) : (s.setRequests qs).ge = s.ge := rfl
@[simp] theorem State.setRequests_mr (s : State) (qs : List Request) : (s.setRequests qs).mr = s.mr := rfl
@[simp] theorem State.setRequests_sm (s : State) (qs : List Request) : (s.setRequests qs).sm = s.sm := rfl
@[simp] theorem State.setRequests_pe (s : State) (qs : List Request) :
    (s.setRequests qs).pe =
      { s.pe with requests := qs } := rfl
@[simp] theorem State.setRequests_ot (s : State) (qs : List Request) : (s.setRequests qs).ot = s.ot := rfl
@[simp] theorem State.setRequests_mu (s : State) (qs : List Request) : (s.setRequests qs).mu = s.mu := rfl
@[simp] theorem State.setRequests_timeBase (s : State) (qs : List Request) :
    (s.setRequests qs).timeBase =
      s.timeBase := rfl
@[simp] theorem State.setRequests_freeCount (s : State) (qs : List Request) :
    (s.setRequests qs).freeCount =
      s.freeCount := rfl
@[simp] theorem State.setRequests_pending (s : State) (qs : List Request) :
    (s.setRequests qs).pending =
      s.pending := rfl

/-! ### setChoice -/

@[simp] theorem State.setChoice_rp (s : State) (c : Option Choice) : (s.setChoice c).rp = s.rp := rfl
@[simp] theorem State.setChoice_iu (s : State) (c : Option Choice) : (s.setChoice c).iu = s.iu := rfl
@[simp] theorem State.setChoice_ge (s : State) (c : Option Choice) : (s.setChoice c).ge = s.ge := rfl
@[simp] theorem State.setChoice_mr (s : State) (c : Option Choice) : (s.setChoice c).mr = s.mr := rfl
@[simp] theorem State.setChoice_sm (s : State) (c : Option Choice) : (s.setChoice c).sm = s.sm := rfl
@[simp] theorem State.setChoice_pe (s : State) (c : Option Choice) :
    (s.setChoice c).pe =
      { s.pe with choice := c } := rfl
@[simp] theorem State.setChoice_ot (s : State) (c : Option Choice) : (s.setChoice c).ot = s.ot := rfl
@[simp] theorem State.setChoice_mu (s : State) (c : Option Choice) : (s.setChoice c).mu = s.mu := rfl
@[simp] theorem State.setChoice_timeBase (s : State) (c : Option Choice) :
    (s.setChoice c).timeBase =
      s.timeBase := rfl
@[simp] theorem State.setChoice_freeCount (s : State) (c : Option Choice) :
    (s.setChoice c).freeCount =
      s.freeCount := rfl
@[simp] theorem State.setChoice_pending (s : State) (c : Option Choice) :
    (s.setChoice c).pending =
      s.pending := rfl

/-! ### setPool -/

@[simp] theorem State.setPool_rp (s : State) (l : List ModuleIndex) : (s.setPool l).rp = s.rp := rfl
@[simp] theorem State.setPool_iu (s : State) (l : List ModuleIndex) : (s.setPool l).iu = s.iu := rfl
@[simp] theorem State.setPool_ge (s : State) (l : List ModuleIndex) : (s.setPool l).ge = s.ge := rfl
@[simp] theorem State.setPool_mr (s : State) (l : List ModuleIndex) : (s.setPool l).mr = s.mr := rfl
@[simp] theorem State.setPool_sm (s : State) (l : List ModuleIndex) : (s.setPool l).sm = s.sm := rfl
@[simp] theorem State.setPool_pe (s : State) (l : List ModuleIndex) :
    (s.setPool l).pe =
      { s.pe with pool := l } := rfl
@[simp] theorem State.setPool_ot (s : State) (l : List ModuleIndex) : (s.setPool l).ot = s.ot := rfl
@[simp] theorem State.setPool_mu (s : State) (l : List ModuleIndex) : (s.setPool l).mu = s.mu := rfl
@[simp] theorem State.setPool_timeBase (s : State) (l : List ModuleIndex) :
    (s.setPool l).timeBase =
      s.timeBase := rfl
@[simp] theorem State.setPool_freeCount (s : State) (l : List ModuleIndex) :
    (s.setPool l).freeCount =
      s.freeCount := rfl
@[simp] theorem State.setPool_pending (s : State) (l : List ModuleIndex) : (s.setPool l).pending = s.pending := rfl

/-! ### setPoolWait -/

@[simp] theorem State.setPoolWait_rp (s : State) (l : List ModuleIndex) : (s.setPoolWait l).rp = s.rp := rfl
@[simp] theorem State.setPoolWait_iu (s : State) (l : List ModuleIndex) : (s.setPoolWait l).iu = s.iu := rfl
@[simp] theorem State.setPoolWait_ge (s : State) (l : List ModuleIndex) : (s.setPoolWait l).ge = s.ge := rfl
@[simp] theorem State.setPoolWait_mr (s : State) (l : List ModuleIndex) : (s.setPoolWait l).mr = s.mr := rfl
@[simp] theorem State.setPoolWait_sm (s : State) (l : List ModuleIndex) : (s.setPoolWait l).sm = s.sm := rfl
@[simp] theorem State.setPoolWait_pe (s : State) (l : List ModuleIndex) :
    (s.setPoolWait l).pe =
      { s.pe with poolWait := l } := rfl
@[simp] theorem State.setPoolWait_ot (s : State) (l : List ModuleIndex) : (s.setPoolWait l).ot = s.ot := rfl
@[simp] theorem State.setPoolWait_mu (s : State) (l : List ModuleIndex) : (s.setPoolWait l).mu = s.mu := rfl
@[simp] theorem State.setPoolWait_timeBase (s : State) (l : List ModuleIndex) :
    (s.setPoolWait l).timeBase =
      s.timeBase := rfl
@[simp] theorem State.setPoolWait_freeCount (s : State) (l : List ModuleIndex) :
    (s.setPoolWait l).freeCount =
      s.freeCount := rfl
@[simp] theorem State.setPoolWait_pending (s : State) (l : List ModuleIndex) :
    (s.setPoolWait l).pending =
      s.pending := rfl

/-! ### stepVerdicts -/

@[simp] theorem State.stepVerdicts_rp (s : State) : (s.stepVerdicts).rp = s.rp := rfl
@[simp] theorem State.stepVerdicts_iu (s : State) : (s.stepVerdicts).iu = s.iu := rfl
@[simp] theorem State.stepVerdicts_ge (s : State)  :
    (s.stepVerdicts).ge =
      { s.ge with verdictCounter := s.ge.verdictCounter + 1 } := rfl
@[simp] theorem State.stepVerdicts_mr (s : State) : (s.stepVerdicts).mr = s.mr := rfl
@[simp] theorem State.stepVerdicts_sm (s : State) : (s.stepVerdicts).sm = s.sm := rfl
@[simp] theorem State.stepVerdicts_pe (s : State) : (s.stepVerdicts).pe = s.pe := rfl
@[simp] theorem State.stepVerdicts_ot (s : State) : (s.stepVerdicts).ot = s.ot := rfl
@[simp] theorem State.stepVerdicts_mu (s : State) : (s.stepVerdicts).mu = s.mu := rfl
@[simp] theorem State.stepVerdicts_timeBase (s : State) : (s.stepVerdicts).timeBase = s.timeBase := rfl
@[simp] theorem State.stepVerdicts_freeCount (s : State) : (s.stepVerdicts).freeCount = s.freeCount := rfl
@[simp] theorem State.stepVerdicts_pending (s : State) : (s.stepVerdicts).pending = s.pending := rfl

/-! ### claimVerdict -/

@[simp] theorem State.claimVerdict_rp (s : State) (i : ModuleIndex) :
    (s.claimVerdict i).rp =
      { s.rp with verdictClaims := s.rp.verdictClaims ++ [i] } := rfl
@[simp] theorem State.claimVerdict_iu (s : State) (i : ModuleIndex) : (s.claimVerdict i).iu = s.iu := rfl
@[simp] theorem State.claimVerdict_ge (s : State) (i : ModuleIndex) : (s.claimVerdict i).ge = s.ge := rfl
@[simp] theorem State.claimVerdict_mr (s : State) (i : ModuleIndex) : (s.claimVerdict i).mr = s.mr := rfl
@[simp] theorem State.claimVerdict_sm (s : State) (i : ModuleIndex) : (s.claimVerdict i).sm = s.sm := rfl
@[simp] theorem State.claimVerdict_pe (s : State) (i : ModuleIndex) : (s.claimVerdict i).pe = s.pe := rfl
@[simp] theorem State.claimVerdict_ot (s : State) (i : ModuleIndex) : (s.claimVerdict i).ot = s.ot := rfl
@[simp] theorem State.claimVerdict_mu (s : State) (i : ModuleIndex) : (s.claimVerdict i).mu = s.mu := rfl
@[simp] theorem State.claimVerdict_timeBase (s : State) (i : ModuleIndex) :
    (s.claimVerdict i).timeBase =
      s.timeBase := rfl
@[simp] theorem State.claimVerdict_freeCount (s : State) (i : ModuleIndex) :
    (s.claimVerdict i).freeCount =
      s.freeCount := rfl
@[simp] theorem State.claimVerdict_pending (s : State) (i : ModuleIndex) :
    (s.claimVerdict i).pending =
      s.pending := rfl

/-! ### setIntake -/

@[simp] theorem State.setIntake_rp (s : State) (l : List MeasurementRecord) : (s.setIntake l).rp = s.rp := rfl
@[simp] theorem State.setIntake_iu (s : State) (l : List MeasurementRecord) :
    (s.setIntake l).iu =
      { s.iu with intakeQueue := l } := rfl
@[simp] theorem State.setIntake_ge (s : State) (l : List MeasurementRecord) : (s.setIntake l).ge = s.ge := rfl
@[simp] theorem State.setIntake_mr (s : State) (l : List MeasurementRecord) : (s.setIntake l).mr = s.mr := rfl
@[simp] theorem State.setIntake_sm (s : State) (l : List MeasurementRecord) : (s.setIntake l).sm = s.sm := rfl
@[simp] theorem State.setIntake_pe (s : State) (l : List MeasurementRecord) : (s.setIntake l).pe = s.pe := rfl
@[simp] theorem State.setIntake_ot (s : State) (l : List MeasurementRecord) : (s.setIntake l).ot = s.ot := rfl
@[simp] theorem State.setIntake_mu (s : State) (l : List MeasurementRecord) : (s.setIntake l).mu = s.mu := rfl
@[simp] theorem State.setIntake_timeBase (s : State) (l : List MeasurementRecord) :
    (s.setIntake l).timeBase =
      s.timeBase := rfl
@[simp] theorem State.setIntake_freeCount (s : State) (l : List MeasurementRecord) :
    (s.setIntake l).freeCount =
      s.freeCount := rfl
@[simp] theorem State.setIntake_pending (s : State) (l : List MeasurementRecord) :
    (s.setIntake l).pending =
      s.pending := rfl

/-! ### takeRecord -/

@[simp] theorem State.takeRecord_rp (s : State) : (s.takeRecord).rp = s.rp := rfl
@[simp] theorem State.takeRecord_iu (s : State)  :
    (s.takeRecord).iu =
      { s.iu with intakeQueue := s.iu.intakeQueue.tail } := rfl
@[simp] theorem State.takeRecord_ge (s : State) : (s.takeRecord).ge = s.ge := rfl
@[simp] theorem State.takeRecord_mr (s : State) : (s.takeRecord).mr = s.mr := rfl
@[simp] theorem State.takeRecord_sm (s : State) : (s.takeRecord).sm = s.sm := rfl
@[simp] theorem State.takeRecord_pe (s : State) : (s.takeRecord).pe = s.pe := rfl
@[simp] theorem State.takeRecord_ot (s : State) : (s.takeRecord).ot = s.ot := rfl
@[simp] theorem State.takeRecord_mu (s : State) : (s.takeRecord).mu = s.mu := rfl
@[simp] theorem State.takeRecord_timeBase (s : State) : (s.takeRecord).timeBase = s.timeBase := rfl
@[simp] theorem State.takeRecord_freeCount (s : State) : (s.takeRecord).freeCount = s.freeCount := rfl
@[simp] theorem State.takeRecord_pending (s : State) : (s.takeRecord).pending = s.pending := rfl

/-! ### setEvaluation -/

@[simp] theorem State.setEvaluation_rp (s : State) (e : Option Evaluation) : (s.setEvaluation e).rp = s.rp := rfl
@[simp] theorem State.setEvaluation_iu (s : State) (e : Option Evaluation) : (s.setEvaluation e).iu = s.iu := rfl
@[simp] theorem State.setEvaluation_ge (s : State) (e : Option Evaluation) :
    (s.setEvaluation e).ge =
      { s.ge with evaluation := e } := rfl
@[simp] theorem State.setEvaluation_mr (s : State) (e : Option Evaluation) : (s.setEvaluation e).mr = s.mr := rfl
@[simp] theorem State.setEvaluation_sm (s : State) (e : Option Evaluation) : (s.setEvaluation e).sm = s.sm := rfl
@[simp] theorem State.setEvaluation_pe (s : State) (e : Option Evaluation) : (s.setEvaluation e).pe = s.pe := rfl
@[simp] theorem State.setEvaluation_ot (s : State) (e : Option Evaluation) : (s.setEvaluation e).ot = s.ot := rfl
@[simp] theorem State.setEvaluation_mu (s : State) (e : Option Evaluation) : (s.setEvaluation e).mu = s.mu := rfl
@[simp] theorem State.setEvaluation_timeBase (s : State) (e : Option Evaluation) :
    (s.setEvaluation e).timeBase =
      s.timeBase := rfl
@[simp] theorem State.setEvaluation_freeCount (s : State) (e : Option Evaluation) :
    (s.setEvaluation e).freeCount =
      s.freeCount := rfl
@[simp] theorem State.setEvaluation_pending (s : State) (e : Option Evaluation) :
    (s.setEvaluation e).pending =
      s.pending := rfl

/-! ### setActive -/

@[simp] theorem State.setActive_rp (s : State) (x : Tables) : (s.setActive x).rp = s.rp := rfl
@[simp] theorem State.setActive_iu (s : State) (x : Tables) : (s.setActive x).iu = s.iu := rfl
@[simp] theorem State.setActive_ge (s : State) (x : Tables) : (s.setActive x).ge = s.ge := rfl
@[simp] theorem State.setActive_mr (s : State) (x : Tables) : (s.setActive x).mr = s.mr := rfl
@[simp] theorem State.setActive_sm (s : State) (x : Tables) : (s.setActive x).sm = s.sm := rfl
@[simp] theorem State.setActive_pe (s : State) (x : Tables) : (s.setActive x).pe = s.pe := rfl
@[simp] theorem State.setActive_ot (s : State) (x : Tables) : (s.setActive x).ot = s.ot := rfl
@[simp] theorem State.setActive_mu (s : State) (x : Tables) : (s.setActive x).mu = { s.mu with active := x } := rfl
@[simp] theorem State.setActive_timeBase (s : State) (x : Tables) : (s.setActive x).timeBase = s.timeBase := rfl
@[simp] theorem State.setActive_freeCount (s : State) (x : Tables) : (s.setActive x).freeCount = s.freeCount := rfl
@[simp] theorem State.setActive_pending (s : State) (x : Tables) : (s.setActive x).pending = s.pending := rfl

/-! ### setShadow -/

@[simp] theorem State.setShadow_rp (s : State) (x : Tables) : (s.setShadow x).rp = s.rp := rfl
@[simp] theorem State.setShadow_iu (s : State) (x : Tables) : (s.setShadow x).iu = s.iu := rfl
@[simp] theorem State.setShadow_ge (s : State) (x : Tables) : (s.setShadow x).ge = s.ge := rfl
@[simp] theorem State.setShadow_mr (s : State) (x : Tables) : (s.setShadow x).mr = s.mr := rfl
@[simp] theorem State.setShadow_sm (s : State) (x : Tables) : (s.setShadow x).sm = s.sm := rfl
@[simp] theorem State.setShadow_pe (s : State) (x : Tables) : (s.setShadow x).pe = s.pe := rfl
@[simp] theorem State.setShadow_ot (s : State) (x : Tables) : (s.setShadow x).ot = s.ot := rfl
@[simp] theorem State.setShadow_mu (s : State) (x : Tables) : (s.setShadow x).mu = { s.mu with shadow := x } := rfl
@[simp] theorem State.setShadow_timeBase (s : State) (x : Tables) : (s.setShadow x).timeBase = s.timeBase := rfl
@[simp] theorem State.setShadow_freeCount (s : State) (x : Tables) : (s.setShadow x).freeCount = s.freeCount := rfl
@[simp] theorem State.setShadow_pending (s : State) (x : Tables) : (s.setShadow x).pending = s.pending := rfl

/-! ### setPendingCommit -/

@[simp] theorem State.setPendingCommit_rp (s : State) (m : Option (BitVec 5)) :
    (s.setPendingCommit m).rp =
      s.rp := rfl
@[simp] theorem State.setPendingCommit_iu (s : State) (m : Option (BitVec 5)) :
    (s.setPendingCommit m).iu =
      s.iu := rfl
@[simp] theorem State.setPendingCommit_ge (s : State) (m : Option (BitVec 5)) :
    (s.setPendingCommit m).ge =
      s.ge := rfl
@[simp] theorem State.setPendingCommit_mr (s : State) (m : Option (BitVec 5)) :
    (s.setPendingCommit m).mr =
      s.mr := rfl
@[simp] theorem State.setPendingCommit_sm (s : State) (m : Option (BitVec 5)) :
    (s.setPendingCommit m).sm =
      s.sm := rfl
@[simp] theorem State.setPendingCommit_pe (s : State) (m : Option (BitVec 5)) :
    (s.setPendingCommit m).pe =
      s.pe := rfl
@[simp] theorem State.setPendingCommit_ot (s : State) (m : Option (BitVec 5)) :
    (s.setPendingCommit m).ot =
      s.ot := rfl
@[simp] theorem State.setPendingCommit_mu (s : State) (m : Option (BitVec 5)) :
    (s.setPendingCommit m).mu =
      { s.mu with pendingCommit := m } := rfl
@[simp] theorem State.setPendingCommit_timeBase (s : State) (m : Option (BitVec 5)) :
    (s.setPendingCommit m).timeBase =
      s.timeBase := rfl
@[simp] theorem State.setPendingCommit_freeCount (s : State) (m : Option (BitVec 5)) :
    (s.setPendingCommit m).freeCount =
      s.freeCount := rfl
@[simp] theorem State.setPendingCommit_pending (s : State) (m : Option (BitVec 5)) :
    (s.setPendingCommit m).pending =
      s.pending := rfl

/-! ### setRing -/

@[simp] theorem State.setRing_rp (s : State) (r : RingPort) : (s.setRing r).rp = r := rfl
@[simp] theorem State.setRing_iu (s : State) (r : RingPort) : (s.setRing r).iu = s.iu := rfl
@[simp] theorem State.setRing_ge (s : State) (r : RingPort) : (s.setRing r).ge = s.ge := rfl
@[simp] theorem State.setRing_mr (s : State) (r : RingPort) : (s.setRing r).mr = s.mr := rfl
@[simp] theorem State.setRing_sm (s : State) (r : RingPort) : (s.setRing r).sm = s.sm := rfl
@[simp] theorem State.setRing_pe (s : State) (r : RingPort) : (s.setRing r).pe = s.pe := rfl
@[simp] theorem State.setRing_ot (s : State) (r : RingPort) : (s.setRing r).ot = s.ot := rfl
@[simp] theorem State.setRing_mu (s : State) (r : RingPort) : (s.setRing r).mu = s.mu := rfl
@[simp] theorem State.setRing_timeBase (s : State) (r : RingPort) : (s.setRing r).timeBase = s.timeBase := rfl
@[simp] theorem State.setRing_freeCount (s : State) (r : RingPort) : (s.setRing r).freeCount = s.freeCount := rfl
@[simp] theorem State.setRing_pending (s : State) (r : RingPort) : (s.setRing r).pending = s.pending := rfl

/-! ### setCommands -/

@[simp] theorem State.setCommands_rp (s : State) (l : List Frame) : (s.setCommands l).rp = s.rp := rfl
@[simp] theorem State.setCommands_iu (s : State) (l : List Frame) : (s.setCommands l).iu = s.iu := rfl
@[simp] theorem State.setCommands_ge (s : State) (l : List Frame) : (s.setCommands l).ge = s.ge := rfl
@[simp] theorem State.setCommands_mr (s : State) (l : List Frame) : (s.setCommands l).mr = s.mr := rfl
@[simp] theorem State.setCommands_sm (s : State) (l : List Frame) : (s.setCommands l).sm = s.sm := rfl
@[simp] theorem State.setCommands_pe (s : State) (l : List Frame) : (s.setCommands l).pe = s.pe := rfl
@[simp] theorem State.setCommands_ot (s : State) (l : List Frame) : (s.setCommands l).ot = s.ot := rfl
@[simp] theorem State.setCommands_mu (s : State) (l : List Frame) :
    (s.setCommands l).mu =
      { s.mu with commandQueue := l } := rfl
@[simp] theorem State.setCommands_timeBase (s : State) (l : List Frame) :
    (s.setCommands l).timeBase =
      s.timeBase := rfl
@[simp] theorem State.setCommands_freeCount (s : State) (l : List Frame) :
    (s.setCommands l).freeCount =
      s.freeCount := rfl
@[simp] theorem State.setCommands_pending (s : State) (l : List Frame) :
    (s.setCommands l).pending =
      s.pending := rfl

/-! ### setMode -/

@[simp] theorem State.setMode_rp (s : State) (m : EngineMode) : (s.setMode m).rp = s.rp := rfl
@[simp] theorem State.setMode_iu (s : State) (m : EngineMode) : (s.setMode m).iu = s.iu := rfl
@[simp] theorem State.setMode_ge (s : State) (m : EngineMode) : (s.setMode m).ge = s.ge := rfl
@[simp] theorem State.setMode_mr (s : State) (m : EngineMode) : (s.setMode m).mr = s.mr := rfl
@[simp] theorem State.setMode_sm (s : State) (m : EngineMode) : (s.setMode m).sm = s.sm := rfl
@[simp] theorem State.setMode_pe (s : State) (m : EngineMode) : (s.setMode m).pe = s.pe := rfl
@[simp] theorem State.setMode_ot (s : State) (m : EngineMode) : (s.setMode m).ot = s.ot := rfl
@[simp] theorem State.setMode_mu (s : State) (m : EngineMode) : (s.setMode m).mu = { s.mu with mode := m } := rfl
@[simp] theorem State.setMode_timeBase (s : State) (m : EngineMode) : (s.setMode m).timeBase = s.timeBase := rfl
@[simp] theorem State.setMode_freeCount (s : State) (m : EngineMode) : (s.setMode m).freeCount = s.freeCount := rfl
@[simp] theorem State.setMode_pending (s : State) (m : EngineMode) : (s.setMode m).pending = s.pending := rfl

/-! ### setCounters -/

@[simp] theorem State.setCounters_rp (s : State) (c : Counters) :
    (s.setCounters c).rp =
      { s.rp with counters := c } := rfl
@[simp] theorem State.setCounters_iu (s : State) (c : Counters) : (s.setCounters c).iu = s.iu := rfl
@[simp] theorem State.setCounters_ge (s : State) (c : Counters) : (s.setCounters c).ge = s.ge := rfl
@[simp] theorem State.setCounters_mr (s : State) (c : Counters) : (s.setCounters c).mr = s.mr := rfl
@[simp] theorem State.setCounters_sm (s : State) (c : Counters) : (s.setCounters c).sm = s.sm := rfl
@[simp] theorem State.setCounters_pe (s : State) (c : Counters) : (s.setCounters c).pe = s.pe := rfl
@[simp] theorem State.setCounters_ot (s : State) (c : Counters) : (s.setCounters c).ot = s.ot := rfl
@[simp] theorem State.setCounters_mu (s : State) (c : Counters) : (s.setCounters c).mu = s.mu := rfl
@[simp] theorem State.setCounters_timeBase (s : State) (c : Counters) :
    (s.setCounters c).timeBase =
      s.timeBase := rfl
@[simp] theorem State.setCounters_freeCount (s : State) (c : Counters) :
    (s.setCounters c).freeCount =
      s.freeCount := rfl
@[simp] theorem State.setCounters_pending (s : State) (c : Counters) : (s.setCounters c).pending = s.pending := rfl

end Sys2Proof.Machine
end

