-- ==== Sys2Proof/Laws/Tables.lean ====
section
/-! SUPPORT. Reading a table after a write, the lowest index that satisfies a test, insertion in an ordered
list, and reading State's records after each update of them. -/

namespace Sys2Proof.Machine

/-! ## Tables of a fixed size -/

theorem get_put_same {α : Type} {n : Nat} (v : Vector α n) (i : Fin n) (x : α) : (put v i x).get i = x := by
  simp [put, Vector.get_eq_getElem]

theorem get_put_other {α : Type} {n : Nat} (v : Vector α n) (i j : Fin n) (x : α) (h : i ≠ j) :
    (put v i x).get j = v.get j := by
  have h' : i.val ≠ j.val := fun e => h (Fin.ext e)
  simp [put, Vector.get_eq_getElem, Vector.getElem_set_ne, h']

theorem get_put {α : Type} {n : Nat} (v : Vector α n) (i j : Fin n) (x : α) :
    (put v i x).get j = if i = j then x else v.get j := by
  by_cases h : i = j
  · subst h; simp [get_put_same]
  · simp [get_put_other, h]

theorem put_get_same {α : Type} {n : Nat} (v : Vector α n) (i : Fin n) : put v i (v.get i) = v := by
  ext k hk
  by_cases h : i.val = k
  · subst h; simp [put, Vector.get_eq_getElem]
  · simp [put, Vector.getElem_set_ne, h]

theorem get_mapEntries {α β : Type} {n : Nat} (f : α → β) (v : Vector α n) (i : Fin n) :
    (mapEntries f v).get i = f (v.get i) := by
  simp [mapEntries, Vector.get_eq_getElem]

theorem get_tabulate {α : Type} {n : Nat} (f : Fin n → α) (i : Fin n) : (tabulate f).get i = f i := by
  simp [tabulate, Vector.get_eq_getElem]

theorem get_replicate {α : Type} {n : Nat} (x : α) (i : Fin n) : (Vector.replicate n x).get i = x := by
  simp [Vector.get_eq_getElem]

/-- `lowest` finds an entry that satisfies the test, and none of a lower index does. -/
theorem lowest_some {α : Type} {n : Nat} {p : α → Bool} {v : Vector α n} {i : Fin n}
    (h : lowest p v = some i) : p (v.get i) = true ∧ ∀ j : Fin n, j.val < i.val → p (v.get j) = false := by
  unfold lowest at h
  split at h
  · rename_i k hk
    split at h
    · rename_i hn
      obtain rfl := Option.some.inj h
      have := List.findIdx?_eq_some_iff_getElem.mp hk
      obtain ⟨hl, hp, hq⟩ := this
      refine ⟨by simpa [Vector.get_eq_getElem] using hp, fun j hj => ?_⟩
      have := hq j.val hj
      simpa [Vector.get_eq_getElem] using this
    · cases h
  · cases h

/-- `lowest` finds nothing when no entry satisfies the test. -/
theorem lowest_none {α : Type} {n : Nat} {p : α → Bool} {v : Vector α n} :
    lowest p v = none ↔ ∀ j : Fin n, p (v.get j) = false := by
  unfold lowest
  constructor
  · intro h j
    split at h
    · rename_i k hk
      have := List.findIdx?_eq_some_iff_getElem.mp hk
      obtain ⟨hl, _, _⟩ := this
      have : k < n := by simpa using hl
      simp [this] at h
    · rename_i hk
      have := List.findIdx?_eq_none_iff.mp hk (v.get j) (by simp [Vector.get_eq_getElem])
      simpa using this
  · intro h
    have : v.toList.findIdx? p = none := by
      rw [List.findIdx?_eq_none_iff]
      intro x hx
      obtain ⟨k, hk, rfl⟩ := List.getElem_of_mem hx
      have hk' : k < n := by simpa using hk
      have := h ⟨k, hk'⟩
      simpa [Vector.get_eq_getElem] using this
    simp [this]

/-- The lowest index is found when it satisfies the test and no lower one does. -/
theorem lowest_eq_some {α : Type} {n : Nat} {p : α → Bool} {v : Vector α n} {i : Fin n}
    (hi : p (v.get i) = true) (hj : ∀ j : Fin n, j.val < i.val → p (v.get j) = false) :
    lowest p v = some i := by
  cases h : lowest p v with
  | none => have := lowest_none.mp h i; simp [hi] at this
  | some k =>
    obtain ⟨hk, hlow⟩ := lowest_some h
    rcases Nat.lt_trichotomy k.val i.val with hlt | heq | hgt
    · have := hj k hlt; simp [hk] at this
    · exact congrArg some (Fin.ext heq)
    · have := hlow i hgt; simp [hi] at this

theorem lowest_isSome {α : Type} {n : Nat} {p : α → Bool} {v : Vector α n} :
    (lowest p v).isSome = true ↔ ∃ j : Fin n, p (v.get j) = true := by
  cases h : lowest p v with
  | none => simp [lowest_none.mp h]
  | some i => simpa using ⟨i, (lowest_some h).1⟩

theorem indexOf_val {n : Nat} (i : Fin n) : indexOf n i.val = some i := by
  simp [indexOf]

theorem indexOf_eq_some {n k : Nat} {i : Fin n} : indexOf n k = some i ↔ k = i.val := by
  unfold indexOf
  split
  · constructor
    · intro h; rw [← Option.some.inj h]
    · intro h; subst h; rfl
  · rename_i h
    constructor
    · intro h'; cases h'
    · intro h'; subst h'; exact absurd i.isLt h

/-! ## Insertion in an ordered list -/

theorem mem_insertOrdered {α : Type} (b : α → α → Bool) (x y : α) (l : List α) :
    y ∈ insertOrdered b x l ↔ y = x ∨ y ∈ l := by
  induction l with
  | nil => simp [insertOrdered]
  | cons z zs ih =>
    unfold insertOrdered
    split
    · simp
    · simp [ih]; tauto

theorem length_insertOrdered {α : Type} (b : α → α → Bool) (x : α) (l : List α) :
    (insertOrdered b x l).length = l.length + 1 := by
  induction l with
  | nil => rfl
  | cons z zs ih =>
    unfold insertOrdered
    split
    · rfl
    · simp [ih]

theorem nodup_insertOrdered {α : Type} (b : α → α → Bool) (x : α) (l : List α) (hx : x ∉ l) (h : l.Nodup) :
    (insertOrdered b x l).Nodup := by
  induction l with
  | nil => simp [insertOrdered]
  | cons z zs ih =>
    unfold insertOrdered
    split
    · exact List.nodup_cons.mpr ⟨hx, h⟩
    · have hz := List.nodup_cons.mp h
      have hx' : x ≠ z ∧ x ∉ zs := by simpa [not_or] using hx
      refine List.nodup_cons.mpr ⟨?_, ih hx'.2 hz.2⟩
      rw [mem_insertOrdered]
      rintro (rfl | hm)
      · exact hx'.1 rfl
      · exact hz.1 hm

/-! ## State's records after an update -/

theorem State.record_setRecord (s : State) (i j : ModuleIndex) (r : ModuleRecord) :
    (s.setRecord i r).record j = if i = j then r else s.record j := by
  simp [State.record, get_put]

@[simp] theorem State.record_setRecord_same (s : State) (i : ModuleIndex) (r : ModuleRecord) :
    (s.setRecord i r).record i = r := by
  simp [State.record_setRecord]

theorem State.record_setRecord_other (s : State) (i j : ModuleIndex) (r : ModuleRecord) (h : i ≠ j) :
    (s.setRecord i r).record j = s.record j := by
  simp [State.record_setRecord, h]

theorem State.live_setLive (s : State) (e k : Fin 32) (x : StationLive) :
    (s.setLive e x).live k = if e = k then x else s.live k := by
  simp [State.live, get_put]

theorem State.timer_setTimer (s : State) (i j : ModuleIndex) (x : Option SettleTimer) :
    (s.setTimer i x).timer j = if i = j then x else s.timer j := by
  simp [State.timer, get_put]

theorem State.string_setString (s : State) (i j : Fin 8) (x : StringRecord) :
    (s.setString i x).string j = if i = j then x else s.string j := by
  simp [State.string, get_put]

theorem State.order_setOrder (s : State) (i j : OrderIndex) (x : OrderRecord) :
    (s.setOrder i x).order j = if i = j then x else s.order j := by
  simp [State.order, get_put]

theorem State.slot_setSlot (s : State) (p q : SlotId) (x : SlotRecord) :
    (s.setSlot p x).slot q = if p = q then x else s.slot q := by
  obtain ⟨a, b⟩ := p
  obtain ⟨c, d⟩ := q
  by_cases h1 : a = c
  · subst h1
    by_cases h2 : b = d
    · subst h2; simp [State.slot, get_put]
    · simp [State.slot, get_put, h2]
  · simp [State.slot, get_put, h1]

theorem State.occupant_setOccupant (s : State) (b c : Bay) (m : Option ModuleRef) :
    (s.setOccupant b m).occupant c = if b = c then m else s.occupant c := by
  obtain ⟨e, k⟩ := b
  obtain ⟨f, l⟩ := c
  by_cases h1 : e = f
  · subst h1
    by_cases h2 : k = l
    · subst h2; simp [State.occupant, State.live, get_put]
    · simp [State.occupant, State.live, get_put, h2]
  · simp [State.occupant, State.live, get_put, h1]

end Sys2Proof.Machine
end

