-- ==== Sys2Proof/Laws/Frames.lean ====
section
/-! SUPPORT. Which blocks each shared operation leaves as they were: one lemma per operation. -/

namespace Sys2Proof.Machine

section
set_option linter.unusedTactic false
set_option linter.unnecessarySeqFocus false

/-- A fold of steps that keep a view of the state keeps it. -/
theorem foldl_keeps {α β γ : Type} (g : γ → β) (f : γ → α → γ) (h : ∀ s x, g (f s x) = g s) (l : List α) (s : γ) :
    g (l.foldl f s) = g s := by
  induction l generalizing s with
  | nil => rfl
  | cons x xs ih => simp [List.foldl_cons, ih, h]

@[simp] theorem State.claim_frame (s : State) (m : ModuleRef) (l : List ModuleState) (f : ModuleRecord → ModuleRecord) :
    (s.claim m l f).rp = s.rp ∧ (s.claim m l f).iu = s.iu ∧ (s.claim m l f).ge = s.ge ∧
    (s.claim m l f).sm = s.sm ∧ (s.claim m l f).pe = s.pe ∧ (s.claim m l f).ot = s.ot ∧
    (s.claim m l f).mu = s.mu ∧ (s.claim m l f).timeBase = s.timeBase ∧
    (s.claim m l f).freeCount = s.freeCount ∧ (s.claim m l f).pending = s.pending := by
  unfold State.claim
  try dsimp only
  (repeat' split) <;> simp

@[simp] theorem State.clearBay_frame (s : State) (b : Bay) (m : ModuleRef) :
    (s.clearBay b m).rp = s.rp ∧ (s.clearBay b m).ge = s.ge ∧ (s.clearBay b m).mr = s.mr ∧
    (s.clearBay b m).sm = s.sm ∧ (s.clearBay b m).pe = s.pe ∧ (s.clearBay b m).ot = s.ot ∧
    (s.clearBay b m).mu = s.mu ∧ (s.clearBay b m).timeBase = s.timeBase ∧
    (s.clearBay b m).freeCount = s.freeCount ∧ (s.clearBay b m).pending = s.pending := by
  unfold State.clearBay
  try dsimp only
  (repeat' split) <;> simp

@[simp] theorem State.setBay_frame (s : State) (b : Bay) (m : ModuleRef) :
    (s.setBay b m).rp = s.rp ∧ (s.setBay b m).ge = s.ge ∧ (s.setBay b m).mr = s.mr ∧
    (s.setBay b m).sm = s.sm ∧ (s.setBay b m).pe = s.pe ∧ (s.setBay b m).ot = s.ot ∧
    (s.setBay b m).mu = s.mu ∧ (s.setBay b m).timeBase = s.timeBase ∧
    (s.setBay b m).freeCount = s.freeCount ∧ (s.setBay b m).pending = s.pending := by
  unfold State.setBay
  try dsimp only
  (repeat' split) <;> simp

@[simp] theorem State.updateRequest_frame (s : State) (p : SlotId) (f : Request → Request) :
    (s.updateRequest p f).rp = s.rp ∧ (s.updateRequest p f).iu = s.iu ∧ (s.updateRequest p f).ge = s.ge ∧
    (s.updateRequest p f).mr = s.mr ∧ (s.updateRequest p f).sm = s.sm ∧ (s.updateRequest p f).ot = s.ot ∧
    (s.updateRequest p f).mu = s.mu ∧ (s.updateRequest p f).timeBase = s.timeBase ∧
    (s.updateRequest p f).freeCount = s.freeCount ∧ (s.updateRequest p f).pending = s.pending := by
  unfold State.updateRequest
  try dsimp only
  (repeat' split) <;> simp

@[simp] theorem State.withdraw_frame (s : State) (p : SlotId) :
    (s.withdraw p).rp = s.rp ∧ (s.withdraw p).iu = s.iu ∧ (s.withdraw p).ge = s.ge ∧
    (s.withdraw p).mr = s.mr ∧ (s.withdraw p).sm = s.sm ∧ (s.withdraw p).ot = s.ot ∧
    (s.withdraw p).mu = s.mu ∧ (s.withdraw p).timeBase = s.timeBase ∧
    (s.withdraw p).freeCount = s.freeCount ∧ (s.withdraw p).pending = s.pending := by
  unfold State.withdraw
  try dsimp only
  (repeat' split) <;> simp

@[simp] theorem State.wakeAll_frame (s : State) :
    (s.wakeAll).rp = s.rp ∧ (s.wakeAll).iu = s.iu ∧ (s.wakeAll).ge = s.ge ∧ (s.wakeAll).mr = s.mr ∧
    (s.wakeAll).sm = s.sm ∧ (s.wakeAll).ot = s.ot ∧ (s.wakeAll).mu = s.mu ∧
    (s.wakeAll).timeBase = s.timeBase ∧ (s.wakeAll).freeCount = s.freeCount ∧ (s.wakeAll).pending = s.pending := by
  unfold State.wakeAll
  try dsimp only
  (repeat' split) <;> simp

@[simp] theorem State.wakeString_frame (s : State) (k : Fin 8) :
    (s.wakeString k).rp = s.rp ∧ (s.wakeString k).iu = s.iu ∧ (s.wakeString k).ge = s.ge ∧
    (s.wakeString k).mr = s.mr ∧ (s.wakeString k).sm = s.sm ∧ (s.wakeString k).ot = s.ot ∧
    (s.wakeString k).mu = s.mu ∧ (s.wakeString k).timeBase = s.timeBase ∧
    (s.wakeString k).freeCount = s.freeCount ∧ (s.wakeString k).pending = s.pending := by
  unfold State.wakeString
  try dsimp only
  (repeat' split) <;> simp

@[simp] theorem State.createRequest_frame (s : State) (p : SlotId) (k : RequestKind) (st : RequestStatus) :
    (s.createRequest p k st).rp = s.rp ∧ (s.createRequest p k st).iu = s.iu ∧
    (s.createRequest p k st).ge = s.ge ∧ (s.createRequest p k st).mr = s.mr ∧
    (s.createRequest p k st).sm = s.sm ∧ (s.createRequest p k st).ot = s.ot ∧
    (s.createRequest p k st).mu = s.mu ∧ (s.createRequest p k st).timeBase = s.timeBase ∧
    (s.createRequest p k st).freeCount = s.freeCount ∧ (s.createRequest p k st).pending = s.pending := by
  unfold State.createRequest
  try dsimp only
  (repeat' split) <;> simp

@[simp] theorem State.raiseFitting_frame (s : State) (p : SlotId) (k : RequestKind) (st : RequestStatus) :
    (s.raiseFitting p k st).rp = s.rp ∧ (s.raiseFitting p k st).iu = s.iu ∧
    (s.raiseFitting p k st).ge = s.ge ∧ (s.raiseFitting p k st).mr = s.mr ∧
    (s.raiseFitting p k st).sm = s.sm ∧ (s.raiseFitting p k st).ot = s.ot ∧
    (s.raiseFitting p k st).mu = s.mu ∧ (s.raiseFitting p k st).timeBase = s.timeBase ∧
    (s.raiseFitting p k st).freeCount = s.freeCount ∧ (s.raiseFitting p k st).pending = s.pending := by
  unfold State.raiseFitting
  try dsimp only
  (repeat' split) <;> simp

@[simp] theorem State.raiseRequest_frame (s : State) (p : SlotId) (k : RequestKind) (st : RequestStatus) :
    (s.raiseRequest p k st).rp = s.rp ∧ (s.raiseRequest p k st).iu = s.iu ∧
    (s.raiseRequest p k st).ge = s.ge ∧ (s.raiseRequest p k st).mr = s.mr ∧
    (s.raiseRequest p k st).sm = s.sm ∧ (s.raiseRequest p k st).ot = s.ot ∧
    (s.raiseRequest p k st).mu = s.mu ∧ (s.raiseRequest p k st).timeBase = s.timeBase ∧
    (s.raiseRequest p k st).freeCount = s.freeCount ∧ (s.raiseRequest p k st).pending = s.pending := by
  unfold State.raiseRequest
  try dsimp only
  (repeat' split) <;> simp

@[simp] theorem State.markPoolEntry_frame (s : State) :
    (s.markPoolEntry).rp = s.rp ∧ (s.markPoolEntry).iu = s.iu ∧ (s.markPoolEntry).ge = s.ge ∧
    (s.markPoolEntry).mr = s.mr ∧ (s.markPoolEntry).sm = s.sm ∧ (s.markPoolEntry).ot = s.ot ∧
    (s.markPoolEntry).mu = s.mu ∧ (s.markPoolEntry).timeBase = s.timeBase ∧
    (s.markPoolEntry).freeCount = s.freeCount ∧ (s.markPoolEntry).pending = s.pending := by
  unfold State.markPoolEntry
  try dsimp only
  (repeat' split) <;> simp

@[simp] theorem State.markReferences_frame (s : State) (k : Fin 8) :
    (s.markReferences k).rp = s.rp ∧ (s.markReferences k).iu = s.iu ∧ (s.markReferences k).ge = s.ge ∧
    (s.markReferences k).mr = s.mr ∧ (s.markReferences k).sm = s.sm ∧ (s.markReferences k).ot = s.ot ∧
    (s.markReferences k).mu = s.mu ∧ (s.markReferences k).timeBase = s.timeBase ∧
    (s.markReferences k).freeCount = s.freeCount ∧ (s.markReferences k).pending = s.pending := by
  unfold State.markReferences
  try dsimp only
  (repeat' split) <;> simp

@[simp] theorem State.enterPool_frame (s : State) (i : ModuleIndex) :
    (s.enterPool i).rp = s.rp ∧ (s.enterPool i).iu = s.iu ∧ (s.enterPool i).ge = s.ge ∧
    (s.enterPool i).sm = s.sm ∧ (s.enterPool i).ot = s.ot ∧ (s.enterPool i).mu = s.mu ∧
    (s.enterPool i).timeBase = s.timeBase ∧ (s.enterPool i).freeCount = s.freeCount ∧
    (s.enterPool i).pending = s.pending := by
  unfold State.enterPool
  try dsimp only
  (repeat' split) <;> simp

@[simp] theorem State.enterPoolWait_frame (s : State) (i : ModuleIndex) :
    (s.enterPoolWait i).rp = s.rp ∧ (s.enterPoolWait i).iu = s.iu ∧ (s.enterPoolWait i).ge = s.ge ∧
    (s.enterPoolWait i).sm = s.sm ∧ (s.enterPoolWait i).ot = s.ot ∧ (s.enterPoolWait i).mu = s.mu ∧
    (s.enterPoolWait i).timeBase = s.timeBase ∧ (s.enterPoolWait i).freeCount = s.freeCount ∧
    (s.enterPoolWait i).pending = s.pending := by
  unfold State.enterPoolWait
  try dsimp only
  (repeat' split) <;> simp

@[simp] theorem State.enterPoolOrWait_frame (s : State) (i : ModuleIndex) :
    (s.enterPoolOrWait i).rp = s.rp ∧ (s.enterPoolOrWait i).iu = s.iu ∧ (s.enterPoolOrWait i).ge = s.ge ∧
    (s.enterPoolOrWait i).sm = s.sm ∧ (s.enterPoolOrWait i).ot = s.ot ∧ (s.enterPoolOrWait i).mu = s.mu ∧
    (s.enterPoolOrWait i).timeBase = s.timeBase ∧ (s.enterPoolOrWait i).freeCount = s.freeCount ∧
    (s.enterPoolOrWait i).pending = s.pending := by
  unfold State.enterPoolOrWait
  try dsimp only
  (repeat' split) <;> simp

@[simp] theorem State.promote_frame (s : State) :
    (s.promote).rp = s.rp ∧ (s.promote).iu = s.iu ∧ (s.promote).ge = s.ge ∧ (s.promote).sm = s.sm ∧
    (s.promote).ot = s.ot ∧ (s.promote).mu = s.mu ∧ (s.promote).timeBase = s.timeBase ∧
    (s.promote).freeCount = s.freeCount ∧ (s.promote).pending = s.pending := by
  unfold State.promote
  try dsimp only
  (repeat' split) <;> simp

@[simp] theorem State.dropFromPool_frame (s : State) (i : ModuleIndex) :
    (s.dropFromPool i).rp = s.rp ∧ (s.dropFromPool i).iu = s.iu ∧ (s.dropFromPool i).ge = s.ge ∧
    (s.dropFromPool i).mr = s.mr ∧ (s.dropFromPool i).sm = s.sm ∧ (s.dropFromPool i).ot = s.ot ∧
    (s.dropFromPool i).mu = s.mu ∧ (s.dropFromPool i).timeBase = s.timeBase ∧
    (s.dropFromPool i).freeCount = s.freeCount ∧ (s.dropFromPool i).pending = s.pending := by
  unfold State.dropFromPool
  try dsimp only
  (repeat' split) <;> simp

@[simp] theorem State.leavePool_frame (s : State) (i : ModuleIndex) :
    (s.leavePool i).rp = s.rp ∧ (s.leavePool i).iu = s.iu ∧ (s.leavePool i).ge = s.ge ∧
    (s.leavePool i).sm = s.sm ∧ (s.leavePool i).ot = s.ot ∧ (s.leavePool i).mu = s.mu ∧
    (s.leavePool i).timeBase = s.timeBase ∧ (s.leavePool i).freeCount = s.freeCount ∧
    (s.leavePool i).pending = s.pending := by
  unfold State.leavePool
  try dsimp only
  (repeat' split) <;> simp

@[simp] theorem State.leavePoolWait_frame (s : State) (i : ModuleIndex) :
    (s.leavePoolWait i).rp = s.rp ∧ (s.leavePoolWait i).iu = s.iu ∧ (s.leavePoolWait i).ge = s.ge ∧
    (s.leavePoolWait i).mr = s.mr ∧ (s.leavePoolWait i).sm = s.sm ∧ (s.leavePoolWait i).ot = s.ot ∧
    (s.leavePoolWait i).mu = s.mu ∧ (s.leavePoolWait i).timeBase = s.timeBase ∧
    (s.leavePoolWait i).freeCount = s.freeCount ∧ (s.leavePoolWait i).pending = s.pending := by
  unfold State.leavePoolWait
  try dsimp only
  (repeat' split) <;> simp

@[simp] theorem State.recompute_frame (s : State) (k : Fin 8) :
    (s.recompute k).rp = s.rp ∧ (s.recompute k).iu = s.iu ∧ (s.recompute k).ge = s.ge ∧
    (s.recompute k).mr = s.mr ∧ (s.recompute k).ot = s.ot ∧ (s.recompute k).mu = s.mu ∧
    (s.recompute k).timeBase = s.timeBase ∧ (s.recompute k).freeCount = s.freeCount ∧
    (s.recompute k).pending = s.pending := by
  unfold State.recompute
  try dsimp only
  (repeat' split) <;> simp

@[simp] theorem State.select_frame (s : State) (o : Policy) :
    (s.select o).rp = s.rp ∧ (s.select o).iu = s.iu ∧ (s.select o).ge = s.ge ∧ (s.select o).mr = s.mr ∧
    (s.select o).sm = s.sm ∧ (s.select o).mu = s.mu ∧ (s.select o).timeBase = s.timeBase ∧
    (s.select o).freeCount = s.freeCount ∧ (s.select o).pending = s.pending := by
  unfold State.select
  try dsimp only
  (repeat' split) <;> simp

@[simp] theorem State.selectIfDue_frame (s : State) :
    (s.selectIfDue).rp = s.rp ∧ (s.selectIfDue).iu = s.iu ∧ (s.selectIfDue).ge = s.ge ∧
    (s.selectIfDue).mr = s.mr ∧ (s.selectIfDue).sm = s.sm ∧ (s.selectIfDue).mu = s.mu ∧
    (s.selectIfDue).timeBase = s.timeBase ∧ (s.selectIfDue).freeCount = s.freeCount ∧
    (s.selectIfDue).pending = s.pending := by
  unfold State.selectIfDue
  try dsimp only
  (repeat' split) <;> simp

@[simp] theorem State.makeVerdict_frame (s : State) (i : ModuleIndex) (k : VerdictKind) :
    (s.makeVerdict i k).iu = s.iu ∧ (s.makeVerdict i k).sm = s.sm ∧ (s.makeVerdict i k).pe = s.pe ∧
    (s.makeVerdict i k).ot = s.ot ∧ (s.makeVerdict i k).mu = s.mu ∧
    (s.makeVerdict i k).timeBase = s.timeBase ∧ (s.makeVerdict i k).freeCount = s.freeCount ∧
    (s.makeVerdict i k).pending = s.pending := by
  unfold State.makeVerdict
  try dsimp only
  (repeat' split) <;> simp

@[simp] theorem State.freeRecord_frame (s : State) (i : ModuleIndex) :
    (s.freeRecord i).rp = s.rp ∧ (s.freeRecord i).iu = s.iu ∧ (s.freeRecord i).ge = s.ge ∧
    (s.freeRecord i).sm = s.sm ∧ (s.freeRecord i).pe = s.pe ∧ (s.freeRecord i).ot = s.ot ∧
    (s.freeRecord i).mu = s.mu ∧ (s.freeRecord i).timeBase = s.timeBase ∧
    (s.freeRecord i).freeCount = s.freeCount ∧ (s.freeRecord i).pending = s.pending := by
  unfold State.freeRecord
  try dsimp only
  (repeat' split) <;> simp

@[simp] theorem State.goOn_frame (s : State) (i : ModuleIndex) :
    (s.goOn i).rp = s.rp ∧ (s.goOn i).iu = s.iu ∧ (s.goOn i).ge = s.ge ∧ (s.goOn i).sm = s.sm ∧
    (s.goOn i).ot = s.ot ∧ (s.goOn i).mu = s.mu ∧ (s.goOn i).timeBase = s.timeBase ∧
    (s.goOn i).freeCount = s.freeCount ∧ (s.goOn i).pending = s.pending := by
  unfold State.goOn
  try dsimp only
  (repeat' split) <;> simp

@[simp] theorem State.abandon_frame (s : State) (i : ModuleIndex) :
    (s.abandon i).iu = s.iu ∧ (s.abandon i).sm = s.sm ∧ (s.abandon i).pe = s.pe ∧ (s.abandon i).ot = s.ot ∧
    (s.abandon i).mu = s.mu ∧ (s.abandon i).timeBase = s.timeBase ∧ (s.abandon i).freeCount = s.freeCount ∧
    (s.abandon i).pending = s.pending := by
  unfold State.abandon
  try dsimp only
  (repeat' split) <;> simp

@[simp] theorem State.departGraded_frame (s : State) (i : ModuleIndex) :
    (s.departGraded i).rp = s.rp ∧ (s.departGraded i).iu = s.iu ∧ (s.departGraded i).ge = s.ge ∧
    (s.departGraded i).sm = s.sm ∧ (s.departGraded i).ot = s.ot ∧ (s.departGraded i).mu = s.mu ∧
    (s.departGraded i).timeBase = s.timeBase ∧ (s.departGraded i).freeCount = s.freeCount ∧
    (s.departGraded i).pending = s.pending := by
  unfold State.departGraded
  try dsimp only
  (repeat' split) <;> simp

@[simp] theorem State.departModule_frame (s : State) (m : ModuleRef) :
    (s.departModule m).iu = s.iu ∧ (s.departModule m).sm = s.sm ∧ (s.departModule m).ot = s.ot ∧
    (s.departModule m).mu = s.mu ∧ (s.departModule m).timeBase = s.timeBase ∧
    (s.departModule m).freeCount = s.freeCount ∧ (s.departModule m).pending = s.pending := by
  unfold State.departModule
  try dsimp only
  (repeat' split) <;> simp

@[simp] theorem State.departFrom_frame (s : State) (b : Bay) (m : ModuleRef) :
    (s.departFrom b m).sm = s.sm ∧ (s.departFrom b m).ot = s.ot ∧ (s.departFrom b m).mu = s.mu ∧
    (s.departFrom b m).timeBase = s.timeBase ∧ (s.departFrom b m).freeCount = s.freeCount ∧
    (s.departFrom b m).pending = s.pending := by
  unfold State.departFrom
  try dsimp only
  (repeat' split) <;> simp

@[simp] theorem State.departOccupant_frame (s : State) (b : Bay) :
    (s.departOccupant b).sm = s.sm ∧ (s.departOccupant b).ot = s.ot ∧ (s.departOccupant b).mu = s.mu ∧
    (s.departOccupant b).timeBase = s.timeBase ∧ (s.departOccupant b).freeCount = s.freeCount ∧
    (s.departOccupant b).pending = s.pending := by
  unfold State.departOccupant
  try dsimp only
  (repeat' split) <;> simp

@[simp] theorem State.startSettle_frame (s : State) (m : ModuleRef) :
    (s.startSettle m).rp = s.rp ∧ (s.startSettle m).iu = s.iu ∧ (s.startSettle m).sm = s.sm ∧
    (s.startSettle m).pe = s.pe ∧ (s.startSettle m).ot = s.ot ∧ (s.startSettle m).mu = s.mu ∧
    (s.startSettle m).timeBase = s.timeBase ∧ (s.startSettle m).freeCount = s.freeCount ∧
    (s.startSettle m).pending = s.pending := by
  unfold State.startSettle
  try dsimp only
  (repeat' split) <;> simp

@[simp] theorem State.completeArrival_frame (s : State) (i : ModuleIndex) (tag : Tag) (c : Fin 16) (b : Bay) :
    (s.completeArrival i tag c b).rp = s.rp ∧ (s.completeArrival i tag c b).sm = s.sm ∧
    (s.completeArrival i tag c b).pe = s.pe ∧ (s.completeArrival i tag c b).ot = s.ot ∧
    (s.completeArrival i tag c b).mu = s.mu ∧ (s.completeArrival i tag c b).timeBase = s.timeBase ∧
    (s.completeArrival i tag c b).freeCount = s.freeCount ∧ (s.completeArrival i tag c b).pending = s.pending := by
  unfold State.completeArrival
  try dsimp only
  (repeat' split) <;> simp

@[simp] theorem State.releaseForRetest_frame (s : State) (i : ModuleIndex) :
    (s.releaseForRetest i).rp = s.rp ∧ (s.releaseForRetest i).ge = s.ge ∧ (s.releaseForRetest i).sm = s.sm ∧
    (s.releaseForRetest i).ot = s.ot ∧ (s.releaseForRetest i).mu = s.mu ∧
    (s.releaseForRetest i).timeBase = s.timeBase ∧ (s.releaseForRetest i).freeCount = s.freeCount ∧
    (s.releaseForRetest i).pending = s.pending := by
  unfold State.releaseForRetest
  try dsimp only
  (repeat' split) <;> simp

@[simp] theorem State.arriveTag_frame (s : State) (b : Bay) (tag : Tag) (c : Fin 16) :
    (s.arriveTag b tag c).rp = s.rp ∧ (s.arriveTag b tag c).sm = s.sm ∧ (s.arriveTag b tag c).ot = s.ot ∧
    (s.arriveTag b tag c).timeBase = s.timeBase ∧ (s.arriveTag b tag c).freeCount = s.freeCount ∧
    (s.arriveTag b tag c).pending = s.pending := by
  unfold State.arriveTag
  try dsimp only
  (repeat' split) <;> simp

@[simp] theorem State.arriveAt_frame (s : State) (b : Bay) (tag : Tag) (c : Fin 16) :
    (s.arriveAt b tag c).sm = s.sm ∧ (s.arriveAt b tag c).ot = s.ot ∧
    (s.arriveAt b tag c).timeBase = s.timeBase ∧ (s.arriveAt b tag c).freeCount = s.freeCount ∧
    (s.arriveAt b tag c).pending = s.pending := by
  unfold State.arriveAt
  try dsimp only
  (repeat' split) <;> simp

@[simp] theorem State.departAt_frame (s : State) (b : Bay) (tag : Option Tag) :
    (s.departAt b tag).sm = s.sm ∧ (s.departAt b tag).ot = s.ot ∧ (s.departAt b tag).mu = s.mu ∧
    (s.departAt b tag).timeBase = s.timeBase ∧ (s.departAt b tag).freeCount = s.freeCount ∧
    (s.departAt b tag).pending = s.pending := by
  unfold State.departAt
  try dsimp only
  (repeat' split) <;> simp

@[simp] theorem State.gapEvent_frame (s : State) (m : ModuleRef) :
    (s.gapEvent m).rp = s.rp ∧ (s.gapEvent m).iu = s.iu ∧ (s.gapEvent m).ge = s.ge ∧
    (s.gapEvent m).sm = s.sm ∧ (s.gapEvent m).pe = s.pe ∧ (s.gapEvent m).ot = s.ot ∧
    (s.gapEvent m).mu = s.mu ∧ (s.gapEvent m).timeBase = s.timeBase ∧
    (s.gapEvent m).freeCount = s.freeCount ∧ (s.gapEvent m).pending = s.pending := by
  unfold State.gapEvent
  try dsimp only
  (repeat' split) <;> simp

@[simp] theorem State.gapEvents_frame (s : State) (e : Fin 32) :
    (s.gapEvents e).rp = s.rp ∧ (s.gapEvents e).iu = s.iu ∧ (s.gapEvents e).ge = s.ge ∧
    (s.gapEvents e).sm = s.sm ∧ (s.gapEvents e).pe = s.pe ∧ (s.gapEvents e).ot = s.ot ∧
    (s.gapEvents e).mu = s.mu ∧ (s.gapEvents e).timeBase = s.timeBase ∧
    (s.gapEvents e).freeCount = s.freeCount ∧ (s.gapEvents e).pending = s.pending := by
  have h := foldl_keeps (fun u : State => (u.rp, u.iu, u.ge, u.sm, u.pe, u.ot, u.mu, u.timeBase, u.freeCount, u.pending)) State.gapEvent (fun _ _ => by simp)
    ((s.live e).bays.toList.filterMap id) s
  simpa [State.gapEvents] using h

@[simp] theorem State.checkSequence_frame (s : State) (e : Fin 32) (q : Byte) :
    (s.checkSequence e q).rp = s.rp ∧ (s.checkSequence e q).ge = s.ge ∧ (s.checkSequence e q).sm = s.sm ∧
    (s.checkSequence e q).pe = s.pe ∧ (s.checkSequence e q).ot = s.ot ∧ (s.checkSequence e q).mu = s.mu ∧
    (s.checkSequence e q).timeBase = s.timeBase ∧ (s.checkSequence e q).freeCount = s.freeCount ∧
    (s.checkSequence e q).pending = s.pending := by
  unfold State.checkSequence
  try dsimp only
  (repeat' split) <;> simp

@[simp] theorem State.loseOne_frame (s : State) (e : Fin 32) :
    (s.loseOne e).rp = s.rp ∧ (s.loseOne e).ge = s.ge ∧ (s.loseOne e).mr = s.mr ∧ (s.loseOne e).sm = s.sm ∧
    (s.loseOne e).pe = s.pe ∧ (s.loseOne e).ot = s.ot ∧ (s.loseOne e).mu = s.mu ∧
    (s.loseOne e).timeBase = s.timeBase ∧ (s.loseOne e).freeCount = s.freeCount ∧
    (s.loseOne e).pending = s.pending := by
  unfold State.loseOne
  try dsimp only
  (repeat' split) <;> simp

@[simp] theorem State.enqueueRecord_frame (s : State) (r : MeasurementRecord) :
    (s.enqueueRecord r).ge = s.ge ∧ (s.enqueueRecord r).mr = s.mr ∧ (s.enqueueRecord r).sm = s.sm ∧
    (s.enqueueRecord r).pe = s.pe ∧ (s.enqueueRecord r).ot = s.ot ∧ (s.enqueueRecord r).mu = s.mu ∧
    (s.enqueueRecord r).timeBase = s.timeBase ∧ (s.enqueueRecord r).freeCount = s.freeCount ∧
    (s.enqueueRecord r).pending = s.pending := by
  unfold State.enqueueRecord
  try dsimp only
  (repeat' split) <;> simp

@[simp] theorem State.admitSample_frame (s : State) (e : Fin 32) (body : List Byte) :
    (s.admitSample e body).ge = s.ge ∧ (s.admitSample e body).sm = s.sm ∧ (s.admitSample e body).pe = s.pe ∧
    (s.admitSample e body).ot = s.ot ∧ (s.admitSample e body).mu = s.mu ∧
    (s.admitSample e body).timeBase = s.timeBase ∧ (s.admitSample e body).freeCount = s.freeCount ∧
    (s.admitSample e body).pending = s.pending := by
  unfold State.admitSample
  try dsimp only
  (repeat' split) <;> simp

@[simp] theorem State.takeSample_frame (s : State) (f : Frame) :
    (s.takeSample f).ge = s.ge ∧ (s.takeSample f).sm = s.sm ∧ (s.takeSample f).pe = s.pe ∧
    (s.takeSample f).ot = s.ot ∧ (s.takeSample f).mu = s.mu ∧ (s.takeSample f).timeBase = s.timeBase ∧
    (s.takeSample f).freeCount = s.freeCount ∧ (s.takeSample f).pending = s.pending := by
  unfold State.takeSample
  try dsimp only
  (repeat' split) <;> simp

@[simp] theorem State.moveOccupant_frame (s : State) (x : ModuleRef × Bay) :
    (s.moveOccupant x).rp = s.rp ∧ (s.moveOccupant x).iu = s.iu ∧ (s.moveOccupant x).ge = s.ge ∧
    (s.moveOccupant x).sm = s.sm ∧ (s.moveOccupant x).pe = s.pe ∧ (s.moveOccupant x).ot = s.ot ∧
    (s.moveOccupant x).mu = s.mu ∧ (s.moveOccupant x).timeBase = s.timeBase ∧
    (s.moveOccupant x).freeCount = s.freeCount ∧ (s.moveOccupant x).pending = s.pending := by
  unfold State.moveOccupant
  try dsimp only
  (repeat' split) <;> simp

@[simp] theorem State.carryStations_frame (s : State) (old new : Vector Station 32) :
    (s.carryStations old new).sm = s.sm ∧ (s.carryStations old new).ot = s.ot ∧
    (s.carryStations old new).mu = s.mu ∧ (s.carryStations old new).timeBase = s.timeBase ∧
    (s.carryStations old new).freeCount = s.freeCount ∧ (s.carryStations old new).pending = s.pending := by
  unfold State.carryStations
  have h := fun l u => foldl_keeps (fun u : State => (u.sm, u.ot, u.mu, u.timeBase, u.freeCount, u.pending)) State.departModule (fun _ _ => by simp) l u
  have k := fun l u => foldl_keeps (fun u : State => (u.sm, u.ot, u.mu, u.timeBase, u.freeCount, u.pending)) State.moveOccupant (fun _ _ => by simp) l u
  simp only [Prod.mk.injEq] at h k
  simp [h, k]

@[simp] theorem State.endTest_frame (s : State) (i : ModuleIndex) :
    (s.endTest i).iu = s.iu ∧ (s.endTest i).sm = s.sm ∧ (s.endTest i).pe = s.pe ∧ (s.endTest i).ot = s.ot ∧
    (s.endTest i).mu = s.mu ∧ (s.endTest i).timeBase = s.timeBase ∧ (s.endTest i).freeCount = s.freeCount ∧
    (s.endTest i).pending = s.pending := by
  unfold State.endTest
  try dsimp only
  (repeat' split) <;> simp

@[simp] theorem State.regradeWorse_frame (s : State) (i : ModuleIndex) (p : SlotId) (c : PairingClass) :
    (s.regradeWorse i p c).rp = s.rp ∧ (s.regradeWorse i p c).iu = s.iu ∧ (s.regradeWorse i p c).ge = s.ge ∧
    (s.regradeWorse i p c).sm = s.sm ∧ (s.regradeWorse i p c).ot = s.ot ∧ (s.regradeWorse i p c).mu = s.mu ∧
    (s.regradeWorse i p c).timeBase = s.timeBase ∧ (s.regradeWorse i p c).freeCount = s.freeCount ∧
    (s.regradeWorse i p c).pending = s.pending := by
  unfold State.regradeWorse
  try dsimp only
  (repeat' split) <;> simp

@[simp] theorem State.regradeReject_frame (s : State) (i : ModuleIndex) (p : SlotId) :
    (s.regradeReject i p).rp = s.rp ∧ (s.regradeReject i p).iu = s.iu ∧ (s.regradeReject i p).ge = s.ge ∧
    (s.regradeReject i p).sm = s.sm ∧ (s.regradeReject i p).ot = s.ot ∧ (s.regradeReject i p).mu = s.mu ∧
    (s.regradeReject i p).timeBase = s.timeBase ∧ (s.regradeReject i p).freeCount = s.freeCount ∧
    (s.regradeReject i p).pending = s.pending := by
  unfold State.regradeReject
  try dsimp only
  (repeat' split) <;> simp

@[simp] theorem State.regradeRecovered_frame (s : State) (i : ModuleIndex) (p : SlotId) :
    (s.regradeRecovered i p).rp = s.rp ∧ (s.regradeRecovered i p).iu = s.iu ∧
    (s.regradeRecovered i p).ge = s.ge ∧ (s.regradeRecovered i p).sm = s.sm ∧
    (s.regradeRecovered i p).ot = s.ot ∧ (s.regradeRecovered i p).mu = s.mu ∧
    (s.regradeRecovered i p).timeBase = s.timeBase ∧ (s.regradeRecovered i p).freeCount = s.freeCount ∧
    (s.regradeRecovered i p).pending = s.pending := by
  unfold State.regradeRecovered
  try dsimp only
  (repeat' split) <;> simp

@[simp] theorem State.regradeOutbound_frame (s : State) (i : ModuleIndex) (a : Bool) :
    (s.regradeOutbound i a).rp = s.rp ∧ (s.regradeOutbound i a).iu = s.iu ∧
    (s.regradeOutbound i a).ge = s.ge ∧ (s.regradeOutbound i a).sm = s.sm ∧
    (s.regradeOutbound i a).pe = s.pe ∧ (s.regradeOutbound i a).ot = s.ot ∧
    (s.regradeOutbound i a).mu = s.mu ∧ (s.regradeOutbound i a).timeBase = s.timeBase ∧
    (s.regradeOutbound i a).freeCount = s.freeCount ∧ (s.regradeOutbound i a).pending = s.pending := by
  unfold State.regradeOutbound
  try dsimp only
  (repeat' split) <;> simp

@[simp] theorem State.regrade_frame (s : State) (i : ModuleIndex) (p : SlotId) :
    (s.regrade i p).rp = s.rp ∧ (s.regrade i p).iu = s.iu ∧ (s.regrade i p).ge = s.ge ∧
    (s.regrade i p).sm = s.sm ∧ (s.regrade i p).ot = s.ot ∧ (s.regrade i p).mu = s.mu ∧
    (s.regrade i p).timeBase = s.timeBase ∧ (s.regrade i p).freeCount = s.freeCount ∧
    (s.regrade i p).pending = s.pending := by
  unfold State.regrade
  try dsimp only
  (repeat' split) <;> simp

@[simp] theorem State.afterResolution_frame (s : State) (i : ModuleIndex) :
    (s.afterResolution i).iu = s.iu ∧ (s.afterResolution i).sm = s.sm ∧ (s.afterResolution i).ot = s.ot ∧
    (s.afterResolution i).mu = s.mu ∧ (s.afterResolution i).timeBase = s.timeBase ∧
    (s.afterResolution i).freeCount = s.freeCount ∧ (s.afterResolution i).pending = s.pending := by
  unfold State.afterResolution
  try dsimp only
  (repeat' split) <;> simp

@[simp] theorem State.resolve_frame (s : State) (i : ModuleIndex) :
    (s.resolve i).iu = s.iu ∧ (s.resolve i).sm = s.sm ∧ (s.resolve i).ot = s.ot ∧ (s.resolve i).mu = s.mu ∧
    (s.resolve i).timeBase = s.timeBase ∧ (s.resolve i).freeCount = s.freeCount ∧
    (s.resolve i).pending = s.pending := by
  unfold State.resolve
  try dsimp only
  (repeat' split) <;> simp

@[simp] theorem State.tellStringMap_frame (s : State) (e : Evaluation) (x : Option Nat) (l : Location) :
    (s.tellStringMap e x l).rp = s.rp ∧ (s.tellStringMap e x l).iu = s.iu ∧
    (s.tellStringMap e x l).ge = s.ge ∧ (s.tellStringMap e x l).mr = s.mr ∧
    (s.tellStringMap e x l).ot = s.ot ∧ (s.tellStringMap e x l).mu = s.mu ∧
    (s.tellStringMap e x l).timeBase = s.timeBase ∧ (s.tellStringMap e x l).freeCount = s.freeCount ∧
    (s.tellStringMap e x l).pending = s.pending := by
  unfold State.tellStringMap
  try dsimp only
  (repeat' split) <;> simp

@[simp] theorem State.applyCompletion_frame (s : State) (e : Evaluation) :
    (s.applyCompletion e).iu = s.iu ∧ (s.applyCompletion e).ot = s.ot ∧
    (s.applyCompletion e).timeBase = s.timeBase ∧ (s.applyCompletion e).freeCount = s.freeCount ∧
    (s.applyCompletion e).pending = s.pending := by
  unfold State.applyCompletion
  try dsimp only
  (repeat' split) <;> simp

@[simp] theorem State.completeEvaluation_frame (s : State) (e : Evaluation) :
    (s.completeEvaluation e).iu = s.iu ∧ (s.completeEvaluation e).ot = s.ot ∧
    (s.completeEvaluation e).timeBase = s.timeBase ∧ (s.completeEvaluation e).freeCount = s.freeCount ∧
    (s.completeEvaluation e).pending = s.pending := by
  unfold State.completeEvaluation
  try dsimp only
  (repeat' split) <;> simp

@[simp] theorem State.beginEvaluation_frame (s : State) (m : ModuleRef) (place : Place) (metric : Metric) (v : Nat) (w : Int) (x : Option Nat) :
    (s.beginEvaluation m place metric v w x).rp = s.rp ∧ (s.beginEvaluation m place metric v w x).iu = s.iu ∧
    (s.beginEvaluation m place metric v w x).mr = s.mr ∧ (s.beginEvaluation m place metric v w x).sm = s.sm ∧
    (s.beginEvaluation m place metric v w x).pe = s.pe ∧ (s.beginEvaluation m place metric v w x).ot = s.ot ∧
    (s.beginEvaluation m place metric v w x).mu = s.mu ∧
    (s.beginEvaluation m place metric v w x).timeBase = s.timeBase ∧
    (s.beginEvaluation m place metric v w x).freeCount = s.freeCount ∧
    (s.beginEvaluation m place metric v w x).pending = s.pending := by
  unfold State.beginEvaluation
  try dsimp only
  (repeat' split) <;> simp

@[simp] theorem State.measureBay_frame (s : State) (b : Bay) (metric : Metric) (v : Nat) (w : Int) :
    (s.measureBay b metric v w).iu = s.iu ∧ (s.measureBay b metric v w).sm = s.sm ∧
    (s.measureBay b metric v w).pe = s.pe ∧ (s.measureBay b metric v w).ot = s.ot ∧
    (s.measureBay b metric v w).mu = s.mu ∧ (s.measureBay b metric v w).timeBase = s.timeBase ∧
    (s.measureBay b metric v w).freeCount = s.freeCount ∧ (s.measureBay b metric v w).pending = s.pending := by
  unfold State.measureBay
  try dsimp only
  (repeat' split) <;> simp

@[simp] theorem State.measureSlot_frame (s : State) (p : SlotId) (metric : Metric) (v : Nat) (w : Int) :
    (s.measureSlot p metric v w).iu = s.iu ∧ (s.measureSlot p metric v w).mr = s.mr ∧
    (s.measureSlot p metric v w).sm = s.sm ∧ (s.measureSlot p metric v w).pe = s.pe ∧
    (s.measureSlot p metric v w).ot = s.ot ∧ (s.measureSlot p metric v w).mu = s.mu ∧
    (s.measureSlot p metric v w).timeBase = s.timeBase ∧
    (s.measureSlot p metric v w).freeCount = s.freeCount ∧ (s.measureSlot p metric v w).pending = s.pending := by
  unfold State.measureSlot
  try dsimp only
  (repeat' split) <;> simp

@[simp] theorem State.promoteDeferred_frame (s : State) (k : Fin 8) :
    (s.promoteDeferred k).rp = s.rp ∧ (s.promoteDeferred k).iu = s.iu ∧ (s.promoteDeferred k).ge = s.ge ∧
    (s.promoteDeferred k).mr = s.mr ∧ (s.promoteDeferred k).sm = s.sm ∧ (s.promoteDeferred k).pe = s.pe ∧
    (s.promoteDeferred k).mu = s.mu ∧ (s.promoteDeferred k).timeBase = s.timeBase ∧
    (s.promoteDeferred k).freeCount = s.freeCount ∧ (s.promoteDeferred k).pending = s.pending := by
  unfold State.promoteDeferred
  try dsimp only
  (repeat' split) <;> simp

@[simp] theorem State.freeOrderRecord_frame (s : State) (o : OrderIndex) :
    (s.freeOrderRecord o).rp = s.rp ∧ (s.freeOrderRecord o).iu = s.iu ∧ (s.freeOrderRecord o).ge = s.ge ∧
    (s.freeOrderRecord o).mr = s.mr ∧ (s.freeOrderRecord o).sm = s.sm ∧ (s.freeOrderRecord o).pe = s.pe ∧
    (s.freeOrderRecord o).mu = s.mu ∧ (s.freeOrderRecord o).timeBase = s.timeBase ∧
    (s.freeOrderRecord o).freeCount = s.freeCount ∧ (s.freeOrderRecord o).pending = s.pending := by
  unfold State.freeOrderRecord
  try dsimp only
  (repeat' split) <;> simp

@[simp] theorem State.setSelectedStatus_frame (s : State) (c : Choice) (st : RequestStatus) :
    (s.setSelectedStatus c st).rp = s.rp ∧ (s.setSelectedStatus c st).iu = s.iu ∧
    (s.setSelectedStatus c st).ge = s.ge ∧ (s.setSelectedStatus c st).mr = s.mr ∧
    (s.setSelectedStatus c st).sm = s.sm ∧ (s.setSelectedStatus c st).ot = s.ot ∧
    (s.setSelectedStatus c st).mu = s.mu ∧ (s.setSelectedStatus c st).timeBase = s.timeBase ∧
    (s.setSelectedStatus c st).freeCount = s.freeCount ∧ (s.setSelectedStatus c st).pending = s.pending := by
  unfold State.setSelectedStatus
  try dsimp only
  (repeat' split) <;> simp

@[simp] theorem State.discardChoice_frame (s : State) (c : Choice) :
    (s.discardChoice c).rp = s.rp ∧ (s.discardChoice c).iu = s.iu ∧ (s.discardChoice c).ge = s.ge ∧
    (s.discardChoice c).mr = s.mr ∧ (s.discardChoice c).sm = s.sm ∧ (s.discardChoice c).mu = s.mu ∧
    (s.discardChoice c).timeBase = s.timeBase ∧ (s.discardChoice c).freeCount = s.freeCount ∧
    (s.discardChoice c).pending = s.pending := by
  unfold State.discardChoice
  try dsimp only
  (repeat' split) <;> simp

@[simp] theorem State.noCandidate_frame (s : State) (c : Choice) :
    (s.noCandidate c).rp = s.rp ∧ (s.noCandidate c).iu = s.iu ∧ (s.noCandidate c).ge = s.ge ∧
    (s.noCandidate c).mr = s.mr ∧ (s.noCandidate c).sm = s.sm ∧ (s.noCandidate c).timeBase = s.timeBase ∧
    (s.noCandidate c).freeCount = s.freeCount ∧ (s.noCandidate c).pending = s.pending := by
  unfold State.noCandidate
  try dsimp only
  (repeat' split) <;> simp

@[simp] theorem State.assign_frame (s : State) (m : ModuleRef) (o : OrderIndex) :
    (s.assign m o).rp = s.rp ∧ (s.assign m o).iu = s.iu ∧ (s.assign m o).ge = s.ge ∧
    (s.assign m o).sm = s.sm ∧ (s.assign m o).ot = s.ot ∧ (s.assign m o).mu = s.mu ∧
    (s.assign m o).timeBase = s.timeBase ∧ (s.assign m o).freeCount = s.freeCount ∧
    (s.assign m o).pending = s.pending := by
  unfold State.assign
  try dsimp only
  (repeat' split) <;> simp

@[simp] theorem State.assignIncoming_frame (s : State) (w : OrderWork) (o : OrderIndex) :
    (s.assignIncoming w o).rp = s.rp ∧ (s.assignIncoming w o).iu = s.iu ∧ (s.assignIncoming w o).ge = s.ge ∧
    (s.assignIncoming w o).sm = s.sm ∧ (s.assignIncoming w o).ot = s.ot ∧ (s.assignIncoming w o).mu = s.mu ∧
    (s.assignIncoming w o).timeBase = s.timeBase ∧ (s.assignIncoming w o).freeCount = s.freeCount ∧
    (s.assignIncoming w o).pending = s.pending := by
  unfold State.assignIncoming
  try dsimp only
  (repeat' split) <;> simp

@[simp] theorem State.claimOutgoing_frame (s : State) (w : OrderWork) (o : OrderIndex) :
    (s.claimOutgoing w o).rp = s.rp ∧ (s.claimOutgoing w o).iu = s.iu ∧ (s.claimOutgoing w o).ge = s.ge ∧
    (s.claimOutgoing w o).sm = s.sm ∧ (s.claimOutgoing w o).pe = s.pe ∧ (s.claimOutgoing w o).ot = s.ot ∧
    (s.claimOutgoing w o).mu = s.mu ∧ (s.claimOutgoing w o).timeBase = s.timeBase ∧
    (s.claimOutgoing w o).freeCount = s.freeCount ∧ (s.claimOutgoing w o).pending = s.pending := by
  unfold State.claimOutgoing
  try dsimp only
  (repeat' split) <;> simp

@[simp] theorem State.createOrder_frame (s : State) (o : OrderIndex) (p : SlotId) (w : OrderWork) :
    (s.createOrder o p w).rp = s.rp ∧ (s.createOrder o p w).iu = s.iu ∧ (s.createOrder o p w).ge = s.ge ∧
    (s.createOrder o p w).mr = s.mr ∧ (s.createOrder o p w).sm = s.sm ∧ (s.createOrder o p w).pe = s.pe ∧
    (s.createOrder o p w).mu = s.mu ∧ (s.createOrder o p w).timeBase = s.timeBase ∧
    (s.createOrder o p w).freeCount = s.freeCount ∧ (s.createOrder o p w).pending = s.pending := by
  unfold State.createOrder
  try dsimp only
  (repeat' split) <;> simp

@[simp] theorem State.applyChoice_frame (s : State) (c : Choice) (w : OrderWork) :
    (s.applyChoice c w).rp = s.rp ∧ (s.applyChoice c w).iu = s.iu ∧ (s.applyChoice c w).ge = s.ge ∧
    (s.applyChoice c w).mu = s.mu ∧ (s.applyChoice c w).timeBase = s.timeBase ∧
    (s.applyChoice c w).freeCount = s.freeCount ∧ (s.applyChoice c w).pending = s.pending := by
  unfold State.applyChoice
  try dsimp only
  (repeat' split) <;> simp

@[simp] theorem State.afterChoice_frame (s : State) (c : Choice) (w : OrderWork) :
    (s.afterChoice c w).rp = s.rp ∧ (s.afterChoice c w).iu = s.iu ∧ (s.afterChoice c w).ge = s.ge ∧
    (s.afterChoice c w).ot = s.ot ∧ (s.afterChoice c w).mu = s.mu ∧
    (s.afterChoice c w).timeBase = s.timeBase ∧ (s.afterChoice c w).freeCount = s.freeCount ∧
    (s.afterChoice c w).pending = s.pending := by
  unfold State.afterChoice
  try dsimp only
  (repeat' split) <;> simp

@[simp] theorem State.completeChoice_frame (s : State) (c : Choice) :
    (s.completeChoice c).rp = s.rp ∧ (s.completeChoice c).iu = s.iu ∧ (s.completeChoice c).ge = s.ge ∧
    (s.completeChoice c).timeBase = s.timeBase ∧ (s.completeChoice c).freeCount = s.freeCount ∧
    (s.completeChoice c).pending = s.pending := by
  unfold State.completeChoice
  try dsimp only
  (repeat' split) <;> simp

@[simp] theorem State.releaseSlot_frame (s : State) (p : SlotId) (o : OrderIndex) (x : SlotRecord) :
    (s.releaseSlot p o x).rp = s.rp ∧ (s.releaseSlot p o x).iu = s.iu ∧ (s.releaseSlot p o x).ge = s.ge ∧
    (s.releaseSlot p o x).mr = s.mr ∧ (s.releaseSlot p o x).pe = s.pe ∧ (s.releaseSlot p o x).ot = s.ot ∧
    (s.releaseSlot p o x).mu = s.mu ∧ (s.releaseSlot p o x).timeBase = s.timeBase ∧
    (s.releaseSlot p o x).freeCount = s.freeCount ∧ (s.releaseSlot p o x).pending = s.pending := by
  unfold State.releaseSlot
  try dsimp only
  (repeat' split) <;> simp

@[simp] theorem State.claimModule_frame (s : State) (m : Option ModuleRef) (l : List ModuleState) (f : ModuleRecord → ModuleRecord) :
    (s.claimModule m l f).rp = s.rp ∧ (s.claimModule m l f).iu = s.iu ∧ (s.claimModule m l f).ge = s.ge ∧
    (s.claimModule m l f).sm = s.sm ∧ (s.claimModule m l f).pe = s.pe ∧ (s.claimModule m l f).ot = s.ot ∧
    (s.claimModule m l f).mu = s.mu ∧ (s.claimModule m l f).timeBase = s.timeBase ∧
    (s.claimModule m l f).freeCount = s.freeCount ∧ (s.claimModule m l f).pending = s.pending := by
  unfold State.claimModule
  try dsimp only
  (repeat' split) <;> simp

@[simp] theorem State.returnToPool_frame (s : State) (m : Option ModuleRef) :
    (s.returnToPool m).rp = s.rp ∧ (s.returnToPool m).iu = s.iu ∧ (s.returnToPool m).ge = s.ge ∧
    (s.returnToPool m).sm = s.sm ∧ (s.returnToPool m).ot = s.ot ∧ (s.returnToPool m).mu = s.mu ∧
    (s.returnToPool m).timeBase = s.timeBase ∧ (s.returnToPool m).freeCount = s.freeCount ∧
    (s.returnToPool m).pending = s.pending := by
  unfold State.returnToPool
  try dsimp only
  (repeat' split) <;> simp

@[simp] theorem State.endDone_frame (s : State) (i : OrderIndex) (o : Order) :
    (s.endDone i o).rp = s.rp ∧ (s.endDone i o).iu = s.iu ∧ (s.endDone i o).ge = s.ge ∧
    (s.endDone i o).ot = s.ot ∧ (s.endDone i o).mu = s.mu ∧ (s.endDone i o).timeBase = s.timeBase ∧
    (s.endDone i o).freeCount = s.freeCount ∧ (s.endDone i o).pending = s.pending := by
  unfold State.endDone
  try dsimp only
  (repeat' split) <;> simp

@[simp] theorem State.endRefused_frame (s : State) (i : OrderIndex) (o : Order) :
    (s.endRefused i o).rp = s.rp ∧ (s.endRefused i o).iu = s.iu ∧ (s.endRefused i o).ge = s.ge ∧
    (s.endRefused i o).ot = s.ot ∧ (s.endRefused i o).mu = s.mu ∧ (s.endRefused i o).timeBase = s.timeBase ∧
    (s.endRefused i o).freeCount = s.freeCount ∧ (s.endRefused i o).pending = s.pending := by
  unfold State.endRefused
  try dsimp only
  (repeat' split) <;> simp

@[simp] theorem State.closeOrder_frame (s : State) (i : OrderIndex) (o : Order) :
    (s.closeOrder i o).rp = s.rp ∧ (s.closeOrder i o).iu = s.iu ∧ (s.closeOrder i o).ge = s.ge ∧
    (s.closeOrder i o).mr = s.mr ∧ (s.closeOrder i o).sm = s.sm ∧ (s.closeOrder i o).mu = s.mu ∧
    (s.closeOrder i o).timeBase = s.timeBase ∧ (s.closeOrder i o).freeCount = s.freeCount ∧
    (s.closeOrder i o).pending = s.pending := by
  unfold State.closeOrder
  try dsimp only
  (repeat' split) <;> simp

@[simp] theorem State.expire_frame (s : State) (i : OrderIndex) (o : Order) :
    (s.expire i o).rp = s.rp ∧ (s.expire i o).iu = s.iu ∧ (s.expire i o).ge = s.ge ∧
    (s.expire i o).timeBase = s.timeBase ∧ (s.expire i o).freeCount = s.freeCount ∧
    (s.expire i o).pending = s.pending := by
  unfold State.expire
  try dsimp only
  (repeat' split) <;> simp

@[simp] theorem State.applyGeometry_frame (s : State) (old new : BankSettings) :
    (s.applyGeometry old new).rp = s.rp ∧ (s.applyGeometry old new).iu = s.iu ∧
    (s.applyGeometry old new).ge = s.ge ∧ (s.applyGeometry old new).mr = s.mr ∧
    (s.applyGeometry old new).ot = s.ot ∧ (s.applyGeometry old new).mu = s.mu ∧
    (s.applyGeometry old new).timeBase = s.timeBase ∧ (s.applyGeometry old new).freeCount = s.freeCount ∧
    (s.applyGeometry old new).pending = s.pending := by
  unfold State.applyGeometry
  try dsimp only
  (repeat' split) <;> simp

@[simp] theorem State.clearRuns_frame (s : State) :
    (s.clearRuns).rp = s.rp ∧ (s.clearRuns).iu = s.iu ∧ (s.clearRuns).ge = s.ge ∧ (s.clearRuns).sm = s.sm ∧
    (s.clearRuns).pe = s.pe ∧ (s.clearRuns).ot = s.ot ∧ (s.clearRuns).mu = s.mu ∧
    (s.clearRuns).timeBase = s.timeBase ∧ (s.clearRuns).freeCount = s.freeCount ∧
    (s.clearRuns).pending = s.pending := by
  unfold State.clearRuns
  try dsimp only
  (repeat' split) <;> simp

@[simp] theorem State.rereadPriorities_frame (s : State) :
    (s.rereadPriorities).rp = s.rp ∧ (s.rereadPriorities).iu = s.iu ∧ (s.rereadPriorities).ge = s.ge ∧
    (s.rereadPriorities).mr = s.mr ∧ (s.rereadPriorities).sm = s.sm ∧ (s.rereadPriorities).ot = s.ot ∧
    (s.rereadPriorities).mu = s.mu ∧ (s.rereadPriorities).timeBase = s.timeBase ∧
    (s.rereadPriorities).freeCount = s.freeCount ∧ (s.rereadPriorities).pending = s.pending := by
  unfold State.rereadPriorities
  try dsimp only
  (repeat' split) <;> simp

@[simp] theorem State.commitEffects_frame (s : State) (mask : BitVec 5) (old : Tables) :
    (s.commitEffects mask old).ot = s.ot ∧ (s.commitEffects mask old).mu = s.mu ∧
    (s.commitEffects mask old).timeBase = s.timeBase ∧ (s.commitEffects mask old).freeCount = s.freeCount ∧
    (s.commitEffects mask old).pending = s.pending := by
  unfold State.commitEffects
  try dsimp only
  (repeat' split) <;> simp

@[simp] theorem State.takeCommit_frame (s : State) (mask : BitVec 5) :
    (s.takeCommit mask).ot = s.ot ∧ (s.takeCommit mask).timeBase = s.timeBase ∧
    (s.takeCommit mask).freeCount = s.freeCount ∧ (s.takeCommit mask).pending = s.pending := by
  unfold State.takeCommit
  try dsimp only
  (repeat' split) <;> simp

@[simp] theorem State.settleCommit_frame (s : State) (mask : BitVec 5) :
    (s.settleCommit mask).ot = s.ot ∧ (s.settleCommit mask).timeBase = s.timeBase ∧
    (s.settleCommit mask).freeCount = s.freeCount ∧ (s.settleCommit mask).pending = s.pending := by
  unfold State.settleCommit
  try dsimp only
  (repeat' split) <;> simp

@[simp] theorem State.settleIfSafe_frame (s : State) :
    (s.settleIfSafe).ot = s.ot ∧ (s.settleIfSafe).timeBase = s.timeBase ∧
    (s.settleIfSafe).freeCount = s.freeCount ∧ (s.settleIfSafe).pending = s.pending := by
  unfold State.settleIfSafe
  try dsimp only
  (repeat' split) <;> simp

@[simp] theorem State.originate_frame (s : State) (k d : Byte) (body : List Byte) :
    (s.originate k d body).iu = s.iu ∧ (s.originate k d body).ge = s.ge ∧ (s.originate k d body).mr = s.mr ∧
    (s.originate k d body).sm = s.sm ∧ (s.originate k d body).pe = s.pe ∧ (s.originate k d body).ot = s.ot ∧
    (s.originate k d body).mu = s.mu ∧ (s.originate k d body).timeBase = s.timeBase ∧
    (s.originate k d body).freeCount = s.freeCount ∧ (s.originate k d body).pending = s.pending := by
  unfold State.originate
  try dsimp only
  (repeat' split) <;> simp

@[simp] theorem State.admitReply_frame (s : State) :
    (s.admitReply).iu = s.iu ∧ (s.admitReply).ge = s.ge ∧ (s.admitReply).mr = s.mr ∧
    (s.admitReply).sm = s.sm ∧ (s.admitReply).pe = s.pe ∧ (s.admitReply).ot = s.ot ∧
    (s.admitReply).timeBase = s.timeBase ∧ (s.admitReply).freeCount = s.freeCount ∧
    (s.admitReply).pending = s.pending := by
  unfold State.admitReply
  try dsimp only
  (repeat' split) <;> simp

@[simp] theorem State.admitOrder_frame (s : State) (x : OrderIndex × Order) :
    (s.admitOrder x).iu = s.iu ∧ (s.admitOrder x).ge = s.ge ∧ (s.admitOrder x).mr = s.mr ∧
    (s.admitOrder x).sm = s.sm ∧ (s.admitOrder x).pe = s.pe ∧ (s.admitOrder x).mu = s.mu ∧
    (s.admitOrder x).timeBase = s.timeBase ∧ (s.admitOrder x).freeCount = s.freeCount ∧
    (s.admitOrder x).pending = s.pending := by
  unfold State.admitOrder
  try dsimp only
  (repeat' split) <;> simp

@[simp] theorem State.admitVerdict_frame (s : State) (i : ModuleIndex) :
    (s.admitVerdict i).iu = s.iu ∧ (s.admitVerdict i).ge = s.ge ∧ (s.admitVerdict i).sm = s.sm ∧
    (s.admitVerdict i).ot = s.ot ∧ (s.admitVerdict i).mu = s.mu ∧ (s.admitVerdict i).timeBase = s.timeBase ∧
    (s.admitVerdict i).freeCount = s.freeCount ∧ (s.admitVerdict i).pending = s.pending := by
  unfold State.admitVerdict
  try dsimp only
  (repeat' split) <;> simp

@[simp] theorem State.admitNotice_frame (s : State) (n : Notice) :
    (s.admitNotice n).iu = s.iu ∧ (s.admitNotice n).ge = s.ge ∧ (s.admitNotice n).mr = s.mr ∧
    (s.admitNotice n).sm = s.sm ∧ (s.admitNotice n).pe = s.pe ∧ (s.admitNotice n).ot = s.ot ∧
    (s.admitNotice n).timeBase = s.timeBase ∧ (s.admitNotice n).freeCount = s.freeCount ∧
    (s.admitNotice n).pending = s.pending := by
  unfold State.admitNotice
  try dsimp only
  (repeat' split) <;> simp

@[simp] theorem State.admitClaim_frame (s : State) (c : Claim) :
    (s.admitClaim c).iu = s.iu ∧ (s.admitClaim c).ge = s.ge ∧ (s.admitClaim c).sm = s.sm ∧
    (s.admitClaim c).timeBase = s.timeBase ∧ (s.admitClaim c).freeCount = s.freeCount ∧ (s.admitClaim c).pending = s.pending := by
  unfold State.admitClaim
  try dsimp only
  (repeat' split) <;> simp

@[simp] theorem State.enterLocked_frame (s : State) :
    (s.enterLocked).iu = s.iu ∧ (s.enterLocked).ge = s.ge ∧ (s.enterLocked).mr = s.mr ∧
    (s.enterLocked).sm = s.sm ∧ (s.enterLocked).pe = s.pe ∧ (s.enterLocked).ot = s.ot ∧
    (s.enterLocked).timeBase = s.timeBase ∧ (s.enterLocked).freeCount = s.freeCount ∧
    (s.enterLocked).pending = s.pending := by
  unfold State.enterLocked
  try dsimp only
  (repeat' split) <;> simp

@[simp] theorem State.toHunt_frame (s : State) :
    (s.toHunt).iu = s.iu ∧ (s.toHunt).ge = s.ge ∧ (s.toHunt).mr = s.mr ∧ (s.toHunt).sm = s.sm ∧
    (s.toHunt).pe = s.pe ∧ (s.toHunt).ot = s.ot ∧ (s.toHunt).mu = s.mu ∧ (s.toHunt).timeBase = s.timeBase ∧
    (s.toHunt).freeCount = s.freeCount ∧ (s.toHunt).pending = s.pending := by
  unfold State.toHunt
  try dsimp only
  (repeat' split) <;> simp

@[simp] theorem State.confirmFill_frame (s : State) :
    (s.confirmFill).iu = s.iu ∧ (s.confirmFill).ge = s.ge ∧ (s.confirmFill).mr = s.mr ∧
    (s.confirmFill).sm = s.sm ∧ (s.confirmFill).pe = s.pe ∧ (s.confirmFill).ot = s.ot ∧
    (s.confirmFill).timeBase = s.timeBase ∧ (s.confirmFill).freeCount = s.freeCount ∧
    (s.confirmFill).pending = s.pending := by
  unfold State.confirmFill
  try dsimp only
  (repeat' split) <;> simp

@[simp] theorem State.discardAssembly_frame (s : State) :
    (s.discardAssembly).iu = s.iu ∧ (s.discardAssembly).ge = s.ge ∧ (s.discardAssembly).mr = s.mr ∧
    (s.discardAssembly).sm = s.sm ∧ (s.discardAssembly).pe = s.pe ∧ (s.discardAssembly).ot = s.ot ∧
    (s.discardAssembly).mu = s.mu ∧ (s.discardAssembly).timeBase = s.timeBase ∧
    (s.discardAssembly).freeCount = s.freeCount ∧ (s.discardAssembly).pending = s.pending := by
  unfold State.discardAssembly
  try dsimp only
  (repeat' split) <;> simp

@[simp] theorem State.loseSync_frame (s : State) :
    (s.loseSync).iu = s.iu ∧ (s.loseSync).ge = s.ge ∧ (s.loseSync).mr = s.mr ∧ (s.loseSync).sm = s.sm ∧
    (s.loseSync).pe = s.pe ∧ (s.loseSync).ot = s.ot ∧ (s.loseSync).mu = s.mu ∧
    (s.loseSync).timeBase = s.timeBase ∧ (s.loseSync).freeCount = s.freeCount ∧
    (s.loseSync).pending = s.pending := by
  unfold State.loseSync
  try dsimp only
  (repeat' split) <;> simp

@[simp] theorem State.forward_frame (s : State) (f : Frame) :
    (s.forward f).iu = s.iu ∧ (s.forward f).ge = s.ge ∧ (s.forward f).mr = s.mr ∧ (s.forward f).sm = s.sm ∧
    (s.forward f).pe = s.pe ∧ (s.forward f).ot = s.ot ∧ (s.forward f).mu = s.mu ∧
    (s.forward f).timeBase = s.timeBase ∧ (s.forward f).freeCount = s.freeCount ∧
    (s.forward f).pending = s.pending := by
  unfold State.forward
  try dsimp only
  (repeat' split) <;> simp

@[simp] theorem State.deliverCommand_frame (s : State) (f : Frame) :
    (s.deliverCommand f).iu = s.iu ∧ (s.deliverCommand f).ge = s.ge ∧ (s.deliverCommand f).mr = s.mr ∧
    (s.deliverCommand f).sm = s.sm ∧ (s.deliverCommand f).pe = s.pe ∧ (s.deliverCommand f).ot = s.ot ∧
    (s.deliverCommand f).timeBase = s.timeBase ∧ (s.deliverCommand f).freeCount = s.freeCount ∧
    (s.deliverCommand f).pending = s.pending := by
  unfold State.deliverCommand
  try dsimp only
  (repeat' split) <;> simp

@[simp] theorem State.classify_frame (s : State) (f : Frame) :
    (s.classify f).ge = s.ge ∧ (s.classify f).sm = s.sm ∧ (s.classify f).pe = s.pe ∧
    (s.classify f).ot = s.ot ∧ (s.classify f).timeBase = s.timeBase ∧
    (s.classify f).freeCount = s.freeCount ∧ (s.classify f).pending = s.pending := by
  unfold State.classify
  try dsimp only
  (repeat' split) <;> simp

@[simp] theorem State.endFrame_frame (s : State) :
    (s.endFrame).ge = s.ge ∧ (s.endFrame).sm = s.sm ∧ (s.endFrame).pe = s.pe ∧ (s.endFrame).ot = s.ot ∧
    (s.endFrame).timeBase = s.timeBase ∧ (s.endFrame).freeCount = s.freeCount ∧
    (s.endFrame).pending = s.pending := by
  unfold State.endFrame
  try dsimp only
  (repeat' split) <;> simp

@[simp] theorem State.frameLogic_frame (s : State) (c : CharacterSort) :
    (s.frameLogic c).ge = s.ge ∧ (s.frameLogic c).sm = s.sm ∧ (s.frameLogic c).pe = s.pe ∧
    (s.frameLogic c).ot = s.ot ∧ (s.frameLogic c).timeBase = s.timeBase ∧
    (s.frameLogic c).freeCount = s.freeCount ∧ (s.frameLogic c).pending = s.pending := by
  unfold State.frameLogic
  try dsimp only
  (repeat' split) <;> simp

@[simp] theorem State.lockedCharacter_frame (s : State) (c : Character) :
    (s.lockedCharacter c).ge = s.ge ∧ (s.lockedCharacter c).sm = s.sm ∧ (s.lockedCharacter c).pe = s.pe ∧
    (s.lockedCharacter c).ot = s.ot ∧ (s.lockedCharacter c).timeBase = s.timeBase ∧
    (s.lockedCharacter c).freeCount = s.freeCount ∧ (s.lockedCharacter c).pending = s.pending := by
  unfold State.lockedCharacter
  try dsimp only
  (repeat' split) <;> simp

@[simp] theorem State.linkLogic_frame (s : State) (c : Character) :
    (s.linkLogic c).ge = s.ge ∧ (s.linkLogic c).sm = s.sm ∧ (s.linkLogic c).pe = s.pe ∧
    (s.linkLogic c).ot = s.ot ∧ (s.linkLogic c).timeBase = s.timeBase ∧
    (s.linkLogic c).freeCount = s.freeCount ∧ (s.linkLogic c).pending = s.pending := by
  unfold State.linkLogic
  try dsimp only
  (repeat' split) <;> simp

@[simp] theorem State.deliverCharacter_frame (s : State) (c : Character) :
    (s.deliverCharacter c).ge = s.ge ∧ (s.deliverCharacter c).sm = s.sm ∧ (s.deliverCharacter c).pe = s.pe ∧
    (s.deliverCharacter c).ot = s.ot ∧ (s.deliverCharacter c).timeBase = s.timeBase ∧
    (s.deliverCharacter c).freeCount = s.freeCount ∧ (s.deliverCharacter c).pending = s.pending := by
  unfold State.deliverCharacter
  try dsimp only
  (repeat' split) <;> simp

@[simp] theorem State.receive_frame (s : State) (c : LineCharacter) :
    (s.receive c).ge = s.ge ∧ (s.receive c).sm = s.sm ∧ (s.receive c).pe = s.pe ∧ (s.receive c).ot = s.ot ∧
    (s.receive c).timeBase = s.timeBase ∧ (s.receive c).freeCount = s.freeCount ∧
    (s.receive c).pending = s.pending := by
  unfold State.receive
  try dsimp only
  (repeat' split) <;> simp

@[simp] theorem State.admitClaims_frame (n : Nat) (s : State) :
    (State.admitClaims n s).iu = s.iu ∧ (State.admitClaims n s).ge = s.ge ∧
    (State.admitClaims n s).sm = s.sm ∧ (State.admitClaims n s).timeBase = s.timeBase ∧
    (State.admitClaims n s).freeCount = s.freeCount ∧ (State.admitClaims n s).pending = s.pending := by
  induction n generalizing s with
  | zero => simp [State.admitClaims]
  | succ n ih =>
    unfold State.admitClaims
    (repeat' split) <;> simp [ih]

@[simp] theorem State.endSending_frame (s : State) :
    (s.endSending).iu = s.iu ∧ (s.endSending).ge = s.ge ∧ (s.endSending).sm = s.sm ∧
    (s.endSending).timeBase = s.timeBase ∧ (s.endSending).freeCount = s.freeCount ∧
    (s.endSending).pending = s.pending := by
  unfold State.endSending
  try dsimp only
  (repeat' split) <;> simp

@[simp] theorem State.decideNext_frame (s : State) :
    (s.decideNext).iu = s.iu ∧ (s.decideNext).ge = s.ge ∧ (s.decideNext).mr = s.mr ∧
    (s.decideNext).sm = s.sm ∧ (s.decideNext).pe = s.pe ∧ (s.decideNext).ot = s.ot ∧
    (s.decideNext).mu = s.mu ∧ (s.decideNext).timeBase = s.timeBase ∧
    (s.decideNext).freeCount = s.freeCount ∧ (s.decideNext).pending = s.pending := by
  unfold State.decideNext
  try dsimp only
  (repeat' split) <;> simp

end

end Sys2Proof.Machine
end

