-- ==== Sys2Proof/Laws/Selection.lean ====
section
/-! SUPPORT. What a selection does, and that none is due after one (R143 to R145). -/

namespace Sys2Proof.Machine

theorem oldestReady_isSome (qs : List Request) :
    (oldestReady qs).isSome = true ↔ ∃ q ∈ qs, q.status = .ready := by
  simp [oldestReady, List.find?_isSome]

theorem highestReady_isSome (qs : List Request) :
    (highestReady qs).isSome = true ↔ ∃ q ∈ qs, q.status = .ready := by
  induction qs with
  | nil => simp [highestReady]
  | cons q qs ih =>
    unfold highestReady
    cases h : highestReady qs with
    | none =>
      have hn : ¬ ∃ q ∈ qs, q.status = .ready := by rw [← ih, h]; simp
      by_cases hq : q.status = .ready
      · simp [hq]
      · simp only [hq, if_false, List.mem_cons, exists_eq_or_imp, false_or]
        simpa using hn
    | some b =>
      have hs : ∃ q ∈ qs, q.status = .ready := by rw [← ih, h]; simp
      dsimp only
      split <;> simp [hs]

theorem selected_isSome (p : Policy) (qs : List Request) :
    (selected p qs).isSome = true ↔ ∃ q ∈ qs, q.status = .ready := by
  cases p <;> simp only [selected, oldestReady_isSome, highestReady_isSome]

theorem highestReady_mem {qs : List Request} {q : Request} (h : highestReady qs = some q) :
    q ∈ qs ∧ q.status = .ready := by
  induction qs generalizing q with
  | nil => simp [highestReady] at h
  | cons r rs ih =>
    unfold highestReady at h
    split at h
    · split at h
      · rename_i hr; obtain rfl := Option.some.inj h; exact ⟨by simp, hr⟩
      · cases h
    · rename_i b hb
      split at h
      · rename_i hr; obtain rfl := Option.some.inj h; exact ⟨by simp, hr.1⟩
      · obtain rfl := Option.some.inj h; exact ⟨by simp [ih hb], (ih hb).2⟩

/-- What is selected is a READY request of the queue (R144). -/
theorem selected_mem {p : Policy} {qs : List Request} {q : Request} (h : selected p qs = some q) :
    q ∈ qs ∧ q.status = .ready := by
  cases p with
  | arrival =>
    have h' : qs.find? (fun q => decide (q.status = .ready)) = some q := h
    exact ⟨List.mem_of_find?_eq_some h', by simpa using List.find?_some h'⟩
  | priority => exact highestReady_mem h

theorem freeOrder_isSome (s : State) : s.freeOrder.isSome = true ↔ ∃ o, s.order o = .free := by
  simp [State.freeOrder, lowest_isSome, State.order]

/-- The test the part makes is the conditions of R143. -/
theorem selectionDue_iff (s : State) : s.selectionDue = true ↔ s.selectionConditions := by
  simp only [State.selectionDue, State.selectionConditions, Bool.and_eq_true, decide_eq_true_eq,
    Option.isNone_iff_eq_none, freeOrder_isSome, oldestReady_isSome]
  tauto

/-- A selection that is not due changes nothing. -/
theorem select_not_due {s : State} (h : ¬ s.selectionConditions) (p : Policy) : s.select p = s := by
  rw [← selectionDue_iff] at h
  simp [State.select, h]

/-- A selection that is due takes the request the policy picks and the lowest FREE record (R143 to R145). -/
theorem select_due {s : State} (h : s.selectionConditions) (p : Policy) :
    ∃ q o, selected p s.pe.requests = some q ∧ s.freeOrder = some o ∧
      s.select p = ((s.setOrder o (.reservedForChoice q.slot)).updateRequest q.slot
        fun q => { q with status := .selected }).setChoice (some (s.beginChoice q o)) := by
  have hd := (selectionDue_iff s).mpr h
  obtain ⟨_, _, _, hf, hr⟩ := h
  obtain ⟨o, ho⟩ := Option.isSome_iff_exists.mp ((freeOrder_isSome s).mpr hf)
  obtain ⟨q, hq⟩ := Option.isSome_iff_exists.mp ((selected_isSome p _).mpr hr)
  exact ⟨q, o, hq, ho, by simp [State.select, hd, hq, ho]⟩

/-- After a selection none is due. -/
theorem select_conditions (s : State) (p : Policy) : ¬ (s.select p).selectionConditions := by
  by_cases h : s.selectionConditions
  · obtain ⟨q, o, _, _, e⟩ := select_due h p
    rw [e]
    rintro ⟨_, hc, _⟩
    simp at hc
  · rwa [select_not_due h]

theorem selectIfDue_conditions (s : State) : ¬ s.selectIfDue.selectionConditions := select_conditions s _

end Sys2Proof.Machine
end

