-- ==== Sys2Proof/Laws/Inner.lean ====
section
/-! SUPPORT. What each shared operation keeps inside the blocks it touches: whether a choice is in progress, the
evaluation in progress, all of the Ring Port but its counters and VERDICT claims, all of the Management Unit
but its notices. -/

namespace Sys2Proof.Machine

section
set_option linter.unusedTactic false
set_option linter.unnecessarySeqFocus false
set_option linter.unusedSimpArgs false

/-- The Ring Port but for its counters and its VERDICT claims. -/
def RingPort.core (r : RingPort) : RingPort := { r with counters := .zero, verdictClaims := [] }

/-- The Management Unit but for its notices. -/
def ManagementUnit.core (m : ManagementUnit) : ManagementUnit := { m with notices := [] }

/-- The Management Unit but for its notices and its command input queue. -/
def ManagementUnit.still (m : ManagementUnit) : ManagementUnit := { m with notices := [], commandQueue := [] }

@[simp] theorem ManagementUnit.still_notices (m : ManagementUnit) (l : List Notice) :
    ManagementUnit.still { m with notices := l } = m.still := rfl

@[simp] theorem ManagementUnit.still_commands (m : ManagementUnit) (l : List Frame) :
    ManagementUnit.still { m with commandQueue := l } = m.still := rfl

@[simp] theorem RingPort.core_claims (r : RingPort) (l : List ModuleIndex) :
    RingPort.core { r with verdictClaims := l } = r.core := rfl

@[simp] theorem RingPort.core_counters (r : RingPort) (c : Counters) :
    RingPort.core { r with counters := c } = r.core := rfl

@[simp] theorem ManagementUnit.core_notices (m : ManagementUnit) (l : List Notice) :
    ManagementUnit.core { m with notices := l } = m.core := rfl

@[simp] theorem State.updateRequest_inner (s : State) (p : SlotId) (f : Request → Request) :
    (s.updateRequest p f).pe.choice.isSome = s.pe.choice.isSome := by
  unfold State.updateRequest
  try dsimp only
  (repeat' split) <;> simp

@[simp] theorem State.withdraw_inner (s : State) (p : SlotId) :
    (s.withdraw p).pe.choice.isSome = s.pe.choice.isSome := by
  unfold State.withdraw
  try dsimp only
  (repeat' split) <;> simp

@[simp] theorem State.wakeAll_inner (s : State) :
    (s.wakeAll).pe.choice.isSome = s.pe.choice.isSome := by
  unfold State.wakeAll
  try dsimp only
  (repeat' split) <;> simp

@[simp] theorem State.wakeString_inner (s : State) (k : Fin 8) :
    (s.wakeString k).pe.choice.isSome = s.pe.choice.isSome := by
  unfold State.wakeString
  try dsimp only
  (repeat' split) <;> simp

@[simp] theorem State.createRequest_inner (s : State) (p : SlotId) (k : RequestKind) (st : RequestStatus) :
    (s.createRequest p k st).pe.choice.isSome = s.pe.choice.isSome := by
  unfold State.createRequest
  rfl

@[simp] theorem State.raiseFitting_inner (s : State) (p : SlotId) (k : RequestKind) (st : RequestStatus) :
    (s.raiseFitting p k st).pe.choice.isSome = s.pe.choice.isSome := by
  unfold State.raiseFitting
  try dsimp only
  (repeat' split) <;> simp

@[simp] theorem State.raiseRequest_inner (s : State) (p : SlotId) (k : RequestKind) (st : RequestStatus) :
    (s.raiseRequest p k st).pe.choice.isSome = s.pe.choice.isSome := by
  unfold State.raiseRequest
  try dsimp only
  (repeat' split) <;> simp

@[simp] theorem State.markPoolEntry_inner (s : State) :
    (s.markPoolEntry).pe.choice.isSome = s.pe.choice.isSome := by
  unfold State.markPoolEntry
  try dsimp only
  (repeat' split) <;> simp

@[simp] theorem State.markReferences_inner (s : State) (k : Fin 8) :
    (s.markReferences k).pe.choice.isSome = s.pe.choice.isSome := by
  unfold State.markReferences
  try dsimp only
  (repeat' split) <;> simp

@[simp] theorem State.enterPool_inner (s : State) (i : ModuleIndex) :
    (s.enterPool i).pe.choice.isSome = s.pe.choice.isSome := by
  unfold State.enterPool
  try dsimp only
  (repeat' split) <;> simp

@[simp] theorem State.enterPoolWait_inner (s : State) (i : ModuleIndex) :
    (s.enterPoolWait i).pe.choice.isSome = s.pe.choice.isSome := by
  unfold State.enterPoolWait
  try dsimp only
  (repeat' split) <;> simp

@[simp] theorem State.enterPoolOrWait_inner (s : State) (i : ModuleIndex) :
    (s.enterPoolOrWait i).pe.choice.isSome = s.pe.choice.isSome := by
  unfold State.enterPoolOrWait
  try dsimp only
  (repeat' split) <;> simp

@[simp] theorem State.promote_inner (s : State) :
    (s.promote).pe.choice.isSome = s.pe.choice.isSome := by
  unfold State.promote
  try dsimp only
  (repeat' split) <;> simp

@[simp] theorem State.dropFromPool_inner (s : State) (i : ModuleIndex) :
    (s.dropFromPool i).pe.choice.isSome = s.pe.choice.isSome := by
  unfold State.dropFromPool
  try dsimp only
  (repeat' split) <;> simp

@[simp] theorem State.leavePool_inner (s : State) (i : ModuleIndex) :
    (s.leavePool i).pe.choice.isSome = s.pe.choice.isSome := by
  unfold State.leavePool
  try dsimp only
  (repeat' split) <;> simp

@[simp] theorem State.leavePoolWait_inner (s : State) (i : ModuleIndex) :
    (s.leavePoolWait i).pe.choice.isSome = s.pe.choice.isSome := by
  unfold State.leavePoolWait
  try dsimp only
  (repeat' split) <;> simp

@[simp] theorem State.recompute_inner (s : State) (k : Fin 8) :
    (s.recompute k).pe.choice.isSome = s.pe.choice.isSome := by
  unfold State.recompute
  try dsimp only
  (repeat' split) <;> simp

@[simp] theorem State.makeVerdict_inner (s : State) (i : ModuleIndex) (k : VerdictKind) :
    (s.makeVerdict i k).ge.evaluation = s.ge.evaluation ∧ (s.makeVerdict i k).rp.core = s.rp.core := by
  unfold State.makeVerdict
  try dsimp only
  (repeat' split) <;> simp

@[simp] theorem State.goOn_inner (s : State) (i : ModuleIndex) :
    (s.goOn i).pe.choice.isSome = s.pe.choice.isSome := by
  unfold State.goOn
  try dsimp only
  (repeat' split) <;> simp

@[simp] theorem State.abandon_inner (s : State) (i : ModuleIndex) :
    (s.abandon i).ge.evaluation = s.ge.evaluation ∧ (s.abandon i).rp.core = s.rp.core := by
  unfold State.abandon
  try dsimp only
  (repeat' split) <;> simp

@[simp] theorem State.departGraded_inner (s : State) (i : ModuleIndex) :
    (s.departGraded i).pe.choice.isSome = s.pe.choice.isSome := by
  unfold State.departGraded
  try dsimp only
  (repeat' split) <;> simp

@[simp] theorem State.departModule_inner (s : State) (m : ModuleRef) :
    (s.departModule m).pe.choice.isSome = s.pe.choice.isSome ∧
    (s.departModule m).ge.evaluation = s.ge.evaluation ∧ (s.departModule m).rp.core = s.rp.core := by
  unfold State.departModule
  try dsimp only
  (repeat' split) <;> simp

@[simp] theorem State.departFrom_inner (s : State) (b : Bay) (m : ModuleRef) :
    (s.departFrom b m).pe.choice.isSome = s.pe.choice.isSome ∧
    (s.departFrom b m).ge.evaluation = s.ge.evaluation ∧ (s.departFrom b m).rp.core = s.rp.core := by
  unfold State.departFrom
  try dsimp only
  (repeat' split) <;> simp

@[simp] theorem State.departOccupant_inner (s : State) (b : Bay) :
    (s.departOccupant b).pe.choice.isSome = s.pe.choice.isSome ∧
    (s.departOccupant b).ge.evaluation = s.ge.evaluation ∧ (s.departOccupant b).rp.core = s.rp.core := by
  unfold State.departOccupant
  try dsimp only
  (repeat' split) <;> simp

@[simp] theorem State.startSettle_inner (s : State) (m : ModuleRef) :
    (s.startSettle m).ge.evaluation = s.ge.evaluation := by
  unfold State.startSettle
  try dsimp only
  (repeat' split) <;> simp

@[simp] theorem State.completeArrival_inner (s : State) (i : ModuleIndex) (tag : Tag) (c : Fin 16) (b : Bay) :
    (s.completeArrival i tag c b).ge.evaluation = s.ge.evaluation := by
  unfold State.completeArrival
  try dsimp only
  (repeat' split) <;> simp

@[simp] theorem State.releaseForRetest_inner (s : State) (i : ModuleIndex) :
    (s.releaseForRetest i).pe.choice.isSome = s.pe.choice.isSome := by
  unfold State.releaseForRetest
  try dsimp only
  (repeat' split) <;> simp

@[simp] theorem State.arriveTag_inner (s : State) (b : Bay) (tag : Tag) (c : Fin 16) :
    (s.arriveTag b tag c).pe.choice.isSome = s.pe.choice.isSome ∧
    (s.arriveTag b tag c).ge.evaluation = s.ge.evaluation ∧ (s.arriveTag b tag c).mu.core = s.mu.core := by
  unfold State.arriveTag
  try dsimp only
  (repeat' split) <;> simp

@[simp] theorem State.arriveAt_inner (s : State) (b : Bay) (tag : Tag) (c : Fin 16) :
    (s.arriveAt b tag c).pe.choice.isSome = s.pe.choice.isSome ∧
    (s.arriveAt b tag c).ge.evaluation = s.ge.evaluation ∧ (s.arriveAt b tag c).rp.core = s.rp.core ∧
    (s.arriveAt b tag c).mu.core = s.mu.core := by
  unfold State.arriveAt
  try dsimp only
  (repeat' split) <;> simp

@[simp] theorem State.departAt_inner (s : State) (b : Bay) (tag : Option Tag) :
    (s.departAt b tag).pe.choice.isSome = s.pe.choice.isSome ∧
    (s.departAt b tag).ge.evaluation = s.ge.evaluation ∧ (s.departAt b tag).rp.core = s.rp.core := by
  unfold State.departAt
  try dsimp only
  (repeat' split) <;> simp

@[simp] theorem State.enqueueRecord_inner (s : State) (r : MeasurementRecord) :
    (s.enqueueRecord r).rp.core = s.rp.core := by
  unfold State.enqueueRecord
  try dsimp only
  (repeat' split) <;> simp

@[simp] theorem State.admitSample_inner (s : State) (e : Fin 32) (body : List Byte) :
    (s.admitSample e body).rp.core = s.rp.core := by
  unfold State.admitSample
  try dsimp only
  (repeat' split) <;> simp

@[simp] theorem State.takeSample_inner (s : State) (f : Frame) :
    (s.takeSample f).rp.core = s.rp.core := by
  unfold State.takeSample
  try dsimp only
  (repeat' split) <;> simp

@[simp] theorem State.carryStations_inner (s : State) (old new : Vector Station 32) :
    (s.carryStations old new).pe.choice.isSome = s.pe.choice.isSome ∧
    (s.carryStations old new).ge.evaluation = s.ge.evaluation ∧ (s.carryStations old new).rp.core = s.rp.core := by
  unfold State.carryStations
  have h := fun l u => foldl_keeps (fun u : State => (u.pe.choice.isSome, u.ge.evaluation, u.rp.core)) State.departModule (fun _ _ => by simp) l u
  have k := fun l u => foldl_keeps (fun u : State => (u.pe.choice.isSome, u.ge.evaluation, u.rp.core)) State.moveOccupant (fun _ _ => by simp) l u
  simp only [Prod.mk.injEq] at h k
  simp [h, k]

@[simp] theorem State.endTest_inner (s : State) (i : ModuleIndex) :
    (s.endTest i).ge.evaluation = s.ge.evaluation ∧ (s.endTest i).rp.core = s.rp.core := by
  unfold State.endTest
  try dsimp only
  (repeat' split) <;> simp

@[simp] theorem State.regradeWorse_inner (s : State) (i : ModuleIndex) (p : SlotId) (c : PairingClass) :
    (s.regradeWorse i p c).pe.choice.isSome = s.pe.choice.isSome := by
  unfold State.regradeWorse
  try dsimp only
  (repeat' split) <;> simp

@[simp] theorem State.regradeReject_inner (s : State) (i : ModuleIndex) (p : SlotId) :
    (s.regradeReject i p).pe.choice.isSome = s.pe.choice.isSome := by
  unfold State.regradeReject
  try dsimp only
  (repeat' split) <;> simp

@[simp] theorem State.regradeRecovered_inner (s : State) (i : ModuleIndex) (p : SlotId) :
    (s.regradeRecovered i p).pe.choice.isSome = s.pe.choice.isSome := by
  unfold State.regradeRecovered
  try dsimp only
  (repeat' split) <;> simp

@[simp] theorem State.regrade_inner (s : State) (i : ModuleIndex) (p : SlotId) :
    (s.regrade i p).pe.choice.isSome = s.pe.choice.isSome := by
  unfold State.regrade
  try dsimp only
  (repeat' split) <;> simp

@[simp] theorem State.afterResolution_inner (s : State) (i : ModuleIndex) :
    (s.afterResolution i).pe.choice.isSome = s.pe.choice.isSome ∧
    (s.afterResolution i).ge.evaluation = s.ge.evaluation ∧ (s.afterResolution i).rp.core = s.rp.core := by
  unfold State.afterResolution
  try dsimp only
  (repeat' split) <;> simp

@[simp] theorem State.resolve_inner (s : State) (i : ModuleIndex) :
    (s.resolve i).pe.choice.isSome = s.pe.choice.isSome ∧ (s.resolve i).ge.evaluation = s.ge.evaluation ∧
    (s.resolve i).rp.core = s.rp.core := by
  unfold State.resolve
  try dsimp only
  (repeat' split) <;> simp

@[simp] theorem State.tellStringMap_inner (s : State) (e : Evaluation) (x : Option Nat) (l : Location) :
    (s.tellStringMap e x l).pe.choice.isSome = s.pe.choice.isSome := by
  unfold State.tellStringMap
  try dsimp only
  (repeat' split) <;> simp

@[simp] theorem State.applyCompletion_inner (s : State) (e : Evaluation) :
    (s.applyCompletion e).pe.choice.isSome = s.pe.choice.isSome ∧
    (s.applyCompletion e).ge.evaluation = s.ge.evaluation ∧ (s.applyCompletion e).rp.core = s.rp.core ∧
    (s.applyCompletion e).mu.core = s.mu.core := by
  unfold State.applyCompletion
  try dsimp only
  (repeat' split) <;> simp

@[simp] theorem State.completeEvaluation_inner (s : State) (e : Evaluation) :
    (s.completeEvaluation e).pe.choice.isSome = s.pe.choice.isSome ∧
    (s.completeEvaluation e).rp.core = s.rp.core ∧ (s.completeEvaluation e).mu.core = s.mu.core := by
  unfold State.completeEvaluation
  try dsimp only
  (repeat' split) <;> simp

@[simp] theorem State.measureBay_inner (s : State) (b : Bay) (metric : Metric) (v : Nat) (w : Int) :
    (s.measureBay b metric v w).rp.core = s.rp.core := by
  unfold State.measureBay
  try dsimp only
  (repeat' split) <;> simp

@[simp] theorem State.measureSlot_inner (s : State) (p : SlotId) (metric : Metric) (v : Nat) (w : Int) :
    (s.measureSlot p metric v w).rp.core = s.rp.core := by
  unfold State.measureSlot
  try dsimp only
  (repeat' split) <;> simp

@[simp] theorem State.setSelectedStatus_inner (s : State) (c : Choice) (st : RequestStatus) :
    (s.setSelectedStatus c st).pe.choice.isSome = s.pe.choice.isSome := by
  unfold State.setSelectedStatus
  try dsimp only
  (repeat' split) <;> simp

@[simp] theorem State.discardChoice_inner (s : State) (c : Choice) :
    (s.discardChoice c).pe.choice.isSome = s.pe.choice.isSome := by
  unfold State.discardChoice
  try dsimp only
  (repeat' split) <;> simp

@[simp] theorem State.noCandidate_inner (s : State) (c : Choice) :
    (s.noCandidate c).pe.choice.isSome = s.pe.choice.isSome ∧ (s.noCandidate c).mu.core = s.mu.core := by
  unfold State.noCandidate
  try dsimp only
  (repeat' split) <;> simp

@[simp] theorem State.assign_inner (s : State) (m : ModuleRef) (o : OrderIndex) :
    (s.assign m o).pe.choice.isSome = s.pe.choice.isSome := by
  unfold State.assign
  try dsimp only
  (repeat' split) <;> simp

@[simp] theorem State.assignIncoming_inner (s : State) (w : OrderWork) (o : OrderIndex) :
    (s.assignIncoming w o).pe.choice.isSome = s.pe.choice.isSome := by
  unfold State.assignIncoming
  try dsimp only
  (repeat' split) <;> simp

@[simp] theorem State.applyChoice_inner (s : State) (c : Choice) (w : OrderWork) :
    (s.applyChoice c w).pe.choice.isSome = s.pe.choice.isSome := by
  unfold State.applyChoice
  try dsimp only
  (repeat' split) <;> simp

@[simp] theorem State.afterChoice_inner (s : State) (c : Choice) (w : OrderWork) :
    (s.afterChoice c w).pe.choice.isSome = s.pe.choice.isSome := by
  unfold State.afterChoice
  try dsimp only
  (repeat' split) <;> simp

@[simp] theorem State.completeChoice_inner (s : State) (c : Choice) :
    (s.completeChoice c).mu.core = s.mu.core := by
  unfold State.completeChoice
  try dsimp only
  (repeat' split) <;> simp

@[simp] theorem State.returnToPool_inner (s : State) (m : Option ModuleRef) :
    (s.returnToPool m).pe.choice.isSome = s.pe.choice.isSome := by
  unfold State.returnToPool
  try dsimp only
  (repeat' split) <;> simp

@[simp] theorem State.endDone_inner (s : State) (i : OrderIndex) (o : Order) :
    (s.endDone i o).pe.choice.isSome = s.pe.choice.isSome := by
  unfold State.endDone
  try dsimp only
  (repeat' split) <;> simp

@[simp] theorem State.endRefused_inner (s : State) (i : OrderIndex) (o : Order) :
    (s.endRefused i o).pe.choice.isSome = s.pe.choice.isSome := by
  unfold State.endRefused
  try dsimp only
  (repeat' split) <;> simp

@[simp] theorem State.expire_inner (s : State) (i : OrderIndex) (o : Order) :
    (s.expire i o).mu.core = s.mu.core := by
  unfold State.expire
  try dsimp only
  (repeat' split) <;> simp

@[simp] theorem State.applyGeometry_inner (s : State) (old new : BankSettings) :
    (s.applyGeometry old new).pe.choice.isSome = s.pe.choice.isSome := by
  unfold State.applyGeometry
  rfl

@[simp] theorem State.rereadPriorities_inner (s : State) :
    (s.rereadPriorities).pe.choice.isSome = s.pe.choice.isSome := by
  unfold State.rereadPriorities
  try dsimp only
  (repeat' split) <;> simp

@[simp] theorem State.commitEffects_inner (s : State) (mask : BitVec 5) (old : Tables) :
    (s.commitEffects mask old).pe.choice.isSome = s.pe.choice.isSome ∧
    (s.commitEffects mask old).ge.evaluation = s.ge.evaluation ∧
    (s.commitEffects mask old).rp.core = s.rp.core := by
  unfold State.commitEffects
  try dsimp only
  (repeat' split) <;> simp

@[simp] theorem State.takeCommit_inner (s : State) (mask : BitVec 5) :
    (s.takeCommit mask).pe.choice.isSome = s.pe.choice.isSome ∧
    (s.takeCommit mask).ge.evaluation = s.ge.evaluation ∧ (s.takeCommit mask).rp.core = s.rp.core := by
  unfold State.takeCommit
  try dsimp only
  (repeat' split) <;> simp

@[simp] theorem State.settleCommit_inner (s : State) (mask : BitVec 5) :
    (s.settleCommit mask).pe.choice.isSome = s.pe.choice.isSome ∧
    (s.settleCommit mask).ge.evaluation = s.ge.evaluation ∧ (s.settleCommit mask).rp.core = s.rp.core := by
  unfold State.settleCommit
  try dsimp only
  (repeat' split) <;> simp

@[simp] theorem State.settleIfSafe_inner (s : State) :
    (s.settleIfSafe).pe.choice.isSome = s.pe.choice.isSome ∧
    (s.settleIfSafe).ge.evaluation = s.ge.evaluation ∧ (s.settleIfSafe).rp.core = s.rp.core := by
  unfold State.settleIfSafe
  try dsimp only
  (repeat' split) <;> simp

@[simp] theorem State.admitVerdict_inner (s : State) (i : ModuleIndex) :
    (s.admitVerdict i).pe.choice.isSome = s.pe.choice.isSome := by
  unfold State.admitVerdict
  try dsimp only
  (repeat' split) <;> simp

@[simp] theorem State.admitNotice_inner (s : State) (n : Notice) :
    (s.admitNotice n).mu.core = s.mu.core := by
  unfold State.admitNotice
  try dsimp only
  (repeat' split) <;> simp

@[simp] theorem State.admitClaim_inner (s : State) (c : Claim) :
    (s.admitClaim c).mu.core = s.mu.core := by
  unfold State.admitClaim
  try dsimp only
  (repeat' split) <;> simp

@[simp] theorem State.enterLocked_inner (s : State) :
    (s.enterLocked).mu.still = s.mu.still := by
  unfold State.enterLocked
  try dsimp only
  (repeat' split) <;> simp

@[simp] theorem State.confirmFill_inner (s : State) :
    (s.confirmFill).mu.still = s.mu.still := by
  unfold State.confirmFill
  try dsimp only
  (repeat' split) <;> simp

@[simp] theorem State.deliverCommand_inner (s : State) (f : Frame) :
    (s.deliverCommand f).mu.still = s.mu.still := by
  unfold State.deliverCommand
  try dsimp only
  (repeat' split) <;> simp

@[simp] theorem State.classify_inner (s : State) (f : Frame) :
    (s.classify f).mu.still = s.mu.still := by
  unfold State.classify
  try dsimp only
  (repeat' split) <;> simp

@[simp] theorem State.endFrame_inner (s : State) :
    (s.endFrame).mu.still = s.mu.still := by
  unfold State.endFrame
  try dsimp only
  (repeat' split) <;> simp

@[simp] theorem State.frameLogic_inner (s : State) (c : CharacterSort) :
    (s.frameLogic c).mu.still = s.mu.still := by
  unfold State.frameLogic
  try dsimp only
  (repeat' split) <;> simp

@[simp] theorem State.lockedCharacter_inner (s : State) (c : Character) :
    (s.lockedCharacter c).mu.still = s.mu.still := by
  unfold State.lockedCharacter
  try dsimp only
  (repeat' split) <;> simp

@[simp] theorem State.linkLogic_inner (s : State) (c : Character) :
    (s.linkLogic c).mu.still = s.mu.still := by
  unfold State.linkLogic
  try dsimp only
  (repeat' split) <;> simp

@[simp] theorem State.deliverCharacter_inner (s : State) (c : Character) :
    (s.deliverCharacter c).mu.still = s.mu.still := by
  unfold State.deliverCharacter
  try dsimp only
  (repeat' split) <;> simp

@[simp] theorem State.receive_inner (s : State) (c : LineCharacter) :
    (s.receive c).mu.still = s.mu.still := by
  unfold State.receive
  try dsimp only
  (repeat' split) <;> simp

@[simp] theorem State.admitClaims_inner (n : Nat) (s : State) :
    (State.admitClaims n s).mu.core = s.mu.core := by
  induction n generalizing s with
  | zero => simp [State.admitClaims]
  | succ n ih =>
    unfold State.admitClaims
    (repeat' split) <;> simp [ih]

end

end Sys2Proof.Machine
end

