-- ==== Sys2Proof/Laws/Commands.lean ====
section
/-! SUPPORT. The shape of a command's execution: what holds of the state it was taken in, of what its meaning
leaves and through the REPLY holds after it (R187, R188); and the REPLY of a command ready to be taken. -/

namespace Sys2Proof.Machine

@[simp] theorem offerReply_frame (f : Frame) (a : Answer) :
    (offerReply f a).rp = a.state.rp ∧ (offerReply f a).iu = a.state.iu ∧ (offerReply f a).ge = a.state.ge ∧
    (offerReply f a).mr = a.state.mr ∧ (offerReply f a).sm = a.state.sm ∧ (offerReply f a).pe = a.state.pe ∧
    (offerReply f a).ot = a.state.ot ∧ (offerReply f a).timeBase = a.state.timeBase ∧
    (offerReply f a).pending = a.state.pending :=
  ⟨rfl, rfl, rfl, rfl, rfl, rfl, rfl, rfl, rfl⟩

/-- A property kept by the take of a command, by its meaning and by the offer of its REPLY is kept by the
command's row. -/
theorem State.execute_keeps (P : State → Prop) (row : CommandRow) (meaning : List Byte → State → Answer)
    (s : State) (h : P s)
    (take : ∀ f rest, s.mu.commandQueue = f :: rest → P (s.setCommands rest))
    (run : ∀ f rest params, s.mu.commandQueue = f :: rest → P (meaning params (s.setCommands rest)).state)
    (offer : ∀ f a, P a.state → P (offerReply f a)) : P (s.execute row meaning) := by
  unfold State.execute
  split
  · rename_i f rest hr hq
    split
    · apply offer
      unfold State.answerCommand
      split
      · split
        · split
          · exact take f rest hq
          · exact run f rest _ hq
        · exact take f rest hq
      · exact take f rest hq
    · exact h
  · exact h

theorem fillIn_known (n : Nat) (l : List Byte) : fillIn n (known l) = l := by
  induction l with
  | nil => rfl
  | cons b l ih => simp only [known, List.map_cons, fillIn] at ih ⊢; rw [ih]

theorem openCount_known (l : List Byte) : openCount (known l) = 0 := by
  induction l with
  | nil => rfl
  | cons b l _ => simp [openCount, known]

theorem known_append (l k : List Byte) : known (l ++ k) = known l ++ known k := by simp [known]

theorem one_eq_known (n : Nat) : one n = known [BitVec.ofNat 8 n] := rfl

/-- The execution of a command that is ready and passes the length check of its row (R187, R188). -/
theorem State.execute_ready {s : State} {f : Frame} {rest : List Frame} {op token : Byte} {params : List Byte}
    (h : CommandReady s f rest op token params) (row : CommandRow) (meaning : List Byte → State → Answer)
    (hrow : rowOf (op :: token :: params) = row) (hlen : lengthFailure row params = none) :
    s.execute row meaning = offerReply f (meaning params (s.setCommands rest)) := by
  have hp : (s.setCommands rest).permits f.source = true := by
    unfold State.permits
    rcases h.permitted with hc | hc <;> simp [State.setCommands, hc]
  simp [State.execute, h.replied, h.head, h.body, hrow, State.answerCommand, hp, hlen]

/-- The REPLY of an answer whose data the manual states in full. -/
theorem offerReply_known {f : Frame} {op token : Byte} {params : List Byte} (hb : f.body = op :: token :: params)
    (t : State) (st : Status) (d : List Byte) :
    offerReply f { state := t, status := st, data := known d } =
      t.offered f (op :: token :: BitVec.ofNat 8 st.code :: d) := by
  simp [offerReply, State.offered, hb, echo, fillIn_known, openCount_known]

end Sys2Proof.Machine
end

