-- ==== Sys2Proof/Laws/Clock.lean ====
section
/-! SUPPORT. What the operations of the part's time base do: when nothing ends before an instant, what an expiry row
does then and otherwise, and what an empty queue lets happen (logs 3 and 4). -/

namespace Sys2Proof.Machine

theorem notBefore_iff {t : Nat} {x : Option Nat} : notBefore t x = true ↔ ∀ e, x = some e → t ≤ e := by
  cases x <;> simp [notBefore]

theorem OrderRecord.deadline_eq_some {r : OrderRecord} {e : Nat} :
    r.deadline = some e ↔ ∃ o, r = .order o ∧ o.stage = .issued e := by
  constructor
  · intro h
    cases r with
    | free => cases h
    | reservedForChoice p => cases h
    | order o =>
      refine ⟨o, rfl, ?_⟩
      change o.stage.deadline = some e at h
      cases hs : o.stage with
      | deferred => rw [hs] at h; cases h
      | issuing => rw [hs] at h; cases h
      | issued t => rw [hs] at h; cases h; rfl
  · rintro ⟨o, rfl, h⟩
    change o.stage.deadline = some e
    rw [h]
    rfl

/-- Every entry of a table satisfies what its list does. -/
theorem all_toList {α : Type} {n : Nat} {p : α → Bool} {v : Vector α n} :
    v.toList.all p = true ↔ ∀ i, p (v.get i) = true := by
  rw [List.all_eq_true]
  constructor
  · intro h i
    exact h _ (by simp [Vector.get, ← Vector.getElem_toList])
  · intro h x hx
    obtain ⟨k, hk, rfl⟩ := List.mem_iff_getElem.mp hx
    have := h ⟨k, by simpa using hk⟩
    simpa [Vector.get] using this

theorem State.noneEndsBefore_iff {s : State} {t : Nat} : s.noneEndsBefore t = true ↔ NothingEndsBefore s t := by
  unfold State.noneEndsBefore
  rw [Bool.and_eq_true, all_toList, all_toList]
  constructor
  · rintro ⟨h, h'⟩
    refine ⟨fun i x hx => notBefore_iff.mp (h i) _ ?_, fun i o e ho he => notBefore_iff.mp (h' i) e ?_⟩
    · exact congrArg timerEnd hx
    · exact OrderRecord.deadline_eq_some.mpr ⟨o, ho, he⟩
  · intro h
    refine ⟨fun i => notBefore_iff.mpr fun e he => ?_, fun i => notBefore_iff.mpr fun e he => ?_⟩
    · obtain ⟨x, hx, rfl⟩ := Option.map_eq_some_iff.mp he
      exact h.timers i x hx
    · obtain ⟨o, ho, he⟩ := OrderRecord.deadline_eq_some.mp he
      exact h.deadlines i o e ho he

/-- A settle timer that nothing ends before expires (R62). -/
theorem State.settleExpiry_due {s : State} {i : ModuleIndex} {x : SettleTimer} (h : s.timer i = some x)
    (hn : NothingEndsBefore s x.expiresAt) : s.settleExpiry i = s.expireTimer i x := by
  simp [State.settleExpiry, h, State.noneEndsBefore_iff.mpr hn]

/-- The deadline of an ISSUED order that nothing ends before elapses (R180, R181). -/
theorem State.orderExpiry_due {s : State} {i : OrderIndex} {o : Order} {t : Nat} (h : s.order i = .order o)
    (hs : o.stage = .issued t) (hn : NothingEndsBefore s t) : s.orderExpiry i = (s.reachTime t).expire i o := by
  simp [State.orderExpiry, h, OrderRecord.order?, State.expireOrder, hs, State.noneEndsBefore_iff.mpr hn]

/-- An empty queue lets a millisecond pass when nothing has elapsed. -/
theorem idle_tick {s : State} (h : NothingEndsBefore s (s.timeBase + 1)) : idle s = s.tick := by
  simp [idle, State.noneEndsBefore_iff.mpr h]

/-- An empty queue lets the first expiry happen when something has elapsed. -/
theorem idle_expiry {s : State} (h : ¬ NothingEndsBefore s (s.timeBase + 1)) : idle s = s.firstExpiry := by
  rw [← State.noneEndsBefore_iff] at h
  rw [idle, if_neg h]

end Sys2Proof.Machine
end

