-- ==== Sys2Proof/Laws/Lookups.lean ====
section
/-! SUPPORT. What the lookups of a command find: the slot two parameters name, the record that holds a tag, a module
in the states a claim expects, a slot's request; the REPLY of an answer with few data; and the order of the pool. -/

namespace Sys2Proof.Machine

/-! ## Slots and modules -/

theorem State.slotNamed_some {s : State} {st po : Byte} {p : SlotId} (h : NamesSlot s st po p) :
    s.slotNamed st po = some p := by
  unfold State.slotNamed
  rw [indexOf_eq_some.mpr h.string, indexOf_eq_some.mpr h.position]
  simp [State.slotInUse, inUse, h.inUse.1, h.inUse.2]

theorem State.slotNamed_none {s : State} {st po : Byte} (h : ∀ p, ¬ NamesSlot s st po p) :
    s.slotNamed st po = none := by
  unfold State.slotNamed
  split
  · rename_i i p h1 h2
    split
    · rename_i hu
      simp only [State.slotInUse, inUse, Bool.and_eq_true, decide_eq_true_eq] at hu
      exact absurd ⟨indexOf_eq_some.mp h1, indexOf_eq_some.mp h2, hu⟩ (h ⟨i, p⟩)
    · rfl
  · rfl

theorem State.findTag_some {s : State} {tag : Tag} {i : ModuleIndex} (h : HoldsTag s tag i) :
    s.findTag tag = some i := by
  have hi := h.held
  cases e : s.findTag tag with
  | none =>
    have := lowest_none.mp e i
    simp only [State.record] at hi
    simp [hi] at this
  | some k =>
    have := (lowest_some e).1
    simp only [Bool.and_eq_true, decide_eq_true_eq] at this
    rw [h.only k this.1 this.2]

theorem State.findTag_none {s : State} {tag : Tag}
    (h : ∀ i, (s.record i).state ≠ .free → (s.record i).tag ≠ tag) : s.findTag tag = none := by
  refine lowest_none.mpr fun j => ?_
  simpa [State.record] using h j

/-- A claim finds its module when the module stands in one of the states expected (R41). -/
theorem State.finds_iff {s : State} {m : ModuleRef} {l : List ModuleState} :
    s.finds m l = true ↔ s.standsIn m l := by
  simp [State.finds, State.standsIn]

/-- A claim that is applied (R41). -/
theorem State.claim_applied {s : State} {m : ModuleRef} {l : List ModuleState} (h : s.standsIn m l)
    (g : ModuleRecord → ModuleRecord) : s.claim m l g = s.setRecord m.index (g (s.record m.index)) := by
  rw [State.claim, State.finds_iff.mpr h, if_pos rfl]

/-- A claim that is declined changes nothing (R41). -/
theorem State.claim_declined {s : State} {m : ModuleRef} {l : List ModuleState} (h : ¬ s.standsIn m l)
    (g : ModuleRecord → ModuleRecord) : s.claim m l g = s := by
  rw [State.claim, if_neg fun hf => h (State.finds_iff.mp hf)]

/-- A change of one record leaves where another module stands. -/
theorem State.standsIn_setRecord {s : State} {m : ModuleRef} {l : List ModuleState} {i : ModuleIndex}
    {r : ModuleRecord} (hi : i ≠ m.index) : (s.setRecord i r).standsIn m l ↔ s.standsIn m l := by
  unfold State.standsIn
  rw [State.record_setRecord_other _ _ _ _ hi]

/-! ## Requests -/

/-- The request of a slot that one entry of the queue names. -/
theorem find_request {before after : List Request} {q : Request} {p : SlotId} (hq : q.slot = p)
    (ho : ∀ x ∈ before ++ after, x.slot ≠ p) :
    (before ++ q :: after).find? (fun q => decide (q.slot = p)) = some q := by
  have hb : before.find? (fun q => decide (q.slot = p)) = none := by
    rw [List.find?_eq_none]
    intro x hx
    simpa using ho x (by simp [hx])
  rw [List.find?_append, hb]
  simp [hq]

/-- A change of the one request of a slot. -/
theorem map_request {before after : List Request} {q : Request} {p : SlotId} (g : Request → Request)
    (hq : q.slot = p) (ho : ∀ x ∈ before ++ after, x.slot ≠ p) :
    (before ++ q :: after).map (fun q => if q.slot = p then g q else q) = before ++ g q :: after := by
  have key : ∀ l : List Request, (∀ x ∈ l, x.slot ≠ p) → l.map (fun q => if q.slot = p then g q else q) = l := by
    intro l hl
    conv_rhs => rw [← List.map_id l]
    refine List.map_congr_left fun x hx => ?_
    simp [hl x hx]
  rw [List.map_append, List.map_cons, key before fun x hx => ho x (by simp [hx]),
    key after fun x hx => ho x (by simp [hx])]
  simp [hq]

theorem Request.woken_eq (q : Request) :
    q.woken = if q.status = .waiting then { q with status := .ready } else q := by
  unfold Request.woken
  cases h : q.status <;> simp

/-! ## Answers with few data -/

theorem offerReply_answer {f : Frame} {op token : Byte} {params : List Byte}
    (hb : f.body = op :: token :: params) (t : State) (st : Status) :
    offerReply f (answer t st) = t.offered f [op, token, BitVec.ofNat 8 st.code] := by
  simpa [answer, known] using offerReply_known hb t st []

theorem offerReply_one {f : Frame} {op token : Byte} {params : List Byte}
    (hb : f.body = op :: token :: params) (t : State) (st : Status) (n : Nat) :
    offerReply f { state := t, status := st, data := one n } =
      t.offered f [op, token, BitVec.ofNat 8 st.code, BitVec.ofNat 8 n] := by
  rw [one_eq_known, offerReply_known hb]

/-! ## The order of the pool -/

/-- The key's comparison is that of its three steps (R128). -/
theorem keyBefore_iff {x y : ModuleRecord} : keyBefore x y = true ↔ GoesBefore x y := by
  have h : ∀ g h : Option Grade, (gradeCode g < gradeCode h ↔ gradePlace g < gradePlace h) ∧
      (gradeCode g = gradeCode h ↔ gradePlace g = gradePlace h) := by
    intro g h
    cases g with
    | none =>
      cases h with
      | none => decide
      | some h => cases h <;> decide
    | some g =>
      cases h with
      | none => cases g <;> decide
      | some h => cases g <;> cases h <;> decide
  simp only [keyBefore, Bool.or_eq_true, Bool.and_eq_true, decide_eq_true_eq, h, GoesBefore]
  cases x.provisional <;> cases y.provisional <;> simp [flagCode]

/-- Insertion parts the list before its first entry that comes after the one inserted (R128). -/
theorem insertOrdered_parts {α : Type} (b : α → α → Bool) (x : α) (l : List α) :
    ∃ before after, l = before ++ after ∧ insertOrdered b x l = before ++ x :: after ∧
      (∀ y ∈ before, b x y = false) ∧ ∀ y ∈ after.head?, b x y = true := by
  induction l with
  | nil => exact ⟨[], [], rfl, rfl, by simp, by simp⟩
  | cons y ys ih =>
    by_cases h : b x y = true
    · exact ⟨[], y :: ys, rfl, by simp [insertOrdered, h], by simp, by simpa using h⟩
    · obtain ⟨before, after, h1, h2, h3, h4⟩ := ih
      exact ⟨y :: before, after, by simp [← h1], by simp [insertOrdered, h, ← h2], by simpa [h] using h3, h4⟩

end Sys2Proof.Machine
end

