-- ==== Sys2Proof/Tests/Slice0.lean ====
section
/-! SUPPORT. Tests of the model on small states, and a witness for the hypotheses of every statement: a state and
operands that meet the hypotheses of a clause together. A hypothesis that only names a value (u = ..., and a reply
or finish given by its equation) is met by that value and is left out. -/

namespace Sys2Proof.Tests

open Sys2Proof Sys2Proof.Machine

set_option Elab.async false

/-! ## A small part -/

/-- A grading rule for CAP in a window, in every class and place. -/
def capRule (low high : Int) (g : Grade) (n : Nat) : GradingRule :=
  { GradingRule.default with
    valid := true, originMask := 0xFFFF#16, windowLow := low, windowHigh := high, grade := g, confirm := some n }

/-- A valid Station Table entry. -/
def station (address : Byte) (role : Role) (string : Fin 8) (base : Fin 16) (channels : Nat) : Station :=
  { valid := true, address := address, role := role, string := string, basePosition := base
    channelCount := channels }

/-- The class of the worked examples 8.7 and 8.8 (08): minimum C, tolerances 100 and 50, weights 2 and 3. -/
def demoClass : PairingClass :=
  { minimum := .c, capTolerance := 100, resTolerance := 50, capWeight := 2, resWeight := 3, referenceMinimum := 3
    flags := 0b10100000#8, fillPriority := 1, replacePriority := 2, watchConfirm := 2 }

/-- Tables with a TEST-BAY, a BANK and an IGNORE station, three strings of four positions, a rest time of 1 s for
class 0 and of 0 for the others, and two rules. -/
def demoTables : Tables :=
  { orig := put Tables.default.orig 0 { restCount := 1, residency := 1, gapLimit := 2, ceiling := .a }
    rule := put (put Tables.default.rule 2 (capRule 0 100 .a 2)) 5 (capRule 50 200 .b 1)
    pcls := put Tables.default.pcls 0 demoClass
    stat := put (put (put Tables.default.stat 0 (station 10 .testBay 0 0 4)) 1 (station 20 .bank 2 0 4)) 2
      (station 30 .ignore 0 0 1)
    bank := { BankSettings.default with stringsInUse := 3, positions := 4 } }

/-- The part after reset with these tables active and loaded, in RUN. -/
def demo : State :=
  { State.reset with mu := { State.reset.mu with mode := .run, active := demoTables, shadow := demoTables } }

/-- Evidence of a grade with one confirmation and a last value. -/
def evidence (g : Grade) (value : Nat) : Evidence :=
  { Evidence.cleared with grade := some g, confirmations := 1, lastValue := some value }

/-- A record in a state, graded B in every metric, with a tag of its own. -/
def module (st : ModuleState) (tag : Tag) (loc : Location) : ModuleRecord :=
  { ModuleRecord.cleared 4 with
    state := st, tag := tag, location := loc, resolved := some .b
    evidence :=
      { cap := evidence .b 60, res := evidence .b 70, drift := evidence .b 80, heat := evidence .b 90 } }

/-- A slot and a bay of the small part. -/
def slot0 : SlotId := { string := 2, position := 0 }
/-- The last slot in use. -/
def slot3 : SlotId := { string := 2, position := 3 }
/-- The first bay of the TEST-BAY station. -/
def bay0 : Bay := { entry := 0, channel := 0 }

/-- A COMMAND frame with this body. -/
def commandFrame (body : List Byte) : Frame := buildFrame 0x20#8 240#8 1#8 body

/-- A state whose command input queue holds one COMMAND. -/
def asking (s : State) (body : List Byte) : State :=
  { s with mu := { s.mu with commandQueue := [commandFrame body] } }

/-- Such a command is ready when no REPLY waits and the controller address is ANY. -/
theorem asking_ready (s : State) (op token : Byte) (params : List Byte) (h : s.mu.reply = none)
    (hc : s.mu.active.bank.controller = none) :
    CommandReady (asking s (op :: token :: params)) (commandFrame (op :: token :: params)) [] op token params :=
  ⟨h, rfl, rfl, Or.inl hc⟩

/-- A state with one measurement record at the head of the Intake Queue. -/
def measured (s : State) (r : MeasurementRecord) : State := { s with iu := { s.iu with intakeQueue := [r] } }

/-- A record of the TEST-BAY station's first bay. -/
def atBay (c : Measurement) : MeasurementRecord := { station := some 0, channel := 0, content := c }
/-- A record of the BANK station's last slot. -/
def atSlot (c : Measurement) : MeasurementRecord := { station := some 1, channel := 3, content := c }

theorem measured_mayTake (s : State) (r : MeasurementRecord) (h : s.ge.evaluation = none)
    (hc : s.mu.pendingCommit = none) : MayTake (measured s r) r [] := ⟨rfl, h, hc⟩

/-- A module in the first bay. -/
def inBay (st : ModuleState) : State :=
  (demo.setRecord 7 (module st 0x111 (.bay bay0))).setOccupant bay0 (some { index := 7, generation := 4 })

/-- A module in the last slot. -/
def inSlot (st : ModuleState) : State :=
  (demo.setRecord 7 (module st 0x111 (.slot slot3))).setSlot slot3 (.occupied { index := 7, generation := 4 })

/-- A request of a slot. -/
def asks (p : SlotId) (k : RequestKind) (st : RequestStatus) : Request :=
  { slot := p, kind := k, priority := 1, age := 9, status := st }

/-! ## Refusal of ill-formed commands -/

theorem test_settleExpiry_192_illFormed : (Instr.settleExpiry 192).wellFormed = false := by decide
theorem test_orderExpiry_8_illFormed : (Instr.orderExpiry 8).wellFormed = false := by decide
theorem test_settleExpiry_191_wellFormed : (Instr.settleExpiry 191).wellFormed = true := by decide

/-! ## Frames -/

/-- The check of the nine characters 1 to 9 is 0x29B1, that of CRC-16 with polynomial 0x1021 and start 0xFFFF. -/
theorem test_check_of_digits :
    checkOf [0x31, 0x32, 0x33, 0x34, 0x35, 0x36, 0x37, 0x38, 0x39] = 0x29B1#16 := by decide +kernel

/-- A FILL on the line is the value 0x55 with its mark. -/
theorem test_fill_on_the_line :
    (characterOf (decidedBits (cleanCharacter 0x55 true))).map Character.sort = some .fill := by decide +kernel

/-- One sample of three that differs changes nothing (R1). -/
theorem test_majority_outvotes_one_sample :
    decidedBits { lineRose := true, first := lineForm 0x41 false, second := 0, third := lineForm 0x41 false } =
      lineForm 0x41 false := by decide +kernel

/-! ## Small runs of one command -/

/-- The state a command leaves. -/
def after (c : Instr) (s : State) : State :=
  match exec c s with
  | .next t => t
  | .fault _ | .refused _ => s

/-- The status of the REPLY a state offers. -/
def status (s : State) : Option Byte := s.mu.reply.bind fun r => r.body[2]?

theorem test_reset_release_samples_the_straps :
    (after (.resetnRelease 5#3) demo).mu.ownAddress = 245#8 := by decide +kernel

theorem test_arrive_takes_the_lowest_record :
    (after .arrive (measured demo (atBay (.arrive 0x123#48 1)))).record 0 =
      { ModuleRecord.cleared 1 with state := .testing, tag := 0x123#48, originClass := 1, location := .bay bay0 } := by
  decide +kernel

theorem test_arrive_with_rest_time_settles :
    (after .arrive (measured demo (atBay (.arrive 0x123#48 0)))).timer 0 =
      some { generation := 1, expiresAt := 1000 } := by decide +kernel

theorem test_depart_abandons :
    ((after .depart (measured (inBay .testing) (atBay (.depart none)))).record 7).verdict =
      some { kind := .abandoned, sequence := 0 } := by decide +kernel

theorem test_measure_begins_an_evaluation :
    (after .measure (measured (inSlot .inService) (atSlot (.measure .cap 60 200)))).ge.evaluation =
      some { module := { index := 7, generation := 4 }, heldState := .inService, originClass := 0
             place := .service, metric := .cap, value := 60, temperature := 200, reference := none
             found := none } := by decide +kernel

/-- The rule search takes the lowest matching rule, both ends of a window included (R71, R72). -/
theorem test_search_takes_the_lowest_match :
    ∀ x ∈ [(0, SearchResult.rule 2), (100, .rule 2), (101, .rule 5), (200, .rule 5), (201, .noRule)],
      search demoTables.rule
        { module := { index := 7, generation := 4 }, heldState := .testing, originClass := 3, place := .bay
          metric := .cap, value := x.1, temperature := 200, reference := none, found := none } = x.2 := by
  decide +kernel

/-- The lost amount across the wrap of the sequence number (R24). -/
theorem test_lost_amount_wraps :
    lostAmount (some 255#8) 0#8 = 0 ∧ lostAmount (some 254#8) 1#8 = 2 ∧ lostAmount (some 7#8) 7#8 = 255 ∧
      lostAmount none 9#8 = 0 := by decide

/-- The members of the worked FILL choice (08 section 8.7). -/
def choice87 : Choice :=
  { age := 9, kind := .fill, slot := { string := 2, position := 3 }, noted := .empty, order := 6, cls := demoClass
    capReference := { value := some 5000, count := 4 }, resReference := { value := some 950, count := 4 }
    members :=
      [(30, Grade.a, 5180, some 940), (31, .b, 5090, some 1060), (32, .b, 4950, some 990), (33, .c, 5020, none),
        (35, .c, 4890, some 960), (36, .c, 5050, some 910), (34, .d, 5000, some 950)].map fun x =>
        { module := { index := x.1, generation := 0 }, resolved := some x.2.1, capValue := some x.2.2.1
          resValue := x.2.2.2 }
    scanPosition := 0, best := none, stale := false }

/-- Flags, scores and the candidate of the worked FILL choice, with flags 5 and 7 PASS. -/
theorem test_worked_choice :
    choice87.members.map choice87.flagOfMember = [6, 5, 7, 5, 6, 7, 3] ∧
      choice87.members.map choice87.score = [390, 510, 220, 196645, 250, 220, 0] ∧
      choice87.chosen = some { module := { index := 32, generation := 0 }, score := 220 } := by decide +kernel

/-- The stored references of the worked REPLACE choice, and those with its slot left out (08 section 8.8). -/
theorem test_worked_references :
    referenceOf [5200, 5150, 5250, 4700] = { value := some 5075, count := 4 } ∧
      referenceOf [900, 920, 910, 1300] = { value := some 1007, count := 4 } ∧
      referenceOf [5200, 5150, 5250] = { value := some 5200, count := 3 } ∧
      referenceOf [900, 920, 910] = { value := some 910, count := 3 } := by decide +kernel

/-- The resolution of a record by residency, gaps and ceiling (R89, R90). -/
theorem test_resolution_demotes_once :
    resolvedGrade { restCount := 0, residency := 2, gapLimit := 0, ceiling := .a }
        { module .testing 0x111 .absent with gapCount := 3 } = some .c ∧
      resolvedGrade { restCount := 0, residency := 1, gapLimit := 3, ceiling := .c }
        { module .testing 0x111 .absent with gapCount := 3 } = some .c ∧
      resolvedGrade { restCount := 0, residency := 1, gapLimit := 2, ceiling := .d }
        { module .testing 0x111 .absent with gapCount := 2 } = some .d := by decide +kernel

theorem test_slotEmpty_raises_a_fill_request :
    (after .slotEmpty (asking (demo.setMode .halted) [6#8, 7#8, 0#8, 2#8, 3#8])).pe.requests =
      [{ slot := slot3, kind := .fill, priority := 1, age := 0, status := .ready }] := by decide +kernel

theorem test_slotEmpty_in_run_selects :
    ((after .slotEmpty (asking demo [6#8, 7#8, 0#8, 2#8, 3#8])).pe.requests.map Request.status,
      (after .slotEmpty (asking demo [6#8, 7#8, 0#8, 2#8, 3#8])).order 0) =
      ([.selected], .reservedForChoice slot3) := by decide +kernel

theorem test_slotHolds_adopts :
    (after .slotHolds (asking demo [6#8, 7#8, 1#8, 2#8, 3#8, 0#8, 0#8, 0#8, 0#8, 1#8, 35#8])).record 0 =
      { ModuleRecord.cleared 1 with state := .inService, tag := 0x123#48, location := .slot slot3 } := by
  decide +kernel

theorem test_slotBlock_and_unblock :
    (after .slotBlock (asking demo [6#8, 7#8, 2#8, 2#8, 3#8])).slot slot3 = .blocked ∧
      status (after .slotUnblock (asking demo [6#8, 7#8, 3#8, 2#8, 3#8])) = some 6#8 := by decide +kernel

theorem test_slot_out_of_use_is_out_of_range :
    status (after .slotEmpty (asking demo [6#8, 7#8, 0#8, 2#8, 4#8])) = some 5#8 ∧
      status (after .retireSlot (asking demo [9#8, 7#8, 3#8, 0#8])) = some 5#8 := by decide +kernel

theorem test_retire_makes_watch :
    ((after .retireSlot (asking (inSlot .inService) [9#8, 7#8, 2#8, 3#8])).record 7).state = .watch := by
  decide +kernel

theorem test_halt_and_resume :
    (after .halt (asking demo [10#8, 7#8])).mu.mode = .halted ∧
      (after .resume (asking State.reset [11#8, 7#8])).mu.mode = .run := by decide +kernel

theorem test_commit_of_default_tables_is_taken :
    (after .commit (asking demo [2#8, 7#8, 31#8])).mu.notices =
      [{ argument := .commitTaken 31#5, count := 1 }] := by decide +kernel

theorem test_commit_of_no_table_is_out_of_range :
    status (after .commit (asking demo [2#8, 7#8, 0#8])) = some 5#8 ∧
      status (after .commit (asking demo [2#8, 7#8, 32#8])) = some 5#8 := by decide +kernel

/-- LOAD of one Origin Class Table entry. -/
theorem test_load_writes_one_entry :
    (after .load (asking demo
      ([1#8, 7#8, 0x4F#8, 0x52#8, 0x49#8, 0x47#8, 6#8] ++ [4#8, 0x0F#8, 0xFF#8, 1#8, 9#8, 3#8]))).mu.shadow.orig.get 4 =
      { restCount := 4095, residency := 1, gapLimit := 9, ceiling := .d } := by decide +kernel

theorem test_queries_answer_ok :
    status (after .queryModule (asking demo [4#8, 7#8, 0#8, 191#8])) = some 0#8 ∧
      status (after .queryModule (asking demo [4#8, 7#8, 0#8, 192#8])) = some 5#8 ∧
      status (after .querySlot (asking demo [5#8, 7#8, 2#8, 3#8, 16#8])) = some 0#8 ∧
      status (after .readTable (asking demo [3#8, 7#8, 3#8, 0#8, 31#8, 255#8])) = some 0#8 ∧
      status (after .readStatus (asking demo [14#8, 7#8])) = some 0#8 := by decide +kernel

/-- As many whole entries as fit: 12 of the active Station Table, 33 of the shadow's 32 asked (R196). -/
theorem test_entries_that_fit :
    entriesReturned .stat true 0 255 = 12 ∧ entriesReturned .stat false 0 255 = 32 ∧
      entriesReturned .rule true 90 255 = 6 ∧ entriesReturned .bank true 0 0 = 0 := by decide

theorem test_clear_counters :
    (after .readCounters (asking (demo.count .rxDamaged) [13#8, 7#8, 1#8])).rp.counters.rxDamaged = 0 ∧
      (after .readCounters (asking (demo.count .rxDamaged) [13#8, 7#8, 0#8])).rp.counters.rxDamaged = 1 := by
  decide +kernel

theorem test_unknown_command :
    status (after .unknownCommand (asking demo [15#8, 7#8])) = some 3#8 ∧
      status (after .unknownCommand (asking demo [])) = some 2#8 := by decide +kernel

theorem test_settle_expiry_makes_testing :
    ((after (.settleExpiry 7) ((inBay .settling).setTimer 7 (some { generation := 4, expiresAt := 1000 }))).record
      7).state = .testing := by decide +kernel

theorem test_step_takes_the_front_command :
    step { demo with pending := [.resetnAssert, .halt] } = exec .resetnAssert { demo with pending := [.halt] } := rfl

theorem test_empty_queue_lets_time_pass :
    (match step demo with
     | .next t => t.timeBase
     | .fault _ | .refused _ => 0) = 1 := by decide +kernel

/-! ## Witnesses: reset, reception, RING-OUT -/

/-- The module of the first bay SETTLING, its timer running to an instant. -/
def settling (t : Nat) : State := (inBay .settling).setTimer 7 (some { generation := 4, expiresAt := t })

/-- An order for the last slot. -/
def order (st : OrderStage) (w : OrderWork) : Order := { stage := st, slot := slot3, number := 17, work := w }

/-- A state with one order in record 2. -/
def withOrder (s : State) (o : Order) : State :=
  { s.setOrder 2 (.order o) with ot := { (s.setOrder 2 (.order o)).ot with creation := [2] } }

/-- The small part with one order in record 2. -/
def ordered (o : Order) : State := withOrder demo o

/-- A REMOVE order ISSUED with its deadline, beside the timer of `settling`. -/
def bothRun (timer deadline : Nat) : State :=
  withOrder (settling timer) (order (.issued deadline) (.remove { index := 9, generation := 4 }))

/-- Nothing runs; a timer has ended; a deadline has elapsed and ends first. -/
theorem witness_EmptyQueuePassesTime :
    (State.reset.pending = [] ∧ NothingEndsBefore State.reset 1) ∧
      ((settling 0).pending = [] ∧ ¬ NothingEndsBefore (settling 0) 1 ∧ NothingEndsBefore (settling 0) 0) ∧
      ((bothRun 1 0).pending = [] ∧ ¬ NothingEndsBefore (bothRun 1 0) 1 ∧ NothingEndsBefore (bothRun 1 0) 0) := by
  simp only [← State.noneEndsBefore_iff]
  decide +kernel

/-- An empty queue with a timer at its end lets it expire, and no time passes. -/
theorem test_empty_queue_expires_a_timer :
    (match step (settling 0) with
     | .next t => (t.timeBase, (t.record 7).state, t.timer 7)
     | .fault _ | .refused _ => (9, .free, none)) = (0, .testing, none) := by decide +kernel

/-- A deadline does not elapse while a timer ends before it, and does once that has expired (R180, log 4). -/
theorem test_expiries_keep_their_order :
    (after (.orderExpiry 2) (bothRun 5 6)).order 2 = (bothRun 5 6).order 2 ∧
      (after (.orderExpiry 2) (after (.settleExpiry 7) (bothRun 5 6))).order 2 = .free ∧
      (after (.orderExpiry 2) (after (.settleExpiry 7) (bothRun 5 6))).timeBase = 6 := by decide +kernel

/-- R1: RESETN asserted; a wait for the line; a false start; a character. -/
theorem witness_ReceiverDecidesByMajority :
    (after .resetnAssert demo).rp.resetAsserted = true ∧
      ({ demo with rp := { demo.rp with awaitingHigh := true } }.rp.awaitingHigh = true ∧
        { cleanCharacter 0x55 true with lineRose := false }.lineRose = false) ∧
      (demo.rp.resetAsserted = false ∧ demo.rp.awaitingHigh = false ∧
        (decidedBits { cleanCharacter 0x55 true with first := 0x7FF, third := 0x7FF }).getLsbD 0 = true ∧
        (decidedBits (cleanCharacter 0x55 true)).getLsbD 0 = false) := by decide +kernel

/-- A FILL, a header, a data character and a character in error. -/
def fill : Character := { value := 0x55, mark := true, error := false }
/-- A header of kind 0x20. -/
def header : Character := { value := 0x20, mark := true, error := false }
/-- A data character. -/
def data : Character := { value := 0x55, mark := false, error := false }
/-- A character in error. -/
def broken : Character := { value := 0x55, mark := true, error := true }

/-- R2, the first clause of the receiver's statement: a character of each sort. -/
theorem witness_ReceiverDecidesByMajority_sorts :
    broken.error = true ∧ (fill.error = false ∧ fill.mark = true ∧ fill.value = 0x55#8) ∧
      (header.error = false ∧ header.mark = true ∧ header.value ≠ 0x55#8) ∧
      (data.error = false ∧ data.mark = false) := by decide

/-- The small part with a link state, a window and a frame in assembly. -/
def linked (link : LinkState) (count : Nat) (window : List Bool) (a : Option Assembly) : State :=
  { demo with rp := { demo.rp with link := link, confirmCount := count, window := window, assembly := a } }

theorem witness_LinkGainsAndLosesSync :
    ((linked .hunt 0 [] none).rp.link = .hunt ∧ fill.sort = .fill ∧ header.sort ≠ .fill) ∧
      ((linked .confirm 2 [] none).rp.link = .confirm ∧ (linked .confirm 2 [] none).rp.confirmCount ≠ 3) ∧
      (linked .confirm 3 [] none).rp.confirmCount = 3 ∧
      ((linked .locked 0 [true, true, false, true] none).rp.link = .locked ∧ broken.error = true ∧
        4 ≤ ((true :: (linked .locked 0 [true, true, false, true] none).rp.window).take 32).count true) := by
  decide

/-- A frame in assembly with a length of 1 and all its characters. -/
def whole : Assembly := { kind := 0x20, chars := [240, 1, 1, 9, 0, 0], damaged := false }

theorem witness_LockedCharactersBuildTheFrame :
    (linked .locked 0 [] none).rp.link = .locked ∧ data.sort = .data 0x55 ∧ broken.sort = .inError 0x55 ∧
      header.sort = .header 0x20 ∧ fill.sort = .fill ∧ (linked .locked 0 [] none).rp.assembly = none ∧
      (linked .locked 0 [] (some whole)).rp.assembly = some whole ∧
      ((true :: (linked .locked 0 [true, true] none).rp.window).take 32).count true ≤ 3 ∧
      (whole.append 0x55).damaged = true := by decide

/-- The characters of a frame, as assembled. -/
def assembled (f : Frame) : Assembly :=
  { kind := f.kind, chars := (f.characters.drop 1).map Prod.fst, damaged := false }

/-- Frames that do not complete (damaged, one character short, a length above 240), and one of each treatment; a
header that ends a frame, and the one it opens. -/
theorem witness_FrameEndClassifies :
    { whole with damaged := true }.complete = none ∧
      (whole.chars[2]? = some 1#8 ∧ whole.chars.length = (1#8).toNat + 5 ∧
        { whole with chars := whole.chars.tail }.complete = none ∧ 240 < (241#8).toNat) ∧
      (header.sort = .header 0x20 ∧
        (match exec (.characterReceived (cleanCharacter 0x20 true)) (linked .locked 0 [] (some whole)) with
         | .next t => t.rp.assembly
         | .fault _ | .refused _ => none) = some { kind := 0x20, chars := [], damaged := false }) ∧
      demo.mu.ownAddress = 240#8 ∧
      (assembled (buildFrame 0x31 5 240 [1])).complete = some (buildFrame 0x31 5 240 [1]) ∧
      (assembled (buildFrame 0x20 240 1 [1])).complete = some (buildFrame 0x20 240 1 [1]) ∧
      (assembled (buildFrame 0x20 255 1 [1])).complete = some (buildFrame 0x20 255 1 [1]) ∧
      (assembled (buildFrame 0x10 255 1 [1])).complete = some (buildFrame 0x10 255 1 [1]) ∧
      (assembled (buildFrame 0x20 9 1 [1])).complete = some (buildFrame 0x20 9 1 [1]) := by decide +kernel

/-- The check as the eight bits of one character are taken, from the start. -/
def crcOf (b : Byte) : Nat → Half
  | 0 => 0xFFFF
  | k + 1 => if (crcOf b k).getLsbD 15 = b.getLsbD (7 - k) then crcOf b k <<< 1 else (crcOf b k <<< 1) ^^^ 0x1021

theorem witness_FrameRoundTrip :
    (buildFrame 0x20 240 1 (List.replicate 240 7)).body.length ≤ 240 ∧ crcOf 0x31 0 = checkOf [] ∧
      (∀ k < 8, crcOf 0x31 (k + 1) =
        if (crcOf 0x31 k).getLsbD 15 = (0x31#8).getLsbD (7 - k) then crcOf 0x31 k <<< 1
        else (crcOf 0x31 k <<< 1) ^^^ 0x1021#16) ∧
      crcOf 0x31 8 = 0xC782 :=
  ⟨by decide +kernel, rfl, fun _ _ => rfl, by decide +kernel⟩

/-- Queues of RING-OUT. -/
def sendingOf (x : Sending) (transit originate : List Frame) (passOver : Nat) : State :=
  { demo with
    rp := { demo.rp with
      sending := x, transitQueue := transit, originateQueue := originate, passOver := passOver } }

theorem witness_EgressArbiterDecides :
    (sendingOf .fill [] [] 0).rp.resetAsserted = false ∧ (sendingOf .fill [] [] 0).rp.sending = .fill ∧
      (sendingOf .transit [commandFrame []] [] 0).rp.transitQueue.tail = [] ∧
      (sendingOf .fill [commandFrame []] [commandFrame []] 1).rp.passOver < 2 ∧
      2 ≤ (sendingOf .fill [commandFrame []] [commandFrame []] 2).rp.passOver := by decide +kernel

/-- At the end of an originated frame all three claims stand, with room for two of them, and a frame to forward. -/
def claiming : State :=
  { (((ordered (order .issuing (.remove { index := 9, generation := 4 }))).setRecord 7
      { module .graded 0x111 .absent with departed := true }).makeVerdict 7 .graded).raise (.orderExpired 9) with
    rp := { (sendingOf .originate [commandFrame []]
        (List.replicate 6 (buildFrame 0x31 5 240 [])) 1).rp with verdictClaims := [7] } }

/-- Claims of every kind stand and the Transit Queue holds a frame; a REPLY waits, with and without one queued. -/
theorem witness_OriginateEntryIsFreed :
    (claiming.rp.resetAsserted = false ∧ claiming.rp.sending = .originate ∧
      claiming.rp.originateQueue =
        buildFrame 0x31 5 240 [] :: List.replicate 5 (buildFrame 0x31 5 240 []) ∧
      claiming.rp.verdictClaims.Nodup ∧ (∀ i ∈ claiming.rp.verdictClaims, (claiming.record i).verdict ≠ none) ∧
      claiming.rp.transitQueue ≠ [] ∧ claiming.othersFit ∧ claiming.mu.notices ≠ [] ∧ claiming.mu.reply = none) ∧
      claiming.orderStands ∧
      ((after .halt (asking demo [10, 7])).mu.reply ≠ none ∧ (buildFrame 0x21 5 240 []).kind = 0x21#8 ∧
        ∀ g ∈ List.replicate 5 (buildFrame 0x31 5 240 []), g.kind ≠ 0x21#8) := by
  refine ⟨⟨by decide +kernel, by decide +kernel, by decide +kernel, by decide +kernel, by decide +kernel,
    by decide +kernel, ⟨by decide +kernel, by decide +kernel⟩, by decide +kernel, by decide +kernel⟩,
    ⟨2, by decide +kernel, order .issuing (.remove { index := 9, generation := 4 }), by decide +kernel, rfl⟩,
    by decide +kernel⟩

/-- The ORDER is queued first, and then the VERDICT; the Originate Queue is then full of other frames. -/
theorem test_freed_entry_takes_claims_in_order :
    ((after .egressDecision claiming).rp.originateQueue.map Frame.kind,
      (after .egressDecision claiming).rp.verdictClaims,
      (after .egressDecision claiming).mu.notices.length, (after .egressDecision claiming).rp.sending) =
      ([0x31, 0x31, 0x31, 0x31, 0x31, 0x31, 0x30], [], 1, .transit) := by decide +kernel

theorem witness_OrderAdmission :
    (ordered (order .issuing (.insert { index := 7, generation := 4 }))).ot.creation = [] ++ 2 :: [] ∧
      (ordered (order .issuing (.insert { index := 7, generation := 4 }))).order 2 =
        .order (order .issuing (.insert { index := 7, generation := 4 })) ∧
      (ordered (order .issuing (.insert { index := 7, generation := 4 }))).rp.originateQueue.length < 8 := by
  decide +kernel

/-- A record with a verdict pending and its claim: in its bay, departed with no grade, departed with B. -/
def verdictOf (departed : Bool) (g : Option Grade) : State :=
  (demo.setRecord 7 { module .graded 0x111 .absent with departed := departed, resolved := g }).makeVerdict 7 .graded

theorem witness_VerdictAdmission :
    (∀ o, (verdictOf true none).order o = .free) ∧ (verdictOf true none).rp.verdictClaims = [7] ∧
      ((verdictOf true none).record 7).verdict = some { kind := .graded, sequence := 0 } ∧
      (verdictOf true none).rp.originateQueue.length < 7 ∧
      ((verdictOf false (some .b)).record 7).departed = false ∧
      (((verdictOf true none).record 7).departed = true ∧ ((verdictOf true none).record 7).resolved = none) ∧
      (((verdictOf true (some .d)).record 7).departed = true ∧
        ((verdictOf true (some .d)).record 7).resolved = some .d) := by decide +kernel

theorem witness_ReplyAndNoticeAdmission :
    ((after .halt (asking demo [10#8, 7#8])).mu.reply =
        some { destination := 1, body := [10, 7, 0] } ∧
      (after .halt (asking demo [10#8, 7#8])).rp.originateQueue = []) ∧
      (buildFrame 0x21 5 240 []).kind = 0x21#8 ∧
      ((demo.raise (.orderExpired 9)).mu.notices = [{ argument := .orderExpired 9, count := 1 }] ∧
        (demo.raise (.orderExpired 9)).rp.verdictClaims = []) := by decide +kernel

/-- R201, the first clause of that statement: a kind not pending, and one pending. -/
theorem witness_ReplyAndNoticeAdmission_folds :
    (∀ n ∈ [{ argument := .orderExpired 9, count := 1 : Notice }],
        n.argument.kindCode ≠ (NoticeArgument.linkRelock 2).kindCode) ∧
      (NoticeArgument.orderExpired 9).kindCode = (NoticeArgument.orderExpired 8).kindCode := by decide

/-! ## Witnesses: samples, arrivals, departures -/

theorem witness_SampleAdmission :
    State.reset.mu.mode = .halted ∧
      (∀ k, (demo.mu.active.stat.get k).valid = true → (demo.mu.active.stat.get k).address ≠ 254#8) ∧
      ((demo.mu.active.stat.get 0).address = 10#8 ∧
        ∀ k, (demo.mu.active.stat.get k).valid = true → (demo.mu.active.stat.get k).address = 10#8 → k = 0) ∧
      (demo.mu.active.stat.get 2).role = .ignore ∧ sampleOf [9, 8, 2] = none ∧
      sampleOf [9, 7, 2] = some { sequence := 9, channel := 7, content := .depart none } ∧
      demo.iu.intakeQueue.length < 16 ∧
      16 ≤ ({ demo with
        iu := { demo.iu with
          intakeQueue := List.replicate 16 (atBay (.depart none)) } } : State).iu.intakeQueue.length := by
  decide +kernel

theorem witness_SampleBodies :
    validTag (tagOf [0, 0, 0, 0, 0, 1]) = true ∧ -400 ≤ (0xFE#8 ++ 0x70#8 : BitVec 16).toInt ∧
      (0x04#8 ++ 0xE2#8 : BitVec 16).toInt ≤ 1250 ∧ (sampleOf [9, 7, 2]).isSome = true := by decide +kernel

/-- A temperature, a tag, an origin class, a metric code, a channel and a kind out of range (R23). -/
theorem test_malformed_samples :
    ∀ body ∈ [[9, 7, 3, 0, 0, 1, 0xFE, 0x6F], [9, 7, 3, 0, 0, 1, 0x04, 0xE3], [9, 7, 2, 0, 0, 0, 0, 0, 0],
      [9, 7, 1, 0, 0, 0, 0, 0, 1, 16], [9, 7, 3, 4, 0, 1, 0, 0], [9, 8, 2], [9, 7, 4], [9, 7, 2, 1]],
      sampleOf body = none := by decide +kernel

theorem witness_SequenceGapsAreCharged :
    (demo.live 0).lastSequence = none ∧
      ((inBay .testing).mu.active.stat.get 0).role = .testBay ∧
      ((inBay .testing).live 0).bays.get 0 = some { index := 7, generation := 4 } ∧
      (∀ c d m n, ((inBay .testing).live 0).bays.get c = some m → ((inBay .testing).live 0).bays.get d = some n →
        m.index = n.index → c = d) := by
  refine ⟨by decide +kernel, by decide +kernel, by decide +kernel, ?_⟩
  have h : ∀ c : Fin 4, ((inBay .testing).live 0).bays.get c =
      if c = 0 then some { index := 7, generation := 4 } else none := by decide +kernel
  intro c d m n hc hd _
  rw [h] at hc hd
  split at hc <;> split at hd <;> simp_all

theorem witness_TargetResolution :
    { atBay (.depart none) with station := none }.station = none ∧
      (demo.mu.active.stat.get 0).channelCount ≤ ({ atBay (.depart none) with channel := 4 }).channel.val ∧
      (demo.mu.active.stat.get 2).role = .ignore ∧
      ((atBay (.depart none)).channel.val < (demo.mu.active.stat.get 0).channelCount ∧
        (demo.mu.active.stat.get 0).role = .testBay) ∧
      ((atSlot (.depart none)).channel.val < (demo.mu.active.stat.get 1).channelCount ∧
        (demo.mu.active.stat.get 1).role = .bank) := by decide +kernel

theorem witness_ArrivalOfNewTag :
    (measured demo (atBay (.arrive 0x123 1))).target (atBay (.arrive 0x123 1)) = .bay bay0 ∧
      demo.occupant bay0 = none ∧ (∀ j, (demo.record j).state = .free) := by decide +kernel

theorem witness_ArrivalDisplacesOrIsRefused :
    ((inBay .testing).target (atBay (.arrive 0x123 1)) = .bay bay0 ∧
        (inBay .testing).occupant bay0 = some { index := 7, generation := 4 }) ∧
      ((inSlot .watch).occupant bay0 = none ∧ ((inSlot .watch).record 7).tag = 0x111#48 ∧
        (∀ j, ((inSlot .watch).record j).state ≠ .free → j = 7)) ∧
      (∀ j, ({ demo with
        mr := { demo.mr with
          records := Vector.replicate 192 (module .held 0x111 .absent) } } : State).record j =
        module .held 0x111 .absent) := by decide +kernel

/-- A record of the pool. -/
def pooled : State := (demo.setRecord 7 (module .held 0x111 .absent)).enterPool 7

/-- The pool's agreement with the records holds there. -/
theorem pooled_agrees : PoolAgrees pooled := by
  have hr : ∀ i, (pooled.record i) = if i = 7 then (module .pooled 0x111 .absent) else ModuleRecord.cleared 0 := by
    decide +kernel
  have hp : pooled.pe.pool = [7] := by decide +kernel
  have hw : pooled.pe.poolWait = [] := by decide +kernel
  have hc : pooled.rp.verdictClaims = [] := by decide +kernel
  refine ⟨fun i => ?_, by rw [hp]; decide, by rw [hp]; decide, by simp [hp], fun i => ?_, by rw [hw]; decide,
    by simp [hw], by simp [hw], fun i => ?_, fun i => ?_, by rw [hc]; decide, fun i => ?_, fun i => ?_⟩
  · rw [hp, hr]; by_cases h : i = 7 <;> simp [h, module, ModuleRecord.cleared]
  · rw [hw, hr]; by_cases h : i = 7 <;> simp [h, module, ModuleRecord.cleared, ModuleRecord.poolWaiting]
  · rw [hr]; by_cases h : i = 7 <;> simp [h, module, ModuleRecord.cleared]
  · rw [hc, hr]; by_cases h : i = 7 <;> simp [h, module, ModuleRecord.cleared]
  · rw [hr]; by_cases h : i = 7 <;> simp [h, module, ModuleRecord.cleared]
  · rw [hr]; by_cases h : i = 7 <;> simp [h, module, ModuleRecord.cleared, poolable]

/-- A record that waits for the pool. -/
def waiting : State := (demo.setRecord 7 (module .held 0x111 .absent)).enterPoolWait 7

/-- A record found POOLED, one pool-waiting, and one GRADED in another bay. -/
theorem witness_RetestArrival :
    (pooled.target (atBay (.arrive 0x111 1)) = .bay bay0 ∧ pooled.occupant bay0 = none ∧ PoolAgrees pooled ∧
      (pooled.record 7).tag = 0x111#48 ∧ (∀ j, (pooled.record j).state ≠ .free → j = 7) ∧
      (pooled.record 7).state = .pooled) ∧
    (waiting.occupant bay0 = none ∧ (∀ j, (waiting.record j).state ≠ .free → j = 7) ∧
      waiting.record 7 = { module .graded 0x111 .absent with departed := true }) ∧
    ((inBay .graded).target { atBay (.arrive 0x111 1) with channel := 1 } = .bay { entry := 0, channel := 1 } ∧
      (inBay .graded).occupant { entry := 0, channel := 1 } = none ∧
      (∀ j, ((inBay .graded).record j).state ≠ .free → j = 7) ∧
      (inBay .graded).record 7 = module .graded 0x111 (.bay bay0) ∧
      (inBay .graded).occupant bay0 = some { index := 7, generation := 4 }) :=
  ⟨⟨by decide +kernel, by decide +kernel, pooled_agrees, by decide +kernel, by decide +kernel, by decide +kernel⟩,
    by decide +kernel, by decide +kernel⟩

/-- A retest from a bay empties that bay, and one from the pool starts the timer of its class (R46, R48). -/
theorem test_retest :
    let t := after .arrive (measured (inBay .graded) { atBay (.arrive 0x111 1) with channel := 1 })
    let u := after .arrive (measured pooled (atBay (.arrive 0x111 0)))
    t.occupant bay0 = none ∧ t.occupant { entry := 0, channel := 1 } = some { index := 7, generation := 5 } ∧
      (t.record 7).state = .testing ∧ (t.record 7).resolved = none ∧ u.pe.pool = [] ∧
      u.timer 7 = some { generation := 5, expiresAt := 1000 } := by decide +kernel

theorem witness_DepartureEndsTheStay :
    (inBay .graded).target (atBay (.depart none)) = .bay bay0 ∧
      (inBay .graded).occupant bay0 = some { index := 7, generation := 4 } ∧
      ((inBay .graded).record 7).generation = 4#8 ∧ ((inBay .settling).record 7).state = .settling ∧
      ((inBay .graded).record 7).departed = false ∧ ((inBay .graded).record 7).verdict = none ∧
      ((inBay .graded).record 7).resolved = some .b ∧
      (((inBay .graded).makeVerdict 7 .graded).record 7).verdict ≠ none := by decide +kernel

/-- A pool of one for the record 8; a pool-wait list of one, and one with none. -/
theorem witness_PoolEntry :
    ((∀ j ∈ pooled.pe.pool, j ≠ 8) ∧
      pooled.pe.pool.Pairwise (fun j k => ¬ GoesBefore (pooled.record k) (pooled.record j)) ∧
      demo.pe.choice = none) ∧
      ((demo.enterPoolWait 7).pe.poolWait = 7 :: [] ∧ (∀ j ∈ (demo.enterPoolWait 7).pe.poolWait, j ≠ 8) ∧
        (demo.enterPoolWait 7).pe.poolWait.Pairwise (fun j k =>
          ¬ GoesBefore ((demo.enterPoolWait 7).record k) ((demo.enterPoolWait 7).record j))) ∧
      demo.pe.poolWait = [] := by
  have hp : pooled.pe.pool = [7] := by decide +kernel
  have hw : (demo.enterPoolWait 7).pe.poolWait = [7] := by decide +kernel
  rw [hp, hw]
  exact ⟨⟨by decide +kernel, by simp, rfl⟩, ⟨rfl, by decide +kernel, by simp⟩, rfl⟩

/-- Lists in the order of their keys: grade A before B, and of one grade the earlier arrival (R128, R130, R131). -/
theorem test_key_order :
    let s := ((demo.setRecord 3 { module .held 1 .absent with arrival := 2 }).setRecord 4
      { module .held 2 .absent with resolved := some .a, arrival := 9 }).setRecord 5
      { module .held 3 .absent with arrival := 1 }
    (((s.enterPool 3).enterPool 4).enterPool 5).pe.pool = [4, 5, 3] ∧
      (((s.enterPoolWait 3).enterPoolWait 4).enterPoolWait 5).pe.poolWait = [4, 5, 3] ∧
      (((s.enterPool 3).enterPoolWait 4).leavePool 3).pe.pool = [4] := by decide +kernel

theorem witness_RecordsNotActedOn :
    (∀ b, (measured demo (atSlot (.depart none))).target (atSlot (.depart none)) ≠ .bay b) ∧
      demo.occupant bay0 = none ∧ ¬ demo.selectionConditions ∧
      ((inBay .settling).record 7).state = .settling ∧ ((inBay .graded).record 7).state = .graded ∧
      (∀ m, demo.slot slot3 ≠ .occupied m) := by
  refine ⟨fun b => ?_, by decide +kernel, ?_, by decide +kernel, by decide +kernel, fun m => ?_⟩
  · rw [show (measured demo (atSlot (.depart none))).target (atSlot (.depart none)) = .slot slot3 by
      decide +kernel]
    exact Target.noConfusion
  · rintro ⟨_, _, _, _, q, hq, _⟩
    cases hq
  · rw [show demo.slot slot3 = .unknown by decide +kernel]
    exact SlotRecord.noConfusion

theorem witness_MeasureBeginsEvaluation :
    ((inBay .testing).target (atBay (.measure .cap 60 200)) = .bay bay0 ∧
        (inBay .testing).occupant bay0 = some { index := 7, generation := 4 } ∧
        ((inBay .testing).record 7).state = .testing) ∧
      ((inSlot .watch).target (atSlot (.measure .res 60 200)) = .slot slot3 ∧
        (inSlot .watch).slot slot3 = .occupied { index := 7, generation := 4 }) := by decide +kernel

/-- Class 0 rests 1 s and class 1 not at all. -/
theorem witness_RestPeriod :
    ((inBay .settling).record 7).state = .settling ∧ (inBay .settling).restTime 0 = 1000 ∧
      (inBay .settling).restTime 1 = 0 ∧
      ((settling 1000).timer 7 = some { generation := 4, expiresAt := 1000 } ∧
        NothingEndsBefore (settling 1000) 1000) ∧
      ((bothRun 1000 999).timer 7 = some { generation := 4, expiresAt := 1000 } ∧
        ¬ NothingEndsBefore (bothRun 1000 999) 1000) := by
  simp only [← State.noneEndsBefore_iff]
  decide +kernel

/-! ## Witnesses: evaluation, resolution, regrading -/

/-- An evaluation of the module in the last slot, or in the first bay. -/
def evaluationOf (st : ModuleState) (place : Place) (k : Metric) (v : Nat) : Evaluation :=
  { module := { index := 7, generation := 4 }, heldState := st, originClass := 0, place := place, metric := k
    value := v, temperature := 200, reference := none, found := none }

/-- The state with an evaluation in progress. -/
def evaluating (s : State) (e : Evaluation) : State := { s with ge := { s.ge with evaluation := some e } }

/-- The same once its search has ended. -/
def searched (s : State) (e : Evaluation) : State :=
  evaluating s { e with found := some (search s.mu.active.rule e) }

/-- An evaluation whose search has not ended holds no result, and one whose search has holds that of the rules. -/
theorem search_agrees (s : State) (e : Evaluation) (h : e.found = none) :
    SearchAgrees (evaluating s e) ∧ SearchAgrees (searched s e) := by
  refine ⟨fun x r hx hr => ?_, fun x r hx hr => ?_⟩
  · cases hx
    rw [h] at hr
    cases hr
  · cases hx
    cases hr
    rfl

/-- No rule for 300; the rule 2 of two confirmations begins its run at 60. -/
theorem witness_CompletionWithoutConfirmation :
    (SearchAgrees (evaluating (inSlot .watch) (evaluationOf .watch .service .cap 300)) ∧
      SearchAgrees (searched (inSlot .watch) (evaluationOf .watch .service .cap 300))) ∧
    CompletionApplies (evaluating (inSlot .watch) (evaluationOf .watch .service .cap 300))
        (evaluationOf .watch .service .cap 300) ∧
      search (inSlot .watch).mu.active.rule (evaluationOf .watch .service .cap 300) = .noRule ∧
      ((inSlot .watch).record 7).location = .slot slot3 ∧
      CompletionApplies (evaluating (inBay .testing) (evaluationOf .testing .bay .cap 60))
        (evaluationOf .testing .bay .cap 60) ∧
      search (inBay .testing).mu.active.rule (evaluationOf .testing .bay .cap 60) = .rule 2 ∧
      ((inBay .testing).record 7).evidence.cap.candidate ≠ some 2 ∧
      1 ≠ (demo.mu.active.rule.get 2).confirm.getD 1 :=
  ⟨search_agrees _ _ rfl, ⟨rfl, by decide +kernel, by decide +kernel⟩, by decide +kernel, by decide +kernel,
    ⟨rfl, by decide +kernel, by decide +kernel⟩, by decide +kernel, by decide +kernel, by decide +kernel⟩

/-- The rule 5 confirms at once; the record with its other metrics graded is resolved, and with one ungraded not. -/
theorem witness_EvaluationConfirms :
    CompletionApplies (evaluating (inBay .testing) (evaluationOf .testing .bay .cap 150))
        (evaluationOf .testing .bay .cap 150) ∧
      search (inBay .testing).mu.active.rule (evaluationOf .testing .bay .cap 150) = .rule 5 ∧
      SearchAgrees (searched (inBay .testing) (evaluationOf .testing .bay .cap 150)) ∧
      (demo.mu.active.rule.get 5).confirm.getD 1 = 1 ∧
      (((inBay .testing).record 7).withGrade (demo.mu.active.orig.get 0)).resolved ≠ none ∧
      (({ ModuleRecord.cleared 4 with state := .testing } : ModuleRecord).withGrade
        (demo.mu.active.orig.get 0)).resolved = none ∧
      CompletionApplies (evaluating (inSlot .outbound) (evaluationOf .outbound .service .cap 150))
        (evaluationOf .outbound .service .cap 150) ∧
      ((inSlot .outbound).record 7).location = .slot slot3 :=
  ⟨⟨rfl, by decide +kernel, by decide +kernel⟩, by decide +kernel, (search_agrees _ _ rfl).2, by decide +kernel,
    by decide +kernel, by decide +kernel, ⟨rfl, by decide +kernel, by decide +kernel⟩, by decide +kernel⟩

theorem witness_CompletionWithoutConfirmation_declined :
    ¬ CompletionApplies (evaluating (inBay .graded) (evaluationOf .testing .bay .cap 60))
      (evaluationOf .testing .bay .cap 60) := by
  rintro ⟨_, _, ⟨_, h⟩ | ⟨h, _⟩⟩
  · exact absurd h (by decide +kernel)
  · exact absurd h (by decide)

/-- A metric ungraded; the four grades with the worst twice, and each cause of the mark. -/
theorem witness_ResolutionWeighsTheEvidence :
    (ModuleRecord.cleared 4).evidence.heat.grade = none ∧
      (module .testing 0x111 .absent).evidence.cap.grade = some .b ∧
      Grade.rank .b ≤ Grade.rank .b ∧
      (module .testing 0x111 .absent).evidence.cap.confirmations < 2 ∧
      1 < ({ module .testing 0x111 .absent with gapCount := 2 } : ModuleRecord).gapCount ∧
      Grade.rank .b < Grade.rank .c := by decide +kernel

/-- A module in the last slot with a resolved grade, a watch count of 0 and a request of the slot. -/
def regraded (st : ModuleState) (g : Option Grade) (q : List Request) : State :=
  { (inSlot st).setRecord 7 { module st 0x111 (.slot slot3) with resolved := g } with
    pe := { demo.pe with requests := q } }

/-- The minimum is C and the watch threshold 2: each grade beside each state, with and without a request. -/
theorem witness_RegradingInService :
    ((regraded .inService none []).record 7).resolved = none ∧
      ((regraded .outbound (some .b) []).record 7).state = .outbound ∧
      (Grade.rank .c < Grade.rank .d ∧ ((regraded .inService (some .d) []).record 7).resolved = some .d ∧
        min (((regraded .inService (some .d) []).record 7).watchCount + 1) 15 < demoClass.watchConfirm) ∧
      ((regraded .watch (some .reject) []).record 7).resolved = some .reject ∧
      (Grade.rank .c ≤ Grade.rank .c ∧ (regraded .watch (some .c) []).request slot3 = none) ∧
      (regraded .watch (some .c) [asks slot3 .replace .waiting]).request slot3 =
        some (asks slot3 .replace .waiting) ∧
      (regraded .watch (some .c) [asks slot3 .replace .selected]).request slot3 =
        some (asks slot3 .replace .selected) := by decide +kernel

/-- Two OCCUPIED slots and none. -/
theorem witness_ReferencesAreRoundedMeans :
    (inSlot .inService).slot slot3 = .occupied { index := 7, generation := 4 } ∧
      ((inSlot .inService).record 7).evidence.cap.lastValue = some 60 ∧
      demo.slot slot3 = .unknown := by decide +kernel

/-! ## Witnesses: requests, selection, choice -/

/-- A slot in a state, and a request of it. -/
def askingFor (r : SlotRecord) (q : List Request) : State :=
  { demo.setSlot slot3 r with pe := { demo.pe with requests := q } }

theorem witness_RequestRaise :
    (demo.slotInUse { string := 3, position := 0 } = false ∧
        demo.slotInUse { string := 2, position := 4 } = false ∧ demo.slotInUse slot3 = true) ∧
      demo.slot slot3 ≠ .empty ∧ (askingFor .empty []).slot slot3 = .empty ∧
      (inSlot .watch).slot slot3 = .occupied { index := 7, generation := 4 } ∧
      (asks slot3 .replace .waiting).kind = .replace ∧ (asks slot0 .fill .ready).slot ≠ slot3 := by
  decide +kernel

/-- A request of the last slot between two of another string, READY, and the Order Table free. -/
def competing (q0 q1 q2 : RequestStatus) : State :=
  askingFor .empty
    [asks { string := 0, position := 0 } .fill q0, asks slot3 .fill q1, asks { string := 1, position := 0 } .fill q2]

theorem witness_SelectionReserves :
    (competing .waiting .ready .ready).selectionConditions ∧
      (competing .waiting .ready .ready).order 0 = .free ∧
      (∀ k : OrderIndex, k.val < (0 : OrderIndex).val → (competing .waiting .ready .ready).order k ≠ .free) ∧
      (∀ x ∈ [asks { string := 0, position := 0 } .fill .waiting], x.status ≠ .ready) ∧
      demo.mu.active.bank.policy = .arrival ∧
      ¬ (competing .waiting .waiting .selected).selectionConditions := by
  refine ⟨⟨rfl, rfl, rfl, ⟨0, by decide +kernel⟩, _, .tail _ (.head _), rfl⟩, by decide +kernel,
    fun k h => absurd h (Nat.not_lt_zero _), by decide, rfl, ?_⟩
  rintro ⟨_, _, _, _, q, hq, h⟩
  have : ∀ q ∈ (competing .waiting .waiting .selected).pe.requests, q.status ≠ .ready := by decide
  exact this q hq h

/-- A transparent test and one within the tolerance; a member of each result. -/
theorem witness_EligibilityAndScore :
    ({ choice87 with capReference := { value := some 5000, count := 2 } } : Choice).capReference.count <
        choice87.cls.referenceMinimum ∧
      (choice87.resReference.count ≠ 0 ∧ choice87.cls.referenceMinimum ≤ choice87.resReference.count) ∧
      PairingClass.InRange choice87.cls ∧ (∀ m ∈ choice87.members, ∀ v, m.resValue = some v → v ≤ 65535) := by
  refine ⟨by decide, by decide, ⟨by decide, by decide, by decide, by decide, by decide, by decide⟩, ?_⟩
  simp [choice87]

theorem witness_BestCandidate :
    (choice87.scanPosition = 0 ∧ choice87.best = none) ∧
      (∃ before m after, choice87.members = before ++ m :: after ∧ choice87.eligible m = true ∧
        (∀ x ∈ before, choice87.eligible x = true → choice87.score m < choice87.score x) ∧
        ∀ x ∈ after, choice87.eligible x = true → choice87.score m ≤ choice87.score x) ∧
      ∃ m, choice87.eligible m = false :=
  ⟨⟨rfl, rfl⟩, ⟨choice87.members.take 2, choice87.members[2], choice87.members.drop 3, by decide +kernel,
    by decide +kernel, by decide +kernel, by decide +kernel⟩, choice87.members[0], by decide +kernel⟩

/-- A choice of a kind for the last slot with no candidate yet, and the record reserved for it. -/
def choosing (s : State) (k : RequestKind) : State :=
  { s.setOrder 6 (.reservedForChoice slot3) with
    pe := { s.pe with
      requests := [asks slot3 k .selected]
      choice := some
        { choice87 with
          kind := k, slot := slot3, noted := s.slot slot3, members := [], capReference := .absent
          resReference := .absent
          best := if k = .remove then none
            else some { module := { index := 9, generation := 4 }, score := 0 } } } }

/-- The small part with a POOLED record 9 beside the module of the last slot. -/
def choosable (s : State) : State :=
  { s.setRecord 9 (module .pooled 0x222 .absent) with pe := { s.pe with pool := [9] } }

theorem witness_ChoiceMakesOrder :
    ((choosing (choosable (askingFor .empty [])) .fill).order 6 = .reservedForChoice slot3 ∧
        (choosing (choosable (askingFor .empty [])) .fill).slot slot3 = .empty ∧
        (choosing (choosable (askingFor .empty [])) .fill).standsIn { index := 9, generation := 4 } [.pooled]) ∧
      ((choosing (choosable (inSlot .watch)) .replace).slot slot3 = .occupied { index := 7, generation := 4 } ∧
        (choosing (choosable (inSlot .watch)) .replace).standsIn { index := 7, generation := 4 } [.watch]) ∧
      (∀ j, j ≠ 2 → (ordered (order (.issued 5) (.insert { index := 7, generation := 4 }))).order j = .free) := by
  refine ⟨⟨by decide +kernel, by decide +kernel, by decide +kernel, by decide +kernel⟩,
    ⟨by decide +kernel, by decide +kernel, by decide +kernel⟩, by decide +kernel⟩

theorem witness_ChoiceWithoutOrder :
    ((6 : OrderIndex) ∉ (choosing (askingFor .empty []) .fill).ot.creation) ∧
      (asks slot3 .fill .selected).age = choice87.age ∧ choice87.age ≠ 8 ∧
      ({ choice87 with members := [] } : Choice).chosen = none ∧
      ¬ (choosing (inSlot .inService) .replace).standsIn { index := 7, generation := 4 } [.watch] ∧
      ¬ (choosing demo .fill).standsIn { index := 9, generation := 4 } [.pooled] := by
  refine ⟨by decide +kernel, by decide, by decide, by decide +kernel, ?_, ?_⟩ <;> rintro ⟨h, h'⟩
  · exact absurd h' (by decide +kernel)
  · exact absurd h (by decide +kernel)

/-! ## Witnesses: the end of an order -/

/-- An ISSUED order of each kind, its modules and its slot as they stand then. -/
def onTheRing (w : OrderWork) : State :=
  (((ordered (order (.issued 5000) w)).setRecord 9 { module .assigned 0x222 .absent with order := some 2 }).setRecord
    7 { module .outbound 0x111 (.slot slot3) with order := some 2 }).setSlot slot3 (.reserved 2 w.outgoing)

/-- The work of each kind. -/
def swapped : OrderWork := .swap { index := 9, generation := 4 } { index := 7, generation := 4 }

theorem witness_OrderDone :
    (onTheRing swapped).order 2 = .order (order (.issued 5000) swapped) ∧
      (∀ j, j ≠ 2 → (onTheRing swapped).order j = .free) ∧
      (onTheRing swapped).slot slot3 = .reserved 2 (some { index := 7, generation := 4 }) ∧
      (onTheRing swapped).standsIn { index := 9, generation := 4 } [.assigned] ∧
      (onTheRing swapped).standsIn { index := 7, generation := 4 } [.outbound] ∧
      (onTheRing swapped).mu.reply = none ∧
      (1 < (2#8).toNat ∧ (1#8).toNat ≤ 1) ∧ (∀ j x, demo.order j = .order x → x.number ≠ 17) := by
  refine ⟨by decide +kernel, by decide +kernel, by decide +kernel, ⟨by decide +kernel, by decide +kernel⟩,
    ⟨by decide +kernel, by decide +kernel⟩, rfl, by decide, fun j x h => ?_⟩
  have hf : ∀ o, demo.order o = .free := by decide +kernel
  rw [hf] at h
  cases h

/-- An order not ISSUED, one whose deadline a timer ends before, an ISSUED one, and a DEFERRED one behind it. -/
theorem witness_OrderExpires :
    (∀ t, (ordered (order .deferred swapped)).order 2 ≠ .order (order (.issued t) swapped)) ∧
      ¬ NothingEndsBefore (bothRun 999 1000) 1000 ∧ NothingEndsBefore (onTheRing swapped) 5000 ∧
      (onTheRing swapped).order 2 = .order (order (.issued 5000) swapped) ∧
      ((ordered (order .deferred swapped)).ot.creation = [] ++ 2 :: [] ∧
        (ordered (order .deferred swapped)).order 2 = .order (order .deferred swapped)) ∧
      demo.ot.creation = [] := by
  simp only [← State.noneEndsBefore_iff]
  refine ⟨fun t h => ?_, by decide +kernel, by decide +kernel, by decide +kernel, by decide +kernel, rfl⟩
  rw [show (ordered (order .deferred swapped)).order 2 = .order (order .deferred swapped) by decide +kernel] at h
  cases h

/-! ## Witnesses: tables and commits -/

/-- A chunk of one Origin Class Table entry, and one of an unknown name. -/
def chunksOfBoth : List LoadChunk :=
  [.unknown [0x58#8, 0x58#8, 0x58#8, 0x58#8] [1#8, 2#8], .known .orig [[4#8, 0x0F#8, 0xFF#8, 1#8, 9#8, 3#8]]]

/-- Both chunks can be read; a header cut short, a content cut short and a length no multiple of the entry size
cannot. The entry is in range, and with a ceiling of REJECT it is not. -/
theorem witness_LoadWritesShadow :
    (∀ c ∈ chunksOfBoth, c.WellFormed) ∧
      (ChunkFails [0x4F#8, 0x52#8] ∧ ChunkFails ([0x58#8, 0x58#8, 0x58#8, 0x58#8] ++ [2#8, 0#8]) ∧
        ChunkFails (Table.orig.chunkName ++ [1#8, 0#8])) ∧
      (1#5).getLsbD Table.orig.code = true ∧ demo.mu.pendingCommit = none ∧
      entryWriteOf .orig [4#8, 0x0F#8, 0xFF#8, 1#8, 9#8, 4#8] = none := by
  refine ⟨fun c hc => ?_, ⟨⟨by decide, .inl (by decide)⟩, ⟨by decide, .inr ⟨_, _, _, rfl, by decide, .inl (by decide)⟩⟩,
    ⟨by decide, .inr ⟨_, _, _, rfl, by decide, .inr ⟨.orig, rfl, by decide⟩⟩⟩⟩, by decide, by decide +kernel,
    by decide +kernel⟩
  have h : c = .unknown [0x58#8, 0x58#8, 0x58#8, 0x58#8] [1#8, 2#8] ∨
      c = .known .orig [[4#8, 0x0F#8, 0xFF#8, 1#8, 9#8, 3#8]] := by simpa [chunksOfBoth] using hc
  rcases h with rfl | rfl
  · refine ⟨fun t e h => (LoadChunk.noConfusion h), fun n x h => ?_⟩
    cases h
    exact ⟨by decide, by decide, fun t => by cases t <;> decide⟩
  · refine ⟨fun t e h => ?_, fun n x h => (LoadChunk.noConfusion h)⟩
    cases h
    exact ⟨by decide, by decide⟩

/-- The REPLY of those two chunks counts one entry and one chunk passed over, and a short third chunk is MALFORMED. -/
theorem test_load_counts_unknown_chunks :
    (after .load (asking demo ([1#8, 7#8] ++ chunksOfBoth.flatMap LoadChunk.characters))).mu.reply =
        some { destination := 1, body := [1, 7, 0, 1, 1] } ∧
      (after .load (asking demo ([1#8, 7#8] ++ chunksOfBoth.flatMap LoadChunk.characters ++ [0x4F#8]))).mu.reply =
        some { destination := 1, body := [1, 7, 2, 3, 255] } := by decide +kernel

theorem test_entry_in_range_and_out :
    entryWriteOf .orig [4#8, 0x0F#8, 0xFF#8, 1#8, 9#8, 3#8] =
        some (.orig 4 { restCount := 4095, residency := 1, gapLimit := 9, ceiling := .d }) := by decide +kernel

theorem witness_TableEntriesRoundTrip :
    OriginClass.InRange (demoTables.orig.get 0) ∧ GradingRule.InRange (demoTables.rule.get 2) ∧
      PairingClass.InRange demoClass ∧ Station.InRange (demoTables.stat.get 0) ∧
      BankSettings.InRange demoTables.bank := by
  refine ⟨⟨?_, ?_, ?_, ?_⟩, ⟨?_, ?_, ?_, ?_⟩, ⟨?_, ?_, ?_, ?_, ?_, ?_⟩, ⟨?_, ?_⟩, ⟨?_, ?_, ?_, ?_⟩⟩ <;> decide +kernel

/-- An entry read of each table: a rule with no qualifier, whatever its temperatures, and a controller of ANY. -/
theorem witness_TableEntriesRoundTrip_read :
    (entryWriteOf .orig [15, 0x0F, 0xFF, 1, 9, 3]).isSome = true ∧
      entryWriteOf .rule [95, 1, 0, 3, 2, 0, 0, 0, 0, 0xFF, 0xFF, 0, 0x7F, 1, 0x7F, 0, 4, 0] =
        some (.rule 95 { GradingRule.default with
          valid := true, originMask := 3, windowHigh := 65535, grade := .reject }) ∧
      (entryWriteOf .pcls [7, 3, 0, 1, 0, 1, 15, 15, 16, 255, 3, 3, 15]).isSome = true ∧
      (entryWriteOf .stat [31, 1, 254, 0, 7, 15, 4]).isSome = true ∧
      (entryWriteOf .bank [0, 8, 16, 0, 1, 2, 3, 4, 5, 6, 7, 2, 1, 0x0F, 0xFF, 255]).isSome = true := by
  decide +kernel

/-- An index, a grade code, a temperature and a length out of range are not read. -/
theorem test_entries_not_read :
    entryWriteOf .orig [16, 0, 0, 1, 9, 3] = none ∧ entryWriteOf .orig [0, 0, 0, 1, 9, 4] = none ∧
      entryWriteOf .rule [0, 1, 0, 3, 2, 0, 0, 0, 0, 0, 0, 1, 0x7F, 1, 0, 0, 4, 0] = none ∧
      entryWriteOf .bank [0, 8, 16] = none := by decide +kernel

/-- The small part with other shadow copies. -/
def shadowed (t : Tables) : State := { demo with mu := { demo.mu with shadow := t } }

/-- The mask's bounds; a mask with a check to fail and one with none. -/
theorem witness_CommitSettles :
    (31 < (32#8).toNat ∧ (1#8).toNat ≤ 31) ∧ (demo.mu.pendingCommit = none ∧ demo.ge.evaluation = none) ∧
      (evaluating demo (evaluationOf .testing .bay .cap 60)).ge.evaluation ≠ none ∧
      (demo.validate 23 = none ∧ (23#5).getLsbD 3 = false) ∧ (demo.validate 31 = none ∧ (31#5).getLsbD 3 = true) ∧
      (shadowed { demoTables with rule := put demoTables.rule 9 (capRule 1 0 .a 1) }).validate 2 =
        some (.windowOrder 9) := by decide +kernel

/-- A RELATIVE rule on HEAT. -/
def relativeHeat : GradingRule := { capRule 0 9 .a 1 with metric := .heat, mode := .relative }
/-- A rule with its qualifier's ends out of order. -/
def crossed : GradingRule := { capRule 9 9 .a 1 with qualifier := some { low := 3, high := 2 } }

/-- Each check of a commit fails somewhere, at its first entry. -/
theorem witness_CommitValidation :
    ((shadowed { demoTables with bank := { demoTables.bank with positions := 3 } }).setSlot slot3
        (.occupied { index := 7, generation := 4 })).validate 16 = some (.geometryReduction slot3) ∧
      (shadowed { demoTables with stat := put demoTables.stat 5 (station 10 .ignore 0 0 1) }).validate 8 =
        some (.duplicateAddress 5) ∧
      (shadowed { demoTables with stat := put demoTables.stat 5 (station 40 .bank 1 1 4) }).validate 8 =
        some (.slotRange 5) ∧
      (shadowed { demoTables with stat := put demoTables.stat 5 (station 40 .bank 2 3 1) }).validate 8 =
        some (.slotOverlap 5) ∧
      (shadowed { demoTables with rule := put demoTables.rule 7 relativeHeat }).validate 2 = some (.relativeMetric 7) ∧
      (shadowed { demoTables with rule := put demoTables.rule 7 crossed }).validate 2 =
        some (.temperatureOrder 7) ∧
      demo.validate 31 = none := by decide +kernel

/-- The stations of the small part with the TEST-BAY station moved to entry 5, and that entry taken out. -/
def movedStations : Vector Station 32 :=
  put (put demoTables.stat 0 Station.default) 5 (station 10 .testBay 0 0 4)

/-- A taken commit moves the occupant's bay with its station, and departs it when its station is gone (R31, R53). -/
theorem test_station_commit_moves_and_departs :
    (((inBay .testing).carryStations demoTables.stat movedStations).record 7).location =
        .bay { entry := 5, channel := 0 } ∧
      ((inBay .testing).carryStations demoTables.stat movedStations).occupant { entry := 5, channel := 0 } =
        some { index := 7, generation := 4 } ∧
      (((inBay .testing).carryStations demoTables.stat (put demoTables.stat 0 Station.default)).record 7).verdict =
        some { kind := .abandoned, sequence := 0 } := by decide +kernel

/-- The addresses of the small part's stations differ, and 40 is none of them; a bay stays in a moved entry, and one
whose entry is gone does not; one module stands in one bay. -/
theorem witness_StationCommitCarriesLiveFields :
    (∀ j k, (demoTables.stat.get j).valid = true → (demoTables.stat.get k).valid = true →
        (demoTables.stat.get j).address = (demoTables.stat.get k).address → j = k) ∧
      (∀ j, (demoTables.stat.get j).valid = true → (demoTables.stat.get j).address ≠ 40#8) ∧
      (demoTables.stat.get 9).valid = false ∧
      ((movedStations.get 5).valid = true ∧ (movedStations.get 5).address = (demoTables.stat.get 0).address ∧
        ∀ i, (movedStations.get i).valid = true → (movedStations.get i).address = 10#8 → i = 5) ∧
      ((inBay .testing).occupant bay0 = some { index := 7, generation := 4 } ∧
        (inBay .testing).standsIn { index := 7, generation := 4 } [.settling, .testing, .graded]) ∧
      (demoTables.stat.get 0).role = .testBay ∧ (demoTables.stat.get 1).role ≠ .testBay :=
  ⟨by decide +kernel, by decide +kernel, by decide +kernel, by decide +kernel,
    ⟨by decide +kernel, by decide +kernel, by decide +kernel⟩, by decide +kernel, by decide +kernel⟩

/-! ## Witnesses: commands -/

/-- The last slot is named by its two parameters, and the numbers beyond name none. -/
theorem namesSlot3 : NamesSlot demo 2 3 slot3 := ⟨rfl, rfl, by decide +kernel⟩

theorem namesNone : ∀ p, ¬ NamesSlot demo 2 4 p := by
  rintro p ⟨_, h, _, h'⟩
  have : demo.mu.active.bank.positions = 4 := by decide +kernel
  simp at h
  omega

/-- The record of the last slot's module holds its tag. -/
theorem holds (st : ModuleState) (h : st ≠ .free) : HoldsTag (inSlot st) 0x111 7 := by
  have hr : (inSlot st).record 7 = module st 0x111 (.slot slot3) := State.record_setRecord_same demo 7 _
  refine ⟨by rw [hr]; exact ⟨h, rfl⟩, fun j hj _ => ?_⟩
  have hn : ∀ j, (demo.record j).state = .free := by decide +kernel
  by_cases e : j = 7
  · exact e
  · exact absurd ((congrArg ModuleRecord.state (State.record_setRecord_other demo 7 j _ (Ne.symm e))).trans (hn j)) hj

theorem witness_QueriesAnswer :
    CommandReady (asking demo [3, 7, 4, 1, 0, 0]) (commandFrame [3, 7, 4, 1, 0, 0]) [] 3 7 [4, 1, 0, 0] ∧
      (4 < (5#8).toNat ∧ (4#8).toNat = Table.bank.code ∧ Table.bank.size = 1) ∧
      CommandReady (asking demo [4, 7, 0, 191]) (commandFrame [4, 7, 0, 191]) [] 4 7 [0, 191] ∧
      HoldsTag (inSlot .watch) 0x111 7 ∧ tagOf [0, 0, 0, 0, 1, 0x11] = 0x111#48 ∧
      tagOf [0, 0, 0, 0, 0, 0] = 0 ∧ (∀ i, (demo.record i).state = .free) ∧
      (demo.mu.active.bank.stringsInUse ≤ (3#8).toNat ∧ (2#8).toNat < demo.mu.active.bank.stringsInUse) ∧
      CommandReady (asking demo [14, 7]) (commandFrame [14, 7]) [] 14 7 [] :=
  ⟨asking_ready demo _ _ _ rfl rfl, by decide, asking_ready demo _ _ _ rfl rfl, holds _ (by decide), by decide +kernel,
    by decide +kernel, by decide +kernel, by decide +kernel, asking_ready demo _ _ _ rfl rfl⟩

/-- A location of each kind, a verdict pending, a slot of each state, a notice and a string with no reference. -/
theorem witness_BodiesAreLaidOut :
    ((inSlot .watch).record 7).location = .slot slot3 ∧ ((inBay .testing).record 7).location = .bay bay0 ∧
      (demo.record 7).location = .absent ∧ ((verdictOf true none).record 7).verdict ≠ none ∧
      (demo.record 7).verdict = none ∧ demo.slot slot3 = .unknown ∧
      (inSlot .watch).slot slot3 = .occupied { index := 7, generation := 4 } ∧
      (onTheRing swapped).slot slot3 = .reserved 2 (some { index := 7, generation := 4 }) ∧
      (onTheRing swapped).order 2 = .order (order (.issued 5000) swapped) ∧
      (askingFor .empty [asks slot3 .fill .ready]).request slot3 = some (asks slot3 .fill .ready) ∧
      demo.request slot3 = none ∧ (demo.string 0).cap.value = none ∧ (demo.live 0).lastSequence = none ∧
      (demo.raise (.orderExpired 9)).mu.notices ≠ [] ∧
      argumentChars (.commitRefused (.geometryReduction slot3)) = [4, 7, 2, 3] := by decide +kernel

theorem witness_SlotForms :
    CommandReady (asking demo [6, 7, 0, 2, 3]) (commandFrame [6, 7, 0, 2, 3]) [] 6 7 [0, 2, 3] ∧
      NamesSlot demo 2 3 slot3 ∧ (∀ p, ¬ NamesSlot demo 2 4 p) ∧ demo.slot slot3 = .unknown ∧
      (askingFor .empty []).slot slot3 = .empty ∧ (askingFor .blocked []).slot slot3 = .blocked ∧
      (inSlot .watch).slot slot3 = .occupied { index := 7, generation := 4 } ∧
      (inSlot .watch).standsIn { index := 7, generation := 4 } [.inService, .watch] ∧
      (onTheRing swapped).slot slot3 = .reserved 2 (some { index := 7, generation := 4 }) :=
  ⟨asking_ready demo _ _ _ rfl rfl, namesSlot3, namesNone, by decide +kernel, by decide +kernel, by decide +kernel,
    by decide +kernel, ⟨by decide +kernel, by decide +kernel⟩, by decide +kernel⟩

theorem witness_SlotHolds :
    CommandReady (asking demo [6, 7, 1, 2, 3, 0, 0, 0, 0, 1, 0x11])
        (commandFrame [6, 7, 1, 2, 3, 0, 0, 0, 0, 1, 0x11]) [] 6 7 [1, 2, 3, 0, 0, 0, 0, 1, 0x11] ∧
      HoldsTag (inSlot .watch) 0x111 7 ∧ HoldsTag (inSlot .held) 0x111 7 ∧ HoldsTag (inSlot .pooled) 0x111 7 ∧
      (∀ i, (demo.record i).state = .free) ∧
      (({ module .graded 0x111 .absent with departed := true } : ModuleRecord).poolWaiting = true ∧
        (module .testing 0x111 .absent).poolWaiting = false) :=
  ⟨asking_ready demo _ _ _ rfl rfl, holds _ (by decide), holds _ (by decide), holds _ (by decide),
    by decide +kernel, by decide +kernel⟩

theorem witness_ModuleForms :
    CommandReady (asking (inSlot .held) [6, 7, 4, 0, 0, 0, 0, 1, 0x11])
        (commandFrame [6, 7, 4, 0, 0, 0, 0, 1, 0x11]) [] 6 7 [4, 0, 0, 0, 0, 1, 0x11] ∧
      HoldsTag (inSlot .held) 0x111 7 ∧ ((inSlot .held).record 7).resolved = some .b ∧
      HoldsTag (inSlot .graded) 0x111 7 ∧ ((inSlot .graded).record 7).poolWaiting = false ∧
      HoldsTag (inSlot .pooled) 0x111 7 ∧ (∀ i, (demo.record i).state = .free) :=
  ⟨asking_ready (inSlot .held) _ _ _ rfl rfl, holds _ (by decide), by decide +kernel, holds _ (by decide),
    by decide +kernel, holds _ (by decide), by decide +kernel⟩

theorem witness_RequestCommands :
    CommandReady (asking demo [8, 7, 0, 2, 3]) (commandFrame [8, 7, 0, 2, 3]) [] 8 7 [0, 2, 3] ∧
      NamesSlot demo 2 3 slot3 ∧ (∀ p, ¬ NamesSlot demo 2 4 p) ∧
      (asks slot3 .fill .waiting).status = .waiting ∧ (asks slot3 .fill .ready).status ≠ .waiting ∧
      (askingFor .empty []).slot slot3 = .empty ∧ demo.slot slot3 ≠ .empty ∧
      CommandReady (asking demo [8, 7, 1]) (commandFrame [8, 7, 1]) [] 8 7 [1] ∧
      CommandReady (asking demo [9, 7, 2, 3]) (commandFrame [9, 7, 2, 3]) [] 9 7 [2, 3] ∧
      (inSlot .inService).standsIn { index := 7, generation := 4 } [.inService, .watch] :=
  ⟨asking_ready demo _ _ _ rfl rfl, namesSlot3, namesNone, rfl, by decide, by decide +kernel, by decide +kernel,
    asking_ready demo _ _ _ rfl rfl, asking_ready demo _ _ _ rfl rfl, ⟨by decide +kernel, by decide +kernel⟩⟩

theorem witness_ModeCommands :
    CommandReady (asking demo [10, 7]) (commandFrame [10, 7]) [] 10 7 [] ∧
      CommandReady (asking demo [11, 7]) (commandFrame [11, 7]) [] 11 7 [] ∧
      CommandReady (asking demo [12, 7]) (commandFrame [12, 7]) [] 12 7 [] ∧
      demo.mu.mode = .run ∧ State.reset.mu.mode = .halted :=
  ⟨asking_ready demo _ _ _ rfl rfl, asking_ready demo _ _ _ rfl rfl, asking_ready demo _ _ _ rfl rfl, rfl, rfl⟩

/-- A REPLY waits; an empty body; an unlisted operation code; a source admitted and one not; rows with a length and
without one; forms at their bounds. -/
theorem witness_CommonChecks :
    (after .halt (asking demo [10, 7])).mu.reply ≠ none ∧ (asking demo []).mu.commandQueue = [commandFrame []] ∧
      14 < (15#8).toNat ∧ (commandFrame []).source = 1#8 ∧ demo.mu.active.bank.controller = none ∧
      (10#8, [], some 0, Instr.halt) ∈ commandRows ∧ (6#8, [5#8], some 6, Instr.moduleGone) ∈ commandRows ∧
      (1#8, [], none, Instr.load) ∈ commandRows ∧ 5 < (6#8).toNat ∧ 1 < (2#8).toNat := by decide +kernel

/-- Every row with a length answers MALFORMED to one parameter too many (R188). -/
theorem test_wrong_lengths_are_malformed :
    ∀ x ∈ commandRows, ∀ n, x.2.2.1 = some n →
      status (after x.2.2.2 (asking demo (x.1 :: 7#8 :: (x.2.1 ++ List.replicate (n + 1) 1#8)))) = some 2#8 := by
  decide +kernel

/-! ## Witnesses: invariants -/

/-- Every record after reset is cleared. -/
theorem reset_record : ∀ i, State.reset.record i = ModuleRecord.cleared 0 := by decide +kernel

theorem reset_evidence (i : ModuleIndex) (m : Metric) : (State.reset.record i).evidence.get m = Evidence.cleared := by
  rw [reset_record]
  cases m <;> rfl

theorem witness_EveryStepSettles : Settled State.reset ∧ NothingOverdue State.reset := by
  refine ⟨⟨?_, fun h => absurd rfl h⟩, State.noneEndsBefore_iff.mp (by decide +kernel)⟩
  rintro ⟨h, _⟩
  exact absurd h (by decide)

theorem witness_EveryStepKeepsCapacities : WithinCapacities State.reset ∧ LinkAgrees State.reset := by
  refine ⟨⟨by decide, by decide, by decide, by decide, by decide, by decide, fun c => by cases c <;> decide,
    by decide, by decide +kernel, by decide, by decide, fun n h => absurd h List.not_mem_nil, by decide, ?_, ?_,
    ⟨by decide, ?_⟩, ?_, ?_, ?_,
    fun r h => absurd h List.not_mem_nil, fun e h => by cases h⟩,
    ⟨fun _ => rfl, fun _ => rfl, by decide, fun _ => rfl, by decide⟩⟩
  · simp [reset_record, ModuleRecord.cleared]
  · simp [reset_record, ModuleRecord.cleared]
  · simp [reset_record, ModuleRecord.cleared]
  · intro i m; rw [reset_evidence]; decide
  · intro i m; rw [reset_evidence]; decide
  · intro i m v h; rw [reset_evidence] at h; cases h

theorem default_inRange : Tables.default.InRange := by
  refine ⟨fun i => ?_, fun i => ?_, fun i => ?_, fun i => ?_, ⟨by decide, by decide, by decide, ?_⟩⟩
  · rw [show Tables.default.orig.get i = OriginClass.default from get_replicate _ i]
    exact ⟨by decide, by decide, by decide, by decide⟩
  · rw [show Tables.default.rule.get i = GradingRule.default from get_replicate _ i]
    exact ⟨fun _ => by decide, fun h => (by cases h), fun _ h => (by cases h), fun _ h => (by cases h)⟩
  · rw [show Tables.default.pcls.get i = PairingClass.default from get_replicate _ i]
    exact ⟨by decide, by decide, by decide, by decide, by decide, by decide⟩
  · rw [show Tables.default.stat.get i = Station.default from get_replicate _ i]
    exact ⟨by decide, by decide⟩
  · intro a h; cases h

theorem witness_EveryStepKeepsTablesAndRuns :
    TablesAgree State.reset ∧ RunsAgree State.reset ∧
      SearchAgrees (searched (inBay .testing) (evaluationOf .testing .bay .cap 60)) := by
  refine ⟨⟨default_inRange, default_inRange⟩, ⟨fun i m _ => ?_, fun i m k h => ?_⟩, (search_agrees _ _ rfl).2⟩
  · rw [reset_evidence]; rfl
  · rw [reset_evidence] at h; cases h

/-- The module of the last slot stands there, among stations of different addresses. -/
theorem witness_EveryStepKeepsPlaces : PlacesAgree (inSlot .inService) := by
  have hr : ∀ i, (inSlot .inService).record i =
      if i = 7 then module .inService 0x111 (.slot slot3) else ModuleRecord.cleared 0 := by
    decide +kernel
  have hs : ∀ p, (inSlot .inService).slot p =
      if p = slot3 then .occupied { index := 7, generation := 4 } else .unknown := by
    rintro ⟨a, b⟩
    revert a b
    decide +kernel
  have hb : ∀ b, (inSlot .inService).occupant b = none := by
    rintro ⟨e, c⟩
    revert e c
    decide +kernel
  have ho : ∀ i, (inSlot .inService).order i = .free := by decide +kernel
  refine ⟨fun i j hi hj _ => ?_, fun b m h => ?_, fun p m h => ?_, fun i h => ⟨slot3, ?_⟩, fun i o h => ?_,
    fun i o m h _ => ?_, fun i o m h _ => ?_, fun p i m h => ?_, fun i j o x h _ _ => ?_, fun p h => ?_, ?_⟩
  · have e : ∀ k, ((inSlot .inService).record k).state ≠ .free → k = 7 := by
      intro k hk
      rw [hr] at hk
      by_cases c : k = 7
      · exact c
      · rw [if_neg c] at hk
        exact absurd rfl hk
    rw [e i hi, e j hj]
  · rw [hb] at h
    cases h
  · rw [hs] at h
    by_cases c : p = slot3
    · rw [if_pos c] at h
      cases h
      subst c
      exact ⟨⟨by decide +kernel, by decide +kernel⟩, by decide +kernel⟩
    · rw [if_neg c] at h
      cases h
  · have c : i = 7 := by
      rw [hr] at h
      by_contra c
      rw [if_neg c] at h
      rcases h with h | h <;> cases h
    rw [c]
    decide +kernel
  · rw [ho] at h
    cases h
  · rw [ho] at h
    cases h
  · rw [ho] at h
    cases h
  · rw [hs] at h
    split at h <;> cases h
  · rw [ho] at h
    cases h
  · rw [hs]
    by_cases c : p = slot3
    · rw [c] at h
      exact absurd h (by decide +kernel)
    · rw [if_neg c]
      exact ⟨fun m => SlotRecord.noConfusion, fun i m => SlotRecord.noConfusion⟩
  · decide +kernel

theorem witness_EveryStepKeepsPool : PoolAgrees pooled := pooled_agrees

/-- A FILL request of the last slot; an order ISSUING and a choice's record. -/
theorem witness_EveryStepKeepsRequestsAndOrders :
    RequestsFit (askingFor .empty [asks slot3 .fill .ready]) ∧
      OrdersAgree (choosing (ordered (order .issuing swapped)) .fill) := by
  have h : ∀ i, (choosing (ordered (order .issuing swapped)) .fill).order i =
      if i = 2 then .order (order .issuing swapped) else if i = 6 then .reservedForChoice slot3 else .free := by
    decide +kernel
  have hc : (choosing (ordered (order .issuing swapped)) .fill).ot.creation = [2] := by decide +kernel
  refine ⟨⟨?_, ?_, ?_⟩, ⟨fun i j k hi hj _ _ => ?_, fun i k hi => ⟨2, ?_⟩, fun i => ?_, by rw [hc]; decide, ?_⟩⟩
  · decide +kernel
  · decide +kernel
  · decide +kernel
  · rw [h] at hi hj
    have e : ∀ x : OrderIndex, OrderRecord.onRing (if x = 2 then .order (order .issuing swapped)
        else if x = 6 then .reservedForChoice slot3 else .free) = true → x = 2 := by decide +kernel
    exact (e i hi).trans (e j hj).symm
  · rw [h] at hi ⊢
    by_cases e : i = 2
    · rw [if_pos e] at hi
      exact ⟨by decide, hi⟩
    · rw [if_neg e] at hi
      split at hi <;> cases hi
  · rw [hc, h]
    revert i
    decide +kernel
  · intro c e
    cases e
    decide +kernel

end Sys2Proof.Tests
end

section
/-! SUPPORT. The rule search (R71 to R74): what each condition of a match says, that the model's test is their
conjunction, and what the search answers. -/

namespace Sys2Proof.Machine

/-! ## The conditions of a match -/

/-- The place condition of R71. -/
theorem Applicability.covers_iff {a : Applicability} {p : Place} :
    a.covers p = true ↔ a = .both ∨ a = .bay ∧ p = .bay ∨ a = .service ∧ p = .service := by
  cases a <;> cases p <;> decide

theorem inWindow_absolute {r : GradingRule} {value : Nat} {reference : Option Nat} (h : r.mode = .absolute) :
    inWindow r value reference = true ↔ r.windowLow ≤ (value : Int) ∧ (value : Int) ≤ r.windowHigh := by
  simp [inWindow, h]

/-- A RELATIVE window holds no sample of a string without a reference (R73). -/
theorem inWindow_relative {r : GradingRule} {value : Nat} {reference : Option Nat} (h : r.mode = .relative) :
    inWindow r value reference = true ↔ ∃ x, reference = some x ∧
      r.windowLow ≤ (value : Int) - (x : Int) ∧ (value : Int) - (x : Int) ≤ r.windowHigh := by
  cases reference <;> simp [inWindow, h]

/-- A sample is inside a window when it meets the condition of the window's own mode (R72, R73). -/
theorem inWindow_iff {r : GradingRule} {value : Nat} {reference : Option Nat} :
    inWindow r value reference = true ↔
      (r.mode = .absolute → r.windowLow ≤ (value : Int) ∧ (value : Int) ≤ r.windowHigh) ∧
      (r.mode = .relative → ∃ x, reference = some x ∧
        r.windowLow ≤ (value : Int) - (x : Int) ∧ (value : Int) - (x : Int) ≤ r.windowHigh) := by
  cases h : r.mode with
  | absolute => simp [inWindow_absolute h]
  | relative => simp [inWindow_relative h]

theorem inQualifier_iff {o : Option Qualifier} {t : Int} :
    inQualifier o t = true ↔ ∀ q, o = some q → q.low ≤ t ∧ t ≤ q.high := by
  cases o <;> simp [inQualifier]

/-- The model's test of a rule is the six conditions of R71. -/
theorem GradingRule.matchesSample_iff {r : GradingRule} {e : Evaluation} :
    r.matchesSample e = true ↔ RuleMatches r e := by
  simp only [GradingRule.matchesSample, Bool.and_eq_true, decide_eq_true_eq, Applicability.covers_iff,
    inWindow_iff, inQualifier_iff]
  constructor
  · rintro ⟨⟨⟨⟨⟨valid, mask⟩, place⟩, metric⟩, absolute, relative⟩, qualifier⟩
    exact ⟨valid, mask, place, metric, absolute, relative, qualifier⟩
  · rintro ⟨valid, mask, place, metric, absolute, relative, qualifier⟩
    exact ⟨⟨⟨⟨⟨valid, mask⟩, place⟩, metric⟩, absolute, relative⟩, qualifier⟩

theorem GradingRule.matchesSample_eq_false_iff {r : GradingRule} {e : Evaluation} :
    r.matchesSample e = false ↔ ¬ RuleMatches r e := by
  rw [← GradingRule.matchesSample_iff, Bool.not_eq_true]

/-! ## The search -/

theorem lowest_eq_some_iff {α : Type} {n : Nat} {p : α → Bool} {v : Vector α n} {i : Fin n} :
    lowest p v = some i ↔ p (v.get i) = true ∧ ∀ j : Fin n, j.val < i.val → p (v.get j) = false :=
  ⟨lowest_some, fun ⟨found, lower⟩ => lowest_eq_some found lower⟩

theorem search_eq_rule_iff_lowest {rules : Vector GradingRule 96} {e : Evaluation} {i : Fin 96} :
    search rules e = .rule i ↔ lowest (fun r => r.matchesSample e) rules = some i := by
  unfold search
  split <;> simp [*]

theorem search_eq_noRule_iff_lowest {rules : Vector GradingRule 96} {e : Evaluation} :
    search rules e = .noRule ↔ lowest (fun r => r.matchesSample e) rules = none := by
  unfold search
  split <;> simp [*]

theorem search_eq_rule_iff {rules : Vector GradingRule 96} {e : Evaluation} {i : Fin 96} :
    search rules e = .rule i ↔
      RuleMatches (rules.get i) e ∧ ∀ j, j.val < i.val → ¬ RuleMatches (rules.get j) e := by
  simp only [search_eq_rule_iff_lowest, lowest_eq_some_iff, GradingRule.matchesSample_iff,
    GradingRule.matchesSample_eq_false_iff]

theorem search_eq_noRule_iff {rules : Vector GradingRule 96} {e : Evaluation} :
    search rules e = .noRule ↔ ∀ i, ¬ RuleMatches (rules.get i) e := by
  simp only [search_eq_noRule_iff_lowest, lowest_none, GradingRule.matchesSample_eq_false_iff]

/-- Settles O27: the model's test of a rule is the six conditions, and the search takes the lowest index that
passes it. -/
theorem searchFindsTheFirstMatch : Obligations.SearchFindsTheFirstMatch := by
  unfold Obligations.SearchFindsTheFirstMatch
  exact fun _ _ => ⟨fun _ => search_eq_rule_iff, search_eq_noRule_iff⟩

end Sys2Proof.Machine
end

section
/-! SUPPORT. Resolution (R88 to R90): the order of the grades, the worst of the four metric grades, and what a
resolution makes of a record with and without a metric UNGRADED. -/

namespace Sys2Proof.Machine

/-! ## The order of the grades -/

theorem Grade.rank_injective : Function.Injective Grade.rank := by
  intro g h
  cases g <;> cases h <;> decide

theorem Grade.worse_of_rank_le {g h : Grade} (le : g.rank ≤ h.rank) : g.worse h = h := if_pos le

theorem Grade.worse_of_rank_lt {g h : Grade} (lt : h.rank < g.rank) : g.worse h = g :=
  if_neg (Nat.not_le.2 lt)

@[simp] theorem Grade.rank_worse (g h : Grade) : (g.worse h).rank = max g.rank h.rank := by
  rcases Nat.lt_or_ge h.rank g.rank with lt | le
  · rw [Grade.worse_of_rank_lt lt, Nat.max_eq_left lt.le]
  · rw [Grade.worse_of_rank_le le, Nat.max_eq_right le]

/-- Among four grades, one that is at or worse than each is the result of the three comparisons. -/
theorem Grade.worse_four_eq {w x y z g : Grade} (mem : g = w ∨ g = x ∨ g = y ∨ g = z)
    (bound : w.rank ≤ g.rank ∧ x.rank ≤ g.rank ∧ y.rank ≤ g.rank ∧ z.rank ≤ g.rank) :
    ((w.worse x).worse y).worse z = g := by
  apply Grade.rank_injective
  have rank_mem : g.rank = w.rank ∨ g.rank = x.rank ∨ g.rank = y.rank ∨ g.rank = z.rank := by
    rcases mem with rfl | rfl | rfl | rfl <;> simp
  simp only [Grade.rank_worse]
  omega

/-! ## The evidence weighed -/

theorem EvidenceSets.worst_of_ungraded {e : EvidenceSets}
    (ungraded : e.cap.grade = none ∨ e.res.grade = none ∨ e.drift.grade = none ∨ e.heat.grade = none) :
    e.worst = none := by
  unfold EvidenceSets.worst
  split
  · next cap res drift heat => simp [cap, res, drift, heat] at ungraded
  · rfl

theorem EvidenceSets.worst_of_graded {e : EvidenceSets} {w x y z : Grade} (cap : e.cap.grade = some w)
    (res : e.res.grade = some x) (drift : e.drift.grade = some y) (heat : e.heat.grade = some z) :
    e.worst = some (((w.worse x).worse y).worse z) := by
  simp [EvidenceSets.worst, cap, res, drift, heat]

/-- The demotion's condition is short residency or excess gaps (R89). -/
theorem unearned_iff {c : OriginClass} {r : ModuleRecord} :
    unearned c r = true ↔
      (r.evidence.cap.confirmations < c.residency ∨ r.evidence.res.confirmations < c.residency ∨
        r.evidence.drift.confirmations < c.residency ∨ r.evidence.heat.confirmations < c.residency) ∨
      c.gapLimit < r.gapCount := by
  simp [unearned, shortResidency, excessGaps, or_assoc]

/-! ## The resolved record -/

theorem ModuleRecord.withGrade_of_worst_none {r : ModuleRecord} (c : OriginClass)
    (ungraded : r.evidence.worst = none) :
    r.withGrade c = { r with resolved := none, provisional := false } := by
  simp [ModuleRecord.withGrade, resolvedGrade, provisionalMark, ungraded]

theorem ModuleRecord.withGrade_of_worst_some {r : ModuleRecord} (c : OriginClass) {start : Grade}
    (graded : r.evidence.worst = some start) :
    r.withGrade c = { r with
      resolved := some (c.ceiling.worse (if unearned c r then start.demoted else start))
      provisional := unearned c r } := by
  simp [ModuleRecord.withGrade, resolvedGrade, provisionalMark, graded]

/-- Settles O30: the cases of a metric UNGRADED and of the four grades each fix the whole record, and the worst of
four grades is the one at or worse than each. -/
theorem resolutionWeighsTheEvidence : Obligations.ResolutionWeighsTheEvidence := by
  unfold Obligations.ResolutionWeighsTheEvidence
  rintro c r t rfl
  refine ⟨rfl, fun ungraded => ?_, fun g1 g2 g3 g4 start cap res drift heat mem bound => ?_⟩
  · rw [ModuleRecord.withGrade_of_worst_none c (EvidenceSets.worst_of_ungraded ungraded)]
    exact ⟨rfl, rfl⟩
  · have worst : r.evidence.worst = some start := by
      rw [EvidenceSets.worst_of_graded cap res drift heat, Grade.worse_four_eq mem bound]
    rw [ModuleRecord.withGrade_of_worst_some c worst]
    refine ⟨unearned_iff, _, if unearned c r then start.demoted else start, rfl, fun earned => ?_,
      fun marked => ?_, Grade.worse_of_rank_lt, Grade.worse_of_rank_le⟩
    · exact if_neg (Bool.eq_false_iff.1 earned)
    · rw [if_pos marked]
      cases start <;> rfl

end Sys2Proof.Machine
end

section
/-! SUPPORT. The references of a string (R111, R112): the values that count for one, the reference of values, what a
change of references does to requests and to the choice, and a recomputation with and without a change. -/

namespace Sys2Proof.Machine

/-! ## The reference of values -/

/-- With no slot left out, every position of the string counts by its slot's value (R111). -/
theorem State.referenceValues_whole (s : State) (m : Metric) (k : Fin 8) :
    s.referenceValues m k none =
      (List.finRange 16).filterMap fun p => s.slotValue m { string := k, position := p } := by
  simp only [State.referenceValues, positions, reduceCtorEq, if_false]

theorem State.slotValue_of_occupied {s : State} {p : SlotId} {x : ModuleRef} (m : Metric)
    (occupied : s.slot p = .occupied x) :
    s.slotValue m p = ((s.record x.index).evidence.get m).lastValue := by
  simp only [State.slotValue, occupied]

theorem State.slotValue_of_not_occupied {s : State} {p : SlotId} (m : Metric)
    (unoccupied : ∀ x, s.slot p ≠ .occupied x) : s.slotValue m p = none := by
  unfold State.slotValue
  split
  · next x occupied => exact absurd occupied (unoccupied x)
  all_goals rfl

theorem referenceOf_eq (values : List Nat) :
    referenceOf values =
      if values = [] then { value := none, count := 0 }
      else { value := some (values.sum / values.length), count := values.length } := by
  cases values <;> simp [referenceOf]

/-! ## What a change of references does -/

/-- Only a REMOVE choice does not use the stale mark (R158). -/
theorem Choice.marked_eq (c : Choice) :
    c.marked = if c.kind ≠ .remove then { c with stale := true } else c := by
  cases kind : c.kind <;> simp [Choice.marked, kind]

/-- The wake of one string's requests as one test of each request (R112, R139). -/
theorem State.wakeString_eq (s : State) (k : Fin 8) :
    s.wakeString k = s.setRequests (s.pe.requests.map fun q =>
      if q.slot.string = k ∧ q.status = .waiting then { q with status := .ready } else q) := by
  simp only [State.wakeString, Request.woken_eq, ite_and]

/-- The stale mark of a change of references as one test of the choice in progress (R158). -/
theorem State.markReferences_eq (s : State) (k : Fin 8) :
    s.markReferences k = s.setChoice (s.pe.choice.map fun c =>
      if c.slot.string = k ∧ c.kind ≠ .remove then { c with stale := true } else c) := by
  simp only [State.markReferences, Choice.marked_eq, ite_and]

/-! ## A recomputation -/

/-- A recomputation that finds both references as they stand changes nothing (R112). -/
theorem State.recompute_of_unchanged {s : State} {k : Fin 8}
    (unchanged : (s.string k).cap = s.computeReference .cap k none ∧
      (s.string k).res = s.computeReference .res k none) :
    s.recompute k = s := if_pos unchanged

/-- A recomputation that changes a reference stores both, marks the string's choice and wakes its requests (R112). -/
theorem State.recompute_of_changed {s : State} {k : Fin 8}
    (changed : ¬ ((s.string k).cap = s.computeReference .cap k none ∧
      (s.string k).res = s.computeReference .res k none)) :
    s.recompute k =
      ((s.setString k { s.string k with
          cap := s.computeReference .cap k none
          res := s.computeReference .res k none }).markReferences k).wakeString k := if_neg changed

/-- Settles O32: the values listed are those of `referenceValues`, so the two references are the computed ones, and
a recomputation is split by whether it changes either. -/
theorem referencesAreRoundedMeans : Obligations.ReferencesAreRoundedMeans := by
  unfold Obligations.ReferencesAreRoundedMeans
  intro s k values cap res valuesOf capOf resOf
  have counted (m : Metric) : s.referenceValues m k none = values m := by
    rw [State.referenceValues_whole, valuesOf]
    refine List.filterMap_congr fun p _ => ?_
    split
    · next x occupied => exact State.slotValue_of_occupied m occupied
    · next unoccupied => exact State.slotValue_of_not_occupied m unoccupied
  have computed (m : Metric) : s.computeReference m k none = referenceOf (values m) := by
    rw [State.computeReference, counted]
  have cap_eq : cap = s.computeReference .cap k none := by rw [capOf, computed, referenceOf_eq]
  have res_eq : res = s.computeReference .res k none := by rw [resOf, computed, referenceOf_eq]
  subst cap_eq res_eq
  refine ⟨State.recompute_of_unchanged, fun changed => ?_⟩
  rw [State.recompute_of_changed changed, State.wakeString_eq, State.markReferences_eq]
  rfl

end Sys2Proof.Machine
end

section
/-! SUPPORT. The scan of a choice (R149, R153 to R156): when a test is transparent and who passes it, what a term of
the score is, what one member makes of the best so far, and what a scan of several members ends with. -/

namespace Sys2Proof.Machine

/-! ## The tests -/

theorem transparent_iff {c : PairingClass} {r : Reference} :
    transparent c r = true ↔ r.count < c.referenceMinimum ∨ r.count = 0 := by
  simp [transparent]

/-- The magnitude of a difference as two comparisons without subtraction. -/
theorem magnitude_le_iff {v r n : Nat} : magnitude v r ≤ n ↔ v ≤ r + n ∧ r ≤ v + n := by
  unfold magnitude
  omega

theorem magnitude_le_of_le {v r n : Nat} (value : v ≤ n) (reference : r ≤ n) : magnitude v r ≤ n :=
  magnitude_le_iff.2 ⟨by omega, by omega⟩

theorem distance_eq_some_iff {value reference : Option Nat} {d : Nat} :
    distance value reference = some d ↔ ∃ v r, value = some v ∧ reference = some r ∧ magnitude v r = d := by
  cases value <;> cases reference <;> simp [distance]

/-- A CAP or RES test is passed by all when transparent, else by a member with a value within the tolerance (R153,
R154). -/
theorem toleranceTest_iff {c : PairingClass} {r : Reference} {tolerance : Nat} {value : Option Nat} :
    toleranceTest c r tolerance value = true ↔ transparent c r = true ∨
      ∃ v x, value = some v ∧ r.value = some x ∧ v ≤ x + tolerance ∧ x ≤ v + tolerance := by
  rw [toleranceTest, Bool.or_eq_true]
  refine or_congr_right ?_
  split
  · next d measured =>
    obtain ⟨v, x, rfl, reference, rfl⟩ := distance_eq_some_iff.1 measured
    simp [reference, magnitude_le_iff]
  · next unmeasured =>
    refine iff_of_false Bool.false_ne_true ?_
    rintro ⟨v, x, rfl, reference, -⟩
    simp [distance, reference] at unmeasured

theorem gradeTest_iff {c : PairingClass} {g : Option Grade} :
    gradeTest c g = true ↔ ∃ h, g = some h ∧ h.rank ≤ c.minimum.rank := by
  cases g <;> simp [gradeTest, Grade.atLeast]

/-! ## The flags -/

theorem flagNumber_eq (cap res grade : Bool) :
    flagNumber cap res grade = (if cap then 1 else 0) + (if res then 2 else 0) + (if grade then 4 else 0) := by
  cases cap <;> cases res <;> cases grade <;> rfl

theorem flagNumber_lt (cap res grade : Bool) : flagNumber cap res grade < 8 := by
  cases cap <;> cases res <;> cases grade <;> decide

theorem Choice.eligible_of_flags_none {c : Choice} (m : Member) (flags : c.cls.flags = 0) :
    c.eligible m = false := by
  rw [Choice.eligible, flags]
  exact BitVec.getLsbD_zero

theorem Choice.eligible_of_flags_all {c : Choice} (m : Member) (flags : c.cls.flags = 255) :
    c.eligible m = true := by
  have all : (255 : BitVec 8) = BitVec.allOnes 8 := rfl
  rw [Choice.eligible, flags, all, BitVec.getLsbD_allOnes]
  exact decide_eq_true (flagNumber_lt _ _ _)

/-! ## The terms of the score -/

theorem scoreTerm_of_transparent {c : PairingClass} {r : Reference} (weight : Nat) (value : Option Nat)
    (is_transparent : transparent c r = true) : scoreTerm c r weight value = 0 := if_pos is_transparent

theorem scoreTerm_of_applied {c : PairingClass} {r : Reference} (weight : Nat) (value : Option Nat)
    (applied : ¬ transparent c r = true) :
    scoreTerm c r weight value = weight * (distance value r.value).getD 65535 := if_neg applied

theorem scoreTerm_of_no_value {c : PairingClass} {r : Reference} {value : Option Nat} (weight : Nat)
    (applied : ¬ transparent c r = true) (absent : value = none) :
    scoreTerm c r weight value = weight * 65535 := by
  rw [scoreTerm_of_applied _ _ applied, absent]
  rfl

theorem scoreTerm_of_values {c : PairingClass} {r : Reference} {value : Option Nat} {v x : Nat} (weight : Nat)
    (applied : ¬ transparent c r = true) (measured : value = some v) (reference : r.value = some x) :
    scoreTerm c r weight value = weight * ((v - x) + (x - v)) := by
  rw [scoreTerm_of_applied _ _ applied, measured, reference]
  rfl

theorem distance_getD_le {value reference : Option Nat} {n : Nat} (values : ∀ v, value = some v → v ≤ n)
    (references : ∀ r, reference = some r → r ≤ n) : (distance value reference).getD n ≤ n := by
  cases measured : distance value reference with
  | none => exact le_rfl
  | some d =>
    obtain ⟨v, r, value_eq, reference_eq, rfl⟩ := distance_eq_some_iff.1 measured
    exact magnitude_le_of_le (values v value_eq) (references r reference_eq)

/-- A term is at most the greatest weight times the greatest distance (R147, R154). -/
theorem scoreTerm_le {c : PairingClass} {r : Reference} {weight : Nat} {value : Option Nat} (bound : weight ≤ 15)
    (values : ∀ v, value = some v → v ≤ 65535) (references : ∀ x, r.value = some x → x ≤ 65535) :
    scoreTerm c r weight value ≤ 15 * 65535 := by
  by_cases is_transparent : transparent c r = true
  · rw [scoreTerm_of_transparent _ _ is_transparent]
    exact Nat.zero_le _
  · rw [scoreTerm_of_applied _ _ is_transparent]
    exact Nat.mul_le_mul bound (distance_getD_le values references)

/-- Settles O35: the results named are those of the model's three tests, each clause of the score is a case of its
two terms, and each term has half of the bound. -/
theorem eligibilityAndScore : Obligations.EligibilityAndScore := by
  unfold Obligations.EligibilityAndScore
  intro c m capOpen resOpen cap res grade capOpen_iff resOpen_iff cap_iff res_iff grade_iff
  rw [← transparent_iff] at capOpen_iff resOpen_iff
  rw [capOpen_iff, ← toleranceTest_iff, ← Bool.eq_iff_iff] at cap_iff
  rw [resOpen_iff, ← toleranceTest_iff, ← Bool.eq_iff_iff] at res_iff
  rw [← gradeTest_iff, ← Bool.eq_iff_iff] at grade_iff
  rw [capOpen_iff, resOpen_iff]
  subst cap_iff res_iff grade_iff
  refine ⟨by rw [← flagNumber_eq]; rfl, Choice.eligible_of_flags_none m, Choice.eligible_of_flags_all m,
    ⟨_, _, rfl, scoreTerm_of_transparent _ _, scoreTerm_of_transparent _ _, scoreTerm_of_no_value _,
      scoreTerm_of_no_value _, fun _ _ => scoreTerm_of_values _, fun _ _ => scoreTerm_of_values _⟩,
    fun inRange values references => ?_⟩
  obtain ⟨capWeight, resWeight⟩ := inRange.weights
  have capTerm := scoreTerm_le (c := c.cls) capWeight (fun v h => values v (.inl h)) fun x h => references x (.inl h)
  have resTerm := scoreTerm_le (c := c.cls) resWeight (fun v h => values v (.inr h)) fun x h => references x (.inr h)
  exact Nat.add_le_add capTerm resTerm

/-! ## One member -/

theorem Choice.better_of_ineligible {c : Choice} {m : Member} (best : Option Best) (out : c.eligible m = false) :
    c.better best m = best := if_neg (Bool.eq_false_iff.1 out)

/-- The first eligible member and each of lower score becomes the best so far (R156). -/
theorem Choice.better_of_lower {c : Choice} {best : Option Best} {m : Member} (eligible : c.eligible m = true)
    (lower : ∀ b, best = some b → c.score m < b.score) :
    c.better best m = some { module := m.module, score := c.score m } := by
  unfold Choice.better
  rw [if_pos eligible]
  cases best with
  | none => rfl
  | some b => exact if_pos (lower b rfl)

/-- Only an eligible member of lower score replaces a best so far (R156). -/
theorem Choice.better_of_not_lower {c : Choice} {b : Best} {m : Member}
    (not_lower : c.eligible m = true → b.score ≤ c.score m) : c.better (some b) m = some b := by
  cases eligible : c.eligible m with
  | false => exact Choice.better_of_ineligible _ eligible
  | true =>
    unfold Choice.better
    rw [if_pos eligible]
    exact if_neg (Nat.not_lt.2 (not_lower eligible))

/-- After one member the best so far is that member, eligible, or as it was before. -/
theorem Choice.better_cases (c : Choice) (best : Option Best) (m : Member) :
    c.eligible m = true ∧ c.better best m = some { module := m.module, score := c.score m } ∨
      c.better best m = best ∧ (best = none → c.eligible m = false) := by
  cases eligible : c.eligible m with
  | false => exact .inr ⟨Choice.better_of_ineligible _ eligible, fun _ => rfl⟩
  | true =>
    cases best with
    | none => exact .inl ⟨rfl, Choice.better_of_lower eligible fun _ h => nomatch h⟩
    | some b =>
      rcases Nat.lt_or_ge (c.score m) b.score with lower | not_lower
      · exact .inl ⟨rfl, Choice.better_of_lower eligible fun _ h => Option.some.inj h ▸ lower⟩
      · exact .inr ⟨Choice.better_of_not_lower fun _ => not_lower, fun h => nomatch h⟩

theorem Choice.better_eq_none_iff {c : Choice} {best : Option Best} {m : Member} :
    c.better best m = none ↔ best = none ∧ c.eligible m = false := by
  rcases c.better_cases best m with ⟨eligible, taken⟩ | ⟨kept, first⟩
  · simp [taken, eligible]
  · rw [kept]
    exact ⟨fun h => ⟨h, first h⟩, And.left⟩

/-! ## Several members -/

/-- There is no best so far exactly when there was none and no member scanned is eligible. -/
theorem Choice.foldl_better_eq_none_iff {c : Choice} {l : List Member} {best : Option Best} :
    l.foldl c.better best = none ↔ best = none ∧ ∀ m ∈ l, c.eligible m = false := by
  induction l generalizing best with
  | nil => simp
  | cons m l ih => rw [List.foldl_cons, ih, Choice.better_eq_none_iff, List.forall_mem_cons, and_assoc]

/-- While every eligible member scanned scores above a bound, so does the best so far. -/
theorem Choice.foldl_better_above {c : Choice} {n : Nat} {l : List Member} {best : Option Best}
    (start : ∀ b, best = some b → n < b.score) (above : ∀ x ∈ l, c.eligible x = true → n < c.score x) :
    ∀ b, l.foldl c.better best = some b → n < b.score := by
  induction l generalizing best with
  | nil => exact start
  | cons m l ih =>
    rw [List.forall_mem_cons] at above
    obtain ⟨above_m, above_l⟩ := above
    refine ih (fun b h => ?_) above_l
    rcases c.better_cases best m with ⟨eligible, taken⟩ | ⟨kept, -⟩
    · cases taken.symm.trans h
      exact above_m eligible
    · exact start b (kept.symm.trans h)

/-- A best so far that no later eligible member scores below stands to the end, ties with it included (R156). -/
theorem Choice.foldl_better_stands {c : Choice} {b : Best} {l : List Member}
    (least : ∀ x ∈ l, c.eligible x = true → b.score ≤ c.score x) : l.foldl c.better (some b) = some b := by
  induction l with
  | nil => rfl
  | cons m l ih =>
    rw [List.forall_mem_cons] at least
    obtain ⟨least_m, least_l⟩ := least
    rw [List.foldl_cons, Choice.better_of_not_lower least_m, ih least_l]

/-! ## The scan -/

theorem Choice.chosen_of_start {c : Choice} (position : c.scanPosition = 0) (best : c.best = none) :
    c.chosen = c.members.foldl c.better none := by
  rw [Choice.chosen, position, best, List.drop_zero]

/-- The member that the scan moves over is the first of those left to scan. -/
theorem Choice.chosen_scanOne (c : Choice) : c.scanOne.chosen = c.chosen := by
  unfold Choice.scanOne
  split
  · next m found =>
    obtain ⟨inside, at_position⟩ := List.getElem?_eq_some_iff.1 found
    have left : c.members.drop c.scanPosition = m :: c.members.drop (c.scanPosition + 1) := by
      rw [List.drop_eq_getElem_cons inside, at_position]
    rw [Choice.chosen.eq_def c, left, List.foldl_cons]
    rfl
  · rfl

/-- The eligible member of lowest score, the earliest among equals, is the candidate (R156). -/
theorem Choice.foldl_better_of_least {c : Choice} {before after : List Member} {m : Member}
    (eligible : c.eligible m = true) (earlier : ∀ x ∈ before, c.eligible x = true → c.score m < c.score x)
    (later : ∀ x ∈ after, c.eligible x = true → c.score m ≤ c.score x) :
    (before ++ m :: after).foldl c.better none = some { module := m.module, score := c.score m } := by
  have above := Choice.foldl_better_above (best := none) (fun _ h => nomatch h) earlier
  rw [List.foldl_append, List.foldl_cons, Choice.better_of_lower eligible above]
  exact Choice.foldl_better_stands later

/-- Settles O36: the members before the least one leave a best so far above it, it replaces that, and those after it
leave it. -/
theorem bestCandidate : Obligations.BestCandidate := by
  unfold Obligations.BestCandidate
  refine ⟨fun c best m => ⟨Choice.better_of_ineligible best, Choice.better_of_lower, ?_⟩, Choice.chosen_scanOne,
    fun c position best => ?_⟩
  · rintro b rfl not_lower
    exact Choice.better_of_not_lower fun _ => not_lower
  · rw [Choice.chosen_of_start position best]
    refine ⟨Choice.foldl_better_eq_none_iff.trans (and_iff_right rfl), ?_⟩
    intro before m after members eligible earlier later
    rw [members]
    exact Choice.foldl_better_of_least eligible earlier later

end Sys2Proof.Machine
end

section
/-! SUPPORT. What one step can do (95, logs 2 to 4): the changes that a selection follows, those that a command makes,
the events of a step, and the induction over them that every invariant uses. -/

namespace Sys2Proof.Machine

/-! ## The end of an order in two parts -/

/-- Modules, slot, notice and expired list of an expiry (R181 steps 1 to 4). -/
def State.endExpired (s : State) (i : OrderIndex) (o : Order) : State :=
  let t := (s.claimModule o.work.incoming [.assigned] ModuleRecord.heldBack).claimModule o.work.outgoing
    [.outbound] ModuleRecord.heldBack
  let u := (t.releaseSlot o.slot i .unknown).raise (.orderExpired o.number)
  { u with ot := { u.ot with expired := addExpired u.ot.expired o.number } }

/-- Modules, slot, wakes and request at the end that ORDER-DONE reports (R176 steps 1 to 4). -/
def State.endReported (s : State) (i : OrderIndex) (o : Order) (done : Bool) : State :=
  if done then s.endDone i o else s.endRefused i o

/-- An order's record freed and the next order of its string promoted (R176 steps 5 and 6). -/
def State.closed (s : State) (i : OrderIndex) (o : Order) : State :=
  (s.freeOrderRecord i).promoteDeferred o.slot.string

theorem State.closeOrder_eq (s : State) (i : OrderIndex) (o : Order) :
    s.closeOrder i o = (s.closed i o).selectIfDue := rfl

theorem State.expire_eq (s : State) (i : OrderIndex) (o : Order) :
    s.expire i o = ((s.endExpired i o).closed i o).selectIfDue := rfl

/-! ## What a step can do -/

/-- A slot that SLOT-HOLDS may fill: in use, and neither RESERVED nor BLOCKED (R121). -/
structure State.Fillable (s : State) (p : SlotId) : Prop where
  inUse    : s.slotInUse p = true
  reserved : ∀ o m, s.slot p ≠ .reserved o m
  blocked  : s.slot p ≠ .blocked

/-- The changes that a selection follows in the same event, but for those of commands (R143, R164). -/
inductive Change (s : State) : State → Prop
  | none : Change s s
  | verdict (i : ModuleIndex) (rest : List ModuleIndex) (claims : s.rp.verdictClaims = i :: rest)
      (room : s.roomForOthers = true) : Change s (s.admitVerdict i)
  | arrive (r : MeasurementRecord) (tag : Tag) (c : Fin 16) (b : Bay) (next : s.nextRecord = some r)
      (target : s.target r = .bay b) : Change s (s.takeRecord.arriveAt b tag c)
  | depart (r : MeasurementRecord) (tag : Option Tag) (b : Bay) (next : s.nextRecord = some r)
      (target : s.target r = .bay b) : Change s (s.takeRecord.departAt b tag)
  | evaluation (e : Evaluation) (inProgress : s.ge.evaluation = some e) :
      Change s (s.completeEvaluation e).settleIfSafe
  | choice (c : Choice) (inProgress : s.pe.choice = some c) (noCommit : s.mu.pendingCommit = none) :
      Change s (s.completeChoice c)
  | choiceSettles (c : Choice) (inProgress : s.pe.choice = some c) : Change s (s.completeChoice c).settleIfSafe
  | expiry (i : OrderIndex) (o : Order) (t : Nat) (order : s.order i = .order o) (stage : o.stage = .issued t)
      (first : NothingEndsBefore s t) : Change s (((s.reachTime t).endExpired i o).closed i o)
  | safePoint : Change s s.settleIfSafe

/-- The changes of a command that a selection follows (R143). -/
inductive CommandChange (s : State) : State → Prop
  | commit (mask : BitVec 5) (noCommit : s.mu.pendingCommit = none) :
      CommandChange s (s.setPendingCommit (some mask)).settleIfSafe
  | emptied (p : SlotId) (slot : s.slot p = .unknown ∨ s.slot p = .blocked) :
      CommandChange s ((s.setSlot p .empty).raiseRequest p .fill .ready)
  | raised (p : SlotId) (slot : s.slot p = .empty) : CommandChange s (s.raiseRequest p .fill .ready)
  | vacated (p : SlotId) (m : ModuleRef) (slot : s.slot p = .occupied m) : CommandChange s (s.emptyOccupied p m)
  | taken (p : SlotId) (i : ModuleIndex) (fillable : s.Fillable p) (other : s.slot p ≠ .occupied (s.refOf i))
      (takable : (s.record i).takable = true) : CommandChange s (s.takeFor p i)
  | adopted (p : SlotId) (i : ModuleIndex) (tag : Tag) (fillable : s.Fillable p) (new : s.findTag tag = none)
      (lowest : (s.displace p).lowestFree = some i) : CommandChange s (s.adoptFor p i tag)
  | pooled (i : ModuleIndex) (held : (s.record i).state = .held) (graded : poolable (s.record i).resolved = true)
      (room : s.poolHasRoom = true) : CommandChange s (s.enterPool i)
  | heldGone (i : ModuleIndex) (held : (s.record i).state = .held) : CommandChange s (s.freeRecord i)
  | pooledGone (i : ModuleIndex) (member : (s.record i).state = .pooled) :
      CommandChange s ((s.freeRecord i).leavePool i)
  | waitingGone (i : ModuleIndex) (waiting : (s.record i).poolWaiting = true) :
      CommandChange s ((s.freeRecord i).leavePoolWait i)
  | ended (i : OrderIndex) (o : Order) (t : Nat) (done : Bool) (order : s.order i = .order o)
      (stage : o.stage = .issued t) : CommandChange s ((s.endReported i o done).closed i o)
  | woken (p : SlotId) : CommandChange s (s.updateRequest p Request.woken)
  | allWoken : CommandChange s s.wakeAll
  | retired (p : SlotId) (m : ModuleRef) (slot : s.slot p = .occupied m) : CommandChange s (s.retireAt p m)
  | resumed : CommandChange s (s.setMode .run).forgetSequences

/-- What the execution of a command leaves of the state it was taken in, before its REPLY is offered (R187). -/
inductive CommandEffect (s : State) : State → Prop
  | same : CommandEffect s s
  | changed (t : State) (change : CommandChange s t) : CommandEffect s t.selectIfDue
  | loaded (entries : List (Nat × Table × List Byte)) (ws : List EntryWrite) (writes : writesOf entries = .ok ws) :
      CommandEffect s (s.setShadow (ws.foldl Tables.write s.mu.shadow))
  | blocked (p : SlotId) (slot : s.slot p = .empty ∨ s.slot p = .unknown) :
      CommandEffect s ((s.setSlot p .blocked).withdraw p)
  | halted : CommandEffect s (s.setMode .halted)
  | cleared : CommandEffect s s.clearEngine.settleIfSafe
  | counted : CommandEffect s (s.setCounters .zero)

/-- The events of which every step is made. -/
inductive Event (s : State) : State → Prop
  | asserted : Event s { s with rp := { s.rp with resetAsserted := true, sending := .heldHigh } }
  | released (straps : BitVec 3) : Event s { State.afterReset straps with pending := s.pending }
  | received (c : LineCharacter) : Event s (s.receive c)
  | transitFreed : Event s (s.setRing { s.rp with transitQueue := s.rp.transitQueue.tail })
  | originateFreed : Event s (s.setRing { s.rp with originateQueue := s.rp.originateQueue.tail })
  | decided : Event s s.decideNext
  | reply : Event s s.admitReply
  | order (x : OrderIndex × Order) (claim : s.orderClaim = some x) (room : s.roomForOthers = true) :
      Event s (s.admitOrder x)
  | notice (n : Notice) (rest : List Notice) (notices : s.mu.notices = n :: rest) (room : s.roomForOthers = true) :
      Event s (s.admitNotice n)
  | ignored (r : MeasurementRecord) (next : s.nextRecord = some r) : Event s (s.takeRecord.count .samplesIgnored)
  | measuredBay (r : MeasurementRecord) (k : Metric) (v : Nat) (w : Int) (b : Bay) (next : s.nextRecord = some r)
      (content : r.content = .measure k v w) (target : s.target r = .bay b) :
      Event s (s.takeRecord.measureBay b k v w)
  | measuredSlot (r : MeasurementRecord) (k : Metric) (v : Nat) (w : Int) (p : SlotId)
      (next : s.nextRecord = some r) (content : r.content = .measure k v w) (target : s.target r = .slot p) :
      Event s (s.takeRecord.measureSlot p k v w)
  | selected (t : State) (p : Policy) (change : Change s t) : Event s (t.select p)
  | settled (i : ModuleIndex) (x : SettleTimer) (running : s.timer i = some x)
      (first : NothingEndsBefore s x.expiresAt) : Event s (s.expireTimer i x)
  | ticked (first : NothingEndsBefore s (s.timeBase + 1)) : Event s s.tick
  | command (f : Frame) (rest : List Frame) (a : Answer) (queue : s.mu.commandQueue = f :: rest)
      (effect : CommandEffect (s.setCommands rest) a.state) : Event s (offerReply f a)

/-- The state after some events, each in the state that those before it left. -/
abbrev Events : State → State → Prop := Relation.ReflTransGen Event

theorem Change.event {s t : State} (h : Change s t) : Event s t.selectIfDue := .selected t _ h

/-! ## The answers of the commands -/

/-- A slot that two parameters name is in use. -/
theorem State.slotInUse_of_named {s : State} {st po : Byte} {p : SlotId} (h : s.slotNamed st po = some p) :
    s.slotInUse p = true := by
  unfold State.slotNamed at h
  split at h
  · split at h
    · obtain rfl := Option.some.inj h
      assumption
    · cases h
  · cases h

theorem loadChunks_effect (params : List Byte) (s : State) : CommandEffect s (loadChunks params s).state := by
  unfold loadChunks
  split
  · exact .same
  · split
    · exact .same
    · split
      · exact .same
      · next ws writes => exact .loaded _ ws writes

theorem commitMask_effect (params : List Byte) (s : State) : CommandEffect s (commitMask params s).state := by
  unfold commitMask
  split
  · split
    · exact .same
    · split
      · exact .same
      · next noCommit => exact .changed _ (.commit _ noCommit)
  · exact .same

theorem readTableEntries_state (params : List Byte) (s : State) : (readTableEntries params s).state = s := by
  unfold readTableEntries
  split
  · split
    · split <;> rfl
    · rfl
  · rfl

theorem queryModuleRecord_state (params : List Byte) (s : State) : (queryModuleRecord params s).state = s := by
  unfold queryModuleRecord
  split
  · split <;> rfl
  · dsimp only
    split
    · split <;> rfl
    · rfl
  · rfl

theorem querySlotEntries_state (params : List Byte) (s : State) : (querySlotEntries params s).state = s := by
  unfold querySlotEntries
  split
  · split
    · split <;> rfl
    · rfl
  · rfl

@[simp] theorem inventoryOk_state (s : State) (form : Nat) : (inventoryOk s form).state = s := rfl

@[simp] theorem answer_state (s : State) (status : Status) : (answer s status).state = s := rfl

theorem State.slotEmptyAt_effect (s : State) (p : SlotId) : CommandEffect s (s.slotEmptyAt p).state := by
  unfold State.slotEmptyAt
  split
  · next slot => exact .changed _ (.emptied p (.inl slot))
  · next slot => exact .changed _ (.raised p slot)
  · next m slot =>
    rw [inventoryOk_state]
    exact .changed _ (.vacated p m slot)
  · exact .same
  · exact .same

theorem inventorySlotEmpty_effect (params : List Byte) (s : State) :
    CommandEffect s (inventorySlotEmpty params s).state := by
  unfold inventorySlotEmpty
  split
  · split
    · exact s.slotEmptyAt_effect _
    · exact .same
  · exact .same

theorem State.holdAt_effect {s : State} {p : SlotId} (fillable : s.Fillable p) (tag : Tag) :
    CommandEffect s (s.holdAt p tag).state := by
  unfold State.holdAt
  split
  · next i _ =>
    split
    · exact .same
    · next other =>
      split
      · next takable => exact .changed _ (.taken p i fillable other takable)
      · exact .same
  · next new =>
    split
    · next i lowest => exact .changed _ (.adopted p i tag fillable new lowest)
    · exact .same

theorem inventorySlotHolds_effect (params : List Byte) (s : State) :
    CommandEffect s (inventorySlotHolds params s).state := by
  unfold inventorySlotHolds
  split
  · dsimp only
    split
    · next p named =>
      split
      · split
        · exact .same
        · exact .same
        all_goals
          next slot =>
            exact State.holdAt_effect ⟨State.slotInUse_of_named named, by simp [slot], by simp [slot]⟩ _
      · exact .same
    · exact .same
  · exact .same

theorem inventorySlotBlock_effect (params : List Byte) (s : State) :
    CommandEffect s (inventorySlotBlock params s).state := by
  unfold inventorySlotBlock
  split
  · split
    · split
      · next slot => exact .blocked _ (.inl slot)
      · next slot => exact .blocked _ (.inr slot)
      all_goals exact .same
    · exact .same
  · exact .same

theorem inventorySlotUnblock_effect (params : List Byte) (s : State) :
    CommandEffect s (inventorySlotUnblock params s).state := by
  unfold inventorySlotUnblock
  split
  · split
    · split
      · next slot => exact .changed _ (.emptied _ (.inr slot))
      all_goals exact .same
    · exact .same
  · exact .same

theorem State.toPool_effect (s : State) (i : ModuleIndex) : CommandEffect s (s.toPool i).state := by
  unfold State.toPool
  split
  · next held =>
    split
    · next room => exact .changed _ (.pooled i held.1 held.2 room)
    · exact .same
  · exact .same

theorem inventoryModuleToPool_effect (params : List Byte) (s : State) :
    CommandEffect s (inventoryModuleToPool params s).state := by
  unfold inventoryModuleToPool
  split
  · dsimp only
    split
    · split
      · exact s.toPool_effect _
      · exact .same
    · exact .same
  · exact .same

theorem State.forget_effect (s : State) (i : ModuleIndex) : CommandEffect s (s.forget i).state := by
  unfold State.forget
  split
  · next held => exact .changed _ (.heldGone i held)
  · next member => exact .changed _ (.pooledGone i member)
  · split
    · next waiting => exact .changed _ (.waitingGone i waiting)
    · exact .same

theorem inventoryModuleGone_effect (params : List Byte) (s : State) :
    CommandEffect s (inventoryModuleGone params s).state := by
  unfold inventoryModuleGone
  split
  · dsimp only
    split
    · split
      · exact s.forget_effect _
      · exact .same
    · exact .same
  · exact .same

/-- The order that a number finds is in its record (R175). -/
theorem State.orderNumbered_some {s : State} {n : Byte} {i : OrderIndex} {o : Order}
    (h : s.orderNumbered n = some (i, o)) : s.order i = .order o ∧ o.number = n := by
  unfold State.orderNumbered at h
  split at h
  · next k found =>
    obtain ⟨x, order, pair⟩ := Option.map_eq_some_iff.mp h
    obtain ⟨rfl, rfl⟩ := Prod.mk.inj pair
    have numbered := (lowest_some found).1
    change OrderRecord.numbered n (s.order k) = true at numbered
    cases record : s.order k with
    | free => rw [record] at order; cases order
    | reservedForChoice p => rw [record] at order; cases order
    | order y =>
      rw [record] at order numbered
      obtain rfl := Option.some.inj order
      exact ⟨rfl, by simpa [OrderRecord.numbered] using numbered⟩
  · cases h

theorem State.reportOrder_effect (s : State) (n : Byte) (done : Bool) :
    CommandEffect s (s.reportOrder n done).state := by
  unfold State.reportOrder
  split
  · next i o numbered =>
    split
    · next t stage =>
      exact .changed _ (.ended i o t done (State.orderNumbered_some numbered).1 stage)
    · exact .same
    · exact .same
  · split <;> exact .same

theorem reportOrderDone_effect (params : List Byte) (s : State) :
    CommandEffect s (reportOrderDone params s).state := by
  unfold reportOrderDone
  split
  · split
    · exact s.reportOrder_effect _ _
    · exact .same
  · exact .same

theorem State.requestFillAt_effect (s : State) (p : SlotId) : CommandEffect s (s.requestFillAt p).state := by
  unfold State.requestFillAt
  split
  · split
    · exact .changed _ (.woken p)
    · exact .same
    · exact .same
  · split
    · next slot => exact .changed _ (.raised p slot)
    all_goals exact .same

theorem requestFill_effect (params : List Byte) (s : State) : CommandEffect s (requestFill params s).state := by
  unfold requestFill
  split
  · split
    · exact s.requestFillAt_effect _
    · exact .same
  · exact .same

theorem retire_effect (params : List Byte) (s : State) : CommandEffect s (retire params s).state := by
  unfold retire
  split
  · split
    · split
      · next m slot => exact .changed _ (.retired _ m slot)
      all_goals exact .same
    · exact .same
  · exact .same

theorem resumeEngine_effect (params : List Byte) (s : State) : CommandEffect s (resumeEngine params s).state := by
  unfold resumeEngine
  split
  · exact .same
  · exact .changed _ .resumed

theorem readErrorCounters_effect (params : List Byte) (s : State) :
    CommandEffect s (readErrorCounters params s).state := by
  unfold readErrorCounters
  split
  · split
    · next clear _ =>
      cases clear
      · exact .same
      · exact .counted
    · exact .same
  · exact .same

/-! ## The rows -/

/-- A row of a command takes the head of the queue, does what its meaning does and offers the REPLY, or waits (R187). -/
theorem State.execute_events {row : CommandRow} {meaning : List Byte → State → Answer}
    (effect : ∀ params s, CommandEffect s (meaning params s).state) (s : State) :
    Events s (s.execute row meaning) := by
  unfold State.execute
  split
  · next f rest _ queue =>
    split
    · refine .single (.command f rest _ queue ?_)
      unfold State.answerCommand
      split
      · split
        · split
          · exact .same
          · exact effect _ _
        · exact .same
      · exact .same
    · exact .refl
  · exact .refl

theorem same_effect {meaning : List Byte → State → Answer} (same : ∀ params s, (meaning params s).state = s) :
    ∀ params s, CommandEffect s (meaning params s).state := by
  intro params s
  rw [same]
  exact .same

/-- The claim that stands first is the first of its kind (R14). -/
theorem State.firstClaim_cases {s : State} {c : Claim} (h : s.firstClaim = some c) :
    (∃ x, c = .order x ∧ s.orderClaim = some x) ∨
      (∃ i rest, c = .verdict i ∧ s.orderClaim = none ∧ s.rp.verdictClaims = i :: rest) ∨
      ∃ n rest, c = .notice n ∧ s.orderClaim = none ∧ s.rp.verdictClaims = [] ∧ s.mu.notices = n :: rest := by
  unfold State.firstClaim at h
  split at h
  · next x order => exact .inl ⟨x, (Option.some.inj h).symm, order⟩
  · next i rest order claims => exact .inr (.inl ⟨i, rest, (Option.some.inj h).symm, order, claims⟩)
  · next n rest order claims notices =>
    exact .inr (.inr ⟨n, rest, (Option.some.inj h).symm, order, claims, notices⟩)
  · cases h

theorem State.admitClaim_event {s : State} {c : Claim} (first : s.firstClaim = some c)
    (room : s.roomForOthers = true) : Event s (s.admitClaim c) := by
  rcases State.firstClaim_cases first with ⟨x, rfl, claim⟩ | ⟨i, rest, rfl, -, claims⟩ | ⟨n, rest, rfl, -, -, notices⟩
  · exact .order x claim room
  · exact (Change.verdict i rest claims room).event
  · exact .notice n rest notices room

theorem State.admitClaims_events (n : Nat) (s : State) : Events s (State.admitClaims n s) := by
  induction n generalizing s with
  | zero => exact .refl
  | succ n ih =>
    unfold State.admitClaims
    split
    · next c first =>
      split
      · next room => exact .head (State.admitClaim_event first room) (ih _)
      · exact .refl
    · exact .refl

theorem State.endSending_events (s : State) : Events s s.endSending := by
  unfold State.endSending
  split
  · exact .single .transitFreed
  · exact .head .originateFreed (.head .reply (State.admitClaims_events _ _))
  · exact .refl
  · exact .refl

theorem State.takeArrive_events {s : State} {r : MeasurementRecord} (next : s.nextRecord = some r) (tag : Tag)
    (c : Fin 16) : Events s (s.takeArrive r tag c) := by
  unfold State.takeArrive
  split
  · next b target => exact .single (Change.arrive r tag c b next target).event
  · exact .single (.ignored r next)
  · exact .single (.ignored r next)

theorem State.takeDepart_events {s : State} {r : MeasurementRecord} (next : s.nextRecord = some r)
    (tag : Option Tag) : Events s (s.takeDepart r tag) := by
  unfold State.takeDepart
  split
  · next b target => exact .single (Change.depart r tag b next target).event
  · exact .single (.ignored r next)
  · exact .single (.ignored r next)

theorem State.takeMeasure_events {s : State} {r : MeasurementRecord} {k : Metric} {v : Nat} {w : Int}
    (next : s.nextRecord = some r) (content : r.content = .measure k v w) : Events s (s.takeMeasure r k v w) := by
  unfold State.takeMeasure
  split
  · next b target => exact .single (.measuredBay r k v w b next content target)
  · next p target => exact .single (.measuredSlot r k v w p next content target)
  · exact .single (.ignored r next)

theorem State.settleExpiry_events (s : State) (i : ModuleIndex) : Events s (s.settleExpiry i) := by
  unfold State.settleExpiry
  split
  · next x running =>
    split
    · next first => exact .single (.settled i x running (State.noneEndsBefore_iff.mp first))
    · exact .refl
  · exact .refl

theorem OrderRecord.order?_eq_some {r : OrderRecord} {o : Order} : r.order? = some o ↔ r = .order o := by
  cases r <;> simp [OrderRecord.order?]

theorem State.orderExpiry_events (s : State) (i : OrderIndex) : Events s (s.orderExpiry i) := by
  unfold State.orderExpiry
  split
  · next o found =>
    unfold State.expireOrder
    split
    · next t stage =>
      split
      · next first =>
        exact .single (Change.expiry i o t (OrderRecord.order?_eq_some.mp found) stage
          (State.noneEndsBefore_iff.mp first)).event
      · exact .refl
    · exact .refl
    · exact .refl
  · exact .refl

theorem idle_events (s : State) : Events s (idle s) := by
  unfold idle
  split
  · next first => exact .single (.ticked (State.noneEndsBefore_iff.mp first))
  · unfold State.firstExpiry
    split
    · exact s.settleExpiry_events _
    · split
      · exact s.orderExpiry_events _
      · exact .refl

theorem State.afterCompletion_event {s : State} {c : Choice} (inProgress : s.pe.choice = some c) :
    Event s (s.completeChoice c).afterCompletion := by
  have commit : (s.completeChoice c).mu.core.pendingCommit = s.mu.core.pendingCommit := by
    rw [State.completeChoice_inner]
  unfold State.afterCompletion
  split
  · exact (Change.choiceSettles c inProgress).event
  · next none => exact .selected _ .priority (.choice c inProgress (commit.symm.trans none))

/-- Every row is made of events. -/
theorem exec_events {c : Instr} {s t : State} (h : exec c s = .next t) : Events s t := by
  cases c <;> obtain rfl := Host.Outcome.next.inj h
  case resetnAssert => exact .single .asserted
  case resetnRelease straps => exact .single (.released straps)
  case characterReceived c => exact .single (.received c)
  case egressDecision =>
    split
    · exact .refl
    · exact .tail s.endSending_events .decided
  case replyAdmission => exact .single .reply
  case orderAdmission =>
    split
    · next x first =>
      split
      · next room => exact .single (State.admitClaim_event first room)
      · exact .refl
    · exact .refl
  case verdictAdmission =>
    split
    · next i first =>
      split
      · next room => exact .single (State.admitClaim_event first room)
      · exact .refl
    · exact .refl
  case noticeAdmission =>
    split
    · next n first =>
      split
      · next room => exact .single (State.admitClaim_event first room)
      · exact .refl
    · exact .refl
  case arrive =>
    split
    · next r next =>
      split
      · exact State.takeArrive_events next _ _
      · exact .refl
      · exact .refl
    · exact .refl
  case depart =>
    split
    · next r next =>
      split
      · exact State.takeDepart_events next _
      · exact .refl
      · exact .refl
    · exact .refl
  case measure =>
    split
    · next r next =>
      split
      · next content => exact State.takeMeasure_events next content
      · exact .refl
      · exact .refl
    · exact .refl
  case evaluationCompletion =>
    split
    · next e inProgress => exact .single (Change.evaluation e inProgress).event
    · exact .refl
  case settleExpiry record =>
    split
    · exact s.settleExpiry_events _
    · exact .refl
  case selection => exact .single Change.none.event
  case choiceCompletion =>
    split
    · next c inProgress => exact .single (State.afterCompletion_event inProgress)
    · exact .refl
  case orderExpiry order =>
    split
    · exact s.orderExpiry_events _
    · exact .refl
  case commitSafePoint => exact .single Change.safePoint.event
  case load => exact s.execute_events loadChunks_effect
  case commit => exact s.execute_events commitMask_effect
  case readTable => exact s.execute_events (same_effect readTableEntries_state)
  case queryModule => exact s.execute_events (same_effect queryModuleRecord_state)
  case querySlot => exact s.execute_events (same_effect querySlotEntries_state)
  case slotEmpty => exact s.execute_events inventorySlotEmpty_effect
  case slotHolds => exact s.execute_events inventorySlotHolds_effect
  case slotBlock => exact s.execute_events inventorySlotBlock_effect
  case slotUnblock => exact s.execute_events inventorySlotUnblock_effect
  case moduleToPool => exact s.execute_events inventoryModuleToPool_effect
  case moduleGone => exact s.execute_events inventoryModuleGone_effect
  case orderDone => exact s.execute_events reportOrderDone_effect
  case requestSlotFill => exact s.execute_events requestFill_effect
  case requestSlotWake => exact s.execute_events fun _ _ => .changed _ .allWoken
  case retireSlot => exact s.execute_events retire_effect
  case halt => exact s.execute_events fun _ _ => .halted
  case resume => exact s.execute_events resumeEngine_effect
  case clearEngine => exact s.execute_events fun _ _ => .cleared
  case readCounters => exact s.execute_events readErrorCounters_effect
  case readStatus => exact s.execute_events (same_effect fun _ _ => rfl)
  case unknownCommand => exact s.execute_events (same_effect fun _ _ => rfl)

/-- A property that does not look at the queue of commands and that every event keeps is kept by every step. -/
theorem step_keeps {P : State → Prop} (queue : ∀ s l, P s → P { s with pending := l })
    (event : ∀ s t, P s → Event s t → P t) {s t : State} (h : P s) (e : step s = .next t) : P t := by
  have events : ∀ {u v : State}, P u → Events u v → P v := by
    intro u v hu run
    induction run with
    | refl => exact hu
    | tail _ last ih => exact event _ _ ih last
  unfold step at e
  split at e
  · obtain rfl := Host.Outcome.next.inj e
    exact events h (idle_events s)
  · exact events (queue s _ h) (exec_events e)

end Sys2Proof.Machine
end

section
/-! SUPPORT. What the operations that stand between the shared ones and the events leave as it was: the displacement
and the taking of a slot's module, the retirement, the two parts of an order's end, the clearing of the engine. -/

namespace Sys2Proof.Machine

theorem ManagementUnit.pendingCommit_of_core {m n : ManagementUnit} (h : m.core = n.core) : m.pendingCommit = n.pendingCommit :=
  (congrArg ManagementUnit.pendingCommit h : m.core.pendingCommit = n.core.pendingCommit)

theorem ManagementUnit.active_of_core {m n : ManagementUnit} (h : m.core = n.core) : m.active = n.active :=
  (congrArg ManagementUnit.active h : m.core.active = n.core.active)

theorem ManagementUnit.mode_of_core {m n : ManagementUnit} (h : m.core = n.core) : m.mode = n.mode :=
  (congrArg ManagementUnit.mode h : m.core.mode = n.core.mode)

theorem ManagementUnit.shadow_of_core {m n : ManagementUnit} (h : m.core = n.core) : m.shadow = n.shadow :=
  (congrArg ManagementUnit.shadow h : m.core.shadow = n.core.shadow)

theorem ManagementUnit.commandQueue_of_core {m n : ManagementUnit} (h : m.core = n.core) : m.commandQueue = n.commandQueue :=
  (congrArg ManagementUnit.commandQueue h : m.core.commandQueue = n.core.commandQueue)

theorem ManagementUnit.active_of_still {m n : ManagementUnit} (h : m.still = n.still) : m.active = n.active :=
  (congrArg ManagementUnit.active h : m.still.active = n.still.active)

theorem ManagementUnit.mode_of_still {m n : ManagementUnit} (h : m.still = n.still) : m.mode = n.mode :=
  (congrArg ManagementUnit.mode h : m.still.mode = n.still.mode)

theorem ManagementUnit.shadow_of_still {m n : ManagementUnit} (h : m.still = n.still) : m.shadow = n.shadow :=
  (congrArg ManagementUnit.shadow h : m.still.shadow = n.still.shadow)

theorem ManagementUnit.pendingCommit_of_still {m n : ManagementUnit} (h : m.still = n.still) : m.pendingCommit = n.pendingCommit :=
  (congrArg ManagementUnit.pendingCommit h : m.still.pendingCommit = n.still.pendingCommit)

@[simp] theorem State.emptyOccupied_frame (s : State) (p : SlotId) (m : ModuleRef) :
    (s.emptyOccupied p m).rp = s.rp ∧ (s.emptyOccupied p m).iu = s.iu ∧ (s.emptyOccupied p m).ge = s.ge ∧
    (s.emptyOccupied p m).ot = s.ot ∧ (s.emptyOccupied p m).mu = s.mu ∧
    (s.emptyOccupied p m).timeBase = s.timeBase ∧ (s.emptyOccupied p m).pending = s.pending ∧
    (s.emptyOccupied p m).pe.choice.isSome = s.pe.choice.isSome := by
  simp [State.emptyOccupied]

@[simp] theorem State.displace_frame (s : State) (p : SlotId) :
    (s.displace p).rp = s.rp ∧ (s.displace p).iu = s.iu ∧ (s.displace p).ge = s.ge ∧ (s.displace p).sm = s.sm ∧
    (s.displace p).pe = s.pe ∧ (s.displace p).ot = s.ot ∧ (s.displace p).mu = s.mu ∧
    (s.displace p).timeBase = s.timeBase ∧ (s.displace p).pending = s.pending := by
  unfold State.displace
  split <;> simp

@[simp] theorem State.occupy_frame (s : State) (p : SlotId) (i : ModuleIndex) :
    (s.occupy p i).rp = s.rp ∧ (s.occupy p i).iu = s.iu ∧ (s.occupy p i).ge = s.ge ∧ (s.occupy p i).mr = s.mr ∧
    (s.occupy p i).ot = s.ot ∧ (s.occupy p i).mu = s.mu ∧ (s.occupy p i).timeBase = s.timeBase ∧
    (s.occupy p i).pending = s.pending ∧ (s.occupy p i).pe.choice.isSome = s.pe.choice.isSome := by
  simp [State.occupy]

@[simp] theorem State.takeFor_frame (s : State) (p : SlotId) (i : ModuleIndex) :
    (s.takeFor p i).rp = s.rp ∧ (s.takeFor p i).iu = s.iu ∧ (s.takeFor p i).ge = s.ge ∧
    (s.takeFor p i).ot = s.ot ∧ (s.takeFor p i).mu = s.mu ∧ (s.takeFor p i).timeBase = s.timeBase ∧
    (s.takeFor p i).pending = s.pending ∧ (s.takeFor p i).pe.choice.isSome = s.pe.choice.isSome := by
  unfold State.takeFor
  dsimp only
  split <;> simp

@[simp] theorem State.adoptFor_frame (s : State) (p : SlotId) (i : ModuleIndex) (tag : Tag) :
    (s.adoptFor p i tag).rp = s.rp ∧ (s.adoptFor p i tag).iu = s.iu ∧ (s.adoptFor p i tag).ge = s.ge ∧
    (s.adoptFor p i tag).ot = s.ot ∧ (s.adoptFor p i tag).mu = s.mu ∧
    (s.adoptFor p i tag).timeBase = s.timeBase ∧ (s.adoptFor p i tag).pending = s.pending ∧
    (s.adoptFor p i tag).pe.choice.isSome = s.pe.choice.isSome := by
  simp [State.adoptFor]

@[simp] theorem State.retireAt_frame (s : State) (p : SlotId) (m : ModuleRef) :
    (s.retireAt p m).rp = s.rp ∧ (s.retireAt p m).iu = s.iu ∧ (s.retireAt p m).ge = s.ge ∧
    (s.retireAt p m).sm = s.sm ∧ (s.retireAt p m).ot = s.ot ∧ (s.retireAt p m).mu = s.mu ∧
    (s.retireAt p m).timeBase = s.timeBase ∧ (s.retireAt p m).pending = s.pending ∧
    (s.retireAt p m).pe.choice.isSome = s.pe.choice.isSome := by
  simp [State.retireAt]

@[simp] theorem State.endReported_frame (s : State) (i : OrderIndex) (o : Order) (done : Bool) :
    (s.endReported i o done).rp = s.rp ∧ (s.endReported i o done).iu = s.iu ∧
    (s.endReported i o done).ge = s.ge ∧ (s.endReported i o done).ot = s.ot ∧
    (s.endReported i o done).mu = s.mu ∧ (s.endReported i o done).timeBase = s.timeBase ∧
    (s.endReported i o done).pending = s.pending ∧
    (s.endReported i o done).pe.choice.isSome = s.pe.choice.isSome := by
  cases done <;> simp [State.endReported]

@[simp] theorem State.endExpired_frame (s : State) (i : OrderIndex) (o : Order) :
    (s.endExpired i o).rp = s.rp ∧ (s.endExpired i o).iu = s.iu ∧ (s.endExpired i o).ge = s.ge ∧
    (s.endExpired i o).pe = s.pe ∧ (s.endExpired i o).timeBase = s.timeBase ∧
    (s.endExpired i o).pending = s.pending ∧ (s.endExpired i o).mu.core = s.mu.core ∧
    (s.endExpired i o).ot = { s.ot with expired := addExpired s.ot.expired o.number } := by
  simp [State.endExpired]

@[simp] theorem State.closed_frame (s : State) (i : OrderIndex) (o : Order) :
    (s.closed i o).rp = s.rp ∧ (s.closed i o).iu = s.iu ∧ (s.closed i o).ge = s.ge ∧ (s.closed i o).mr = s.mr ∧
    (s.closed i o).sm = s.sm ∧ (s.closed i o).pe = s.pe ∧ (s.closed i o).mu = s.mu ∧
    (s.closed i o).timeBase = s.timeBase ∧ (s.closed i o).pending = s.pending := by
  simp [State.closed]

@[simp] theorem State.forgetSequences_frame (s : State) :
    s.forgetSequences.rp = s.rp ∧ s.forgetSequences.iu.intakeQueue = s.iu.intakeQueue ∧
    s.forgetSequences.ge = s.ge ∧ s.forgetSequences.mr = s.mr ∧ s.forgetSequences.sm = s.sm ∧
    s.forgetSequences.pe = s.pe ∧ s.forgetSequences.ot = s.ot ∧ s.forgetSequences.mu = s.mu ∧
    s.forgetSequences.timeBase = s.timeBase ∧ s.forgetSequences.pending = s.pending :=
  ⟨rfl, rfl, rfl, rfl, rfl, rfl, rfl, rfl, rfl, rfl⟩

@[simp] theorem State.expireTimer_frame (s : State) (i : ModuleIndex) (x : SettleTimer) :
    (s.expireTimer i x).rp = s.rp ∧ (s.expireTimer i x).iu = s.iu ∧ (s.expireTimer i x).sm = s.sm ∧
    (s.expireTimer i x).pe = s.pe ∧ (s.expireTimer i x).ot = s.ot ∧ (s.expireTimer i x).mu = s.mu ∧
    (s.expireTimer i x).pending = s.pending ∧
    (s.expireTimer i x).ge = { s.ge with settleTimers := put s.ge.settleTimers i none } ∧
    (s.expireTimer i x).timeBase = max s.timeBase x.expiresAt := by
  simp [State.expireTimer]

@[simp] theorem State.tick_frame (s : State) :
    s.tick.rp = s.rp ∧ s.tick.iu = s.iu ∧ s.tick.mr = s.mr ∧ s.tick.sm = s.sm ∧ s.tick.ot = s.ot ∧
    s.tick.mu = s.mu ∧ s.tick.pending = s.pending ∧ s.tick.timeBase = s.timeBase + 1 ∧
    s.tick.ge.settleTimers = s.ge.settleTimers ∧
    s.tick.ge.evaluation = s.ge.evaluation.map (fun e => { e with found := some (s.searchResult e) }) ∧
    s.tick.pe = { s.pe with choice := s.pe.choice.map Choice.scanOne } :=
  ⟨rfl, rfl, rfl, rfl, rfl, rfl, rfl, rfl, rfl, rfl, rfl⟩

@[simp] theorem State.clearEngine_frame (s : State) :
    s.clearEngine.iu = .cleared ∧ s.clearEngine.ge = .cleared ∧ s.clearEngine.mr = .cleared ∧
    s.clearEngine.pe = .cleared ∧ s.clearEngine.timeBase = s.timeBase ∧ s.clearEngine.pending = s.pending ∧
    s.clearEngine.ot = { OrderTracker.cleared with numberCounter := s.ot.numberCounter } ∧
    s.clearEngine.mu = { s.mu with mode := .halted, notices := [] } ∧
    s.clearEngine.rp = { s.rp with verdictClaims := [] } ∧ s.clearEngine.sm = s.clearedStrings :=
  ⟨rfl, rfl, rfl, rfl, rfl, rfl, rfl, rfl, rfl, rfl⟩

end Sys2Proof.Machine
end

section
/-! SUPPORT. What is done at once (R143, R192): after every event no selection is due, and a pending commit waits for
an evaluation or a choice. -/

namespace Sys2Proof.Machine

/-- A pending commit waits for an evaluation or a choice in progress (R192). -/
def State.commitWaits (s : State) : Prop :=
  s.mu.pendingCommit ≠ none → s.ge.evaluation.isSome = true ∨ s.pe.choice.isSome = true

theorem Settled.waits {s : State} (h : Settled s) : s.commitWaits := by
  simpa only [State.commitWaits, Option.isSome_iff_ne_none] using h.commitWaits

theorem Settled.of_waits {s : State} (selection : ¬ s.selectionConditions) (waits : s.commitWaits) : Settled s :=
  ⟨selection, by simpa only [State.commitWaits, Option.isSome_iff_ne_none] using waits⟩

theorem State.commitWaits_of_eq {s t : State} (h : s.commitWaits) (commit : t.mu.pendingCommit = s.mu.pendingCommit)
    (evaluation : t.ge.evaluation.isSome = s.ge.evaluation.isSome)
    (choice : t.pe.choice.isSome = s.pe.choice.isSome) : t.commitWaits := by
  rwa [State.commitWaits, commit, evaluation, choice]

theorem State.commitWaits_of_none {s : State} (h : s.mu.pendingCommit = none) : s.commitWaits :=
  fun pending => absurd h pending

theorem State.takeCommit_pendingCommit (s : State) (mask : BitVec 5) :
    (s.takeCommit mask).mu.pendingCommit = s.mu.pendingCommit := by
  simp [State.takeCommit]

theorem State.settleCommit_pendingCommit (s : State) (mask : BitVec 5) :
    (s.settleCommit mask).mu.pendingCommit = none := by
  unfold State.settleCommit
  split <;> simp [State.takeCommit_pendingCommit]

/-- A commit not settled at once waits (R192). -/
theorem State.settleIfSafe_commitWaits (s : State) : s.settleIfSafe.commitWaits := by
  unfold State.settleIfSafe
  split
  · split
    · exact State.commitWaits_of_none (s.settleCommit_pendingCommit _)
    · next unsafe_point =>
      intro _
      simp only [State.atSafePoint, Bool.and_eq_true, Option.isNone_iff_eq_none, not_and_or] at unsafe_point
      simpa only [Option.isSome_iff_ne_none] using unsafe_point
  · next none => exact State.commitWaits_of_none none

/-- A selection begins a choice and ends none. -/
theorem State.select_commitWaits {s : State} (h : s.commitWaits) (p : Policy) : (s.select p).commitWaits := by
  by_cases due : s.selectionConditions
  · obtain ⟨q, o, -, -, selected⟩ := select_due due p
    rw [selected]
    exact fun _ => .inr rfl
  · rwa [select_not_due due]

theorem State.pendingCommit_of_nextRecord {s : State} {r : MeasurementRecord} (h : s.nextRecord = some r) :
    s.mu.pendingCommit = none ∧ s.ge.evaluation = none ∧ ∃ rest, s.iu.intakeQueue = r :: rest := by
  unfold State.nextRecord at h
  split at h
  · next idle =>
    obtain ⟨evaluation, commit⟩ := Bool.and_eq_true_iff.mp idle
    obtain ⟨rest, queue⟩ := List.head?_eq_some_iff.mp h
    exact ⟨Option.isNone_iff_eq_none.mp commit, Option.isNone_iff_eq_none.mp evaluation, rest, queue⟩
  · cases h

theorem Change.commitWaits {s t : State} (h : s.commitWaits) (change : Change s t) : t.commitWaits := by
  cases change with
  | none => exact h
  | verdict i => exact State.commitWaits_of_eq h (by simp) (by simp) (by simp)
  | arrive r tag c b next =>
    refine State.commitWaits_of_none ?_
    rw [ManagementUnit.pendingCommit_of_core (State.arriveAt_inner _ b tag c).2.2.2]
    exact (State.pendingCommit_of_nextRecord next).1
  | depart r tag b next =>
    exact State.commitWaits_of_none (by simpa using (State.pendingCommit_of_nextRecord next).1)
  | evaluation e => exact State.settleIfSafe_commitWaits _
  | choice c _ noCommit =>
    refine State.commitWaits_of_none ?_
    rwa [ManagementUnit.pendingCommit_of_core (s.completeChoice_inner c)]
  | choiceSettles c => exact State.settleIfSafe_commitWaits _
  | expiry i o t =>
    refine State.commitWaits_of_eq h ?_ (by simp) (by simp)
    simpa using ManagementUnit.pendingCommit_of_core ((s.reachTime t).endExpired_frame i o).2.2.2.2.2.2.1
  | safePoint => exact State.settleIfSafe_commitWaits _

theorem CommandChange.commitWaits {s t : State} (h : s.commitWaits) (change : CommandChange s t) :
    t.commitWaits := by
  cases change with
  | commit => exact State.settleIfSafe_commitWaits _
  | taken p i => exact State.commitWaits_of_eq h (by simp) (by simp) (by simp)
  | _ => exact State.commitWaits_of_eq h (by simp) (by simp) (by simp)

/-- What makes no selection due that was not due keeps a part settled. -/
theorem Settled.of_no_more {s t : State} (h : Settled s) (waits : t.commitWaits)
    (mode : t.mu.mode = .run → s.mu.mode = .run) (choice : t.pe.choice.isSome = s.pe.choice.isSome)
    (commit : t.mu.pendingCommit = s.mu.pendingCommit) (orders : ∀ o, t.order o = .free → s.order o = .free)
    (requests : ∀ q ∈ t.pe.requests, q ∈ s.pe.requests) : Settled t := by
  refine .of_waits ?_ waits
  rintro ⟨run, noChoice, noCommit, ⟨o, free⟩, q, queued, ready⟩
  refine h.noSelectionDue ⟨mode run, ?_, commit ▸ noCommit, ⟨o, orders o free⟩, q, requests q queued, ready⟩
  rw [noChoice] at choice
  exact Option.not_isSome_iff_eq_none.mp (by simp [← choice])

/-- What leaves the mode, the choice, the commit, the orders and the requests as they were keeps a part settled. -/
theorem Settled.of_eq {s t : State} (h : Settled s) (mu : t.mu.mode = s.mu.mode ∧
    t.mu.pendingCommit = s.mu.pendingCommit) (pe : t.pe = s.pe) (ot : t.ot = s.ot)
    (evaluation : t.ge.evaluation.isSome = s.ge.evaluation.isSome) : Settled t := by
  obtain ⟨mode, commit⟩ := mu
  refine h.of_no_more (State.commitWaits_of_eq h.waits commit evaluation (by rw [pe])) (fun run => mode ▸ run)
    (by rw [pe]) commit (fun o => ?_) (by simp [pe])
  simp [State.order, ot]

/-- A halted part makes no selection. -/
theorem Settled.of_halted {s : State} (halted : s.mu.mode = .halted) (waits : s.commitWaits) : Settled s := by
  refine .of_waits ?_ waits
  rintro ⟨run, -⟩
  rw [halted] at run
  cases run

@[simp] theorem State.takeCommit_mode (s : State) (mask : BitVec 5) : (s.takeCommit mask).mu.mode = s.mu.mode := by
  simp [State.takeCommit]

@[simp] theorem State.settleIfSafe_mode (s : State) : s.settleIfSafe.mu.mode = s.mu.mode := by
  unfold State.settleIfSafe State.settleCommit
  (repeat' split) <;> simp

theorem Settled.effect {s t : State} (h : Settled s) (effect : CommandEffect s t) : Settled t := by
  cases effect with
  | same => exact h
  | changed t change =>
    exact .of_waits (selectIfDue_conditions t) (State.select_commitWaits (change.commitWaits h.waits) _)
  | loaded entries ws => exact h.of_eq ⟨rfl, rfl⟩ rfl rfl rfl
  | blocked p =>
    refine h.of_no_more (State.commitWaits_of_eq h.waits (by simp) (by simp) (by simp)) (by simp) (by simp) (by simp)
      (fun o => by simp [State.order]) fun q queued => ?_
    exact (List.mem_filter.mp queued).1
  | halted => exact .of_halted rfl (State.commitWaits_of_eq h.waits rfl rfl rfl)
  | cleared => exact .of_halted (by simp) (State.settleIfSafe_commitWaits _)
  | counted => exact h.of_eq ⟨rfl, rfl⟩ rfl rfl rfl

/-- An order put in a record of an order frees none. -/
theorem State.setOrder_free {s : State} {i j : OrderIndex} {o : Order}
    (h : (s.setOrder i (.order o)).order j = .free) : s.order j = .free := by
  rw [State.order_setOrder] at h
  split at h
  · cases h
  · exact h

theorem Settled.event {s t : State} (h : Settled s) (event : Event s t) : Settled t := by
  cases event with
  | asserted => exact h.of_eq ⟨rfl, rfl⟩ rfl rfl rfl
  | released straps => exact .of_halted rfl (State.commitWaits_of_none rfl)
  | received c =>
    have still := State.receive_inner s c
    exact h.of_eq ⟨ManagementUnit.mode_of_still still, ManagementUnit.pendingCommit_of_still still⟩ (by simp)
      (by simp) (by simp)
  | transitFreed => exact h.of_eq ⟨rfl, rfl⟩ rfl rfl rfl
  | originateFreed => exact h.of_eq ⟨rfl, rfl⟩ rfl rfl rfl
  | decided => exact h.of_eq ⟨rfl, rfl⟩ rfl rfl rfl
  | reply =>
    refine h.of_eq ?_ (by simp) (by simp) (by simp)
    unfold State.admitReply
    (repeat' split) <;> simp
  | order x =>
    refine h.of_no_more (State.commitWaits_of_eq h.waits (by simp) (by simp) (by simp)) (by simp) (by simp) (by simp)
      (fun o free => ?_) (by simp)
    simpa [State.order] using State.setOrder_free free
  | notice n =>
    have core := s.admitNotice_inner n
    exact h.of_eq ⟨ManagementUnit.mode_of_core core, ManagementUnit.pendingCommit_of_core core⟩ (by simp) (by simp)
      (by simp)
  | ignored r => exact h.of_eq ⟨rfl, rfl⟩ rfl rfl rfl
  | measuredBay r k v w b next =>
    have noCommit := (State.pendingCommit_of_nextRecord next).1
    refine h.of_no_more (State.commitWaits_of_none (by simpa using noCommit)) (by simp) (by simp) (by simp)
      (fun o => by simp [State.order]) (by simp)
  | measuredSlot r k v w p next =>
    have noCommit := (State.pendingCommit_of_nextRecord next).1
    refine h.of_no_more (State.commitWaits_of_none (by simpa using noCommit)) (by simp) (by simp) (by simp)
      (fun o => by simp [State.order]) (by simp)
  | selected u p change =>
    exact .of_waits (select_conditions u p) (State.select_commitWaits (change.commitWaits h.waits) p)
  | settled i x => exact h.of_eq (by simp) (by simp) (by simp) (by simp)
  | ticked =>
    refine h.of_no_more (State.commitWaits_of_eq h.waits (by simp) (by simp) (by simp)) (by simp) (by simp) (by simp)
      (fun o => by simp [State.order]) (by simp)
  | command f rest a queue effect =>
    have taken : Settled (s.setCommands rest) := h.of_eq ⟨rfl, rfl⟩ rfl rfl rfl
    exact (taken.effect effect).of_eq ⟨rfl, rfl⟩ rfl rfl rfl

end Sys2Proof.Machine
end

section
/-! SUPPORT. The completions and the commit taken apart into the ways they can go, for the invariants that each way
keeps. -/

namespace Sys2Proof.Machine

/-- The ways the completion of a choice can go, before the choice ends (R159 to R163). -/
inductive ChoiceOutcome (s : State) (c : Choice) : State → Prop
  | discarded : ChoiceOutcome s c (s.discardChoice c)
  | noCandidate : ChoiceOutcome s c (s.noCandidate c)
  | applied (q : Request) (w : OrderWork) (request : s.selectedRequest c = some q)
      (work : c.work (c.chosen.map Best.module) = some w) (holds : s.choiceHolds c w = true) :
      ChoiceOutcome s c ((s.applyChoice c w).afterChoice c w)

theorem State.completeChoice_outcome (s : State) (c : Choice) :
    ∃ t, ChoiceOutcome s c t ∧ s.completeChoice c = t.setChoice none := by
  refine ⟨_, ?_, rfl⟩
  split
  · exact .discarded
  · next q request =>
    split
    · exact .discarded
    · split
      · exact .noCandidate
      · split
        · next w work =>
          split
          · next holds => exact .applied q w request work holds
          · exact .discarded
        · exact .discarded

/-- The ways the completion of an evaluation can go, before the evaluation ends (R81 to R83). -/
inductive EvaluationOutcome (s : State) (e : Evaluation) : State → Prop
  | applied (found : s.finds e.module e.place.expected = true) : EvaluationOutcome s e (s.applyCompletion e)
  | declined : EvaluationOutcome s e (s.count .samplesIgnored)

theorem State.completeEvaluation_outcome (s : State) (e : Evaluation) :
    ∃ t, EvaluationOutcome s e t ∧ s.completeEvaluation e = t.setEvaluation none := by
  unfold State.completeEvaluation
  split
  · next found => exact ⟨_, .applied found, rfl⟩
  · exact ⟨_, .declined, rfl⟩

/-- What a settled commit can do (R192 to R194). -/
inductive CommitOutcome (s : State) : State → Prop
  | waits : CommitOutcome s s
  | refused (f : CommitFailure) : CommitOutcome s ((s.setPendingCommit none).raise (.commitRefused f))
  | taken (mask : BitVec 5) (pending : s.mu.pendingCommit = some mask) (evaluation : s.ge.evaluation = none)
      (choice : s.pe.choice = none) (valid : s.validate mask = none) :
      CommitOutcome s ((s.setPendingCommit none).takeCommit mask)

theorem State.settleIfSafe_outcome (s : State) : CommitOutcome s s.settleIfSafe := by
  unfold State.settleIfSafe
  split
  · next mask pending =>
    split
    · next safe =>
      simp only [State.atSafePoint, Bool.and_eq_true, Option.isNone_iff_eq_none] at safe
      unfold State.settleCommit
      split
      · next f _ => exact .refused f
      · next valid => exact .taken mask pending safe.1 safe.2 valid
    · exact .waits
  · exact .waits

theorem State.ite_keeps {P : State → Prop} {s t : State} {b : Prop} [Decidable b] (stays : P s) (goes : b → P t) :
    P (if b then t else s) := by
  split
  · next named => exact goes named
  · exact stays

/-- Steps 1 to 5 of R194, each made or left out: what holds up to the geometry and what holds from there on. -/
theorem State.commitEffects_stages {P Q : State → Prop} {mask : BitVec 5} {old : Tables} {s : State} (h : P s)
    (stations : names mask .stat = true → P (s.carryStations old.stat s.mu.active.stat))
    (geometry : ∀ t, t.mu = s.mu → t.sm = s.sm → t.ot = s.ot → P t → names mask .bank = true →
      Q (t.applyGeometry old.bank s.mu.active.bank))
    (same : ∀ t, P t → names mask .bank = false → Q t)
    (runs : ∀ t, Q t → Q t.clearRuns) (priorities : ∀ t, Q t → Q t.rereadPriorities)
    (wake : ∀ t, Q t → Q t.wakeAll) : Q (s.commitEffects mask old) := by
  have carried : (fun t : State => P t ∧ t.mu = s.mu ∧ t.sm = s.sm ∧ t.ot = s.ot)
      (if names mask .stat then s.carryStations old.stat s.mu.active.stat else s) :=
    State.ite_keeps (P := fun t => P t ∧ t.mu = s.mu ∧ t.sm = s.sm ∧ t.ot = s.ot) ⟨h, rfl, rfl, rfl⟩
      fun named => ⟨stations named, by simp⟩
  obtain ⟨kept, mu, sm, ot⟩ := carried
  unfold State.commitEffects
  generalize (if names mask .stat then s.carryStations old.stat s.mu.active.stat else s) = a at *
  have fitted : Q (if names mask .bank then a.applyGeometry old.bank s.mu.active.bank else a) := by
    split
    · next named => exact geometry a mu sm ot kept named
    · next named => exact same a kept (Bool.eq_false_iff.mpr named)
  have cleared := State.ite_keeps fitted fun _ : names mask .rule = true => runs _ fitted
  have reread := State.ite_keeps cleared fun _ : (names mask .pcls || names mask .bank) = true => priorities _ cleared
  exact State.ite_keeps reread fun _ : (names mask .pcls || names mask .bank || names mask .orig) = true =>
    wake _ reread

/-- What every step of R194 keeps is kept by them together. -/
theorem State.commitEffects_keeps {P : State → Prop} {mask : BitVec 5} {old : Tables} {s : State} (h : P s)
    (stations : names mask .stat = true → P (s.carryStations old.stat s.mu.active.stat))
    (geometry : ∀ t, t.mu = s.mu → t.sm = s.sm → t.ot = s.ot → P t → names mask .bank = true →
      P (t.applyGeometry old.bank s.mu.active.bank))
    (runs : ∀ t, P t → P t.clearRuns) (priorities : ∀ t, P t → P t.rereadPriorities)
    (wake : ∀ t, P t → P t.wakeAll) : P (s.commitEffects mask old) :=
  State.commitEffects_stages h stations geometry (fun _ h _ => h) runs priorities wake

end Sys2Proof.Machine
end

section
/-! SUPPORT. The ends of settle timers and deadlines (R61, R180): what each operation starts ends no earlier than now,
so that no event lets the time base pass one that runs. -/

namespace Sys2Proof.Machine

/-- The second state has the first one's time base, and every timer or deadline that runs in it runs in the first or
ends no earlier than that. -/
structure NoEarlierEnd (s t : State) : Prop where
  time      : t.timeBase = s.timeBase
  timers    : ∀ i x, t.timer i = some x → s.timer i = some x ∨ s.timeBase ≤ x.expiresAt
  deadlines : ∀ i e, (t.order i).deadline = some e → (s.order i).deadline = some e ∨ s.timeBase ≤ e

namespace NoEarlierEnd

theorem refl (s : State) : NoEarlierEnd s s := ⟨rfl, fun _ _ => .inl, fun _ _ => .inl⟩

theorem trans {s t u : State} (h : NoEarlierEnd s t) (k : NoEarlierEnd t u) : NoEarlierEnd s u where
  time := k.time.trans h.time
  timers i x running := (k.timers i x running).elim (h.timers i x) fun later => .inr (h.time ▸ later)
  deadlines i e running := (k.deadlines i e running).elim (h.deadlines i e) fun later => .inr (h.time ▸ later)

theorem of_eq {s t : State} (time : t.timeBase = s.timeBase) (timers : t.ge.settleTimers = s.ge.settleTimers)
    (orders : t.ot.table = s.ot.table) : NoEarlierEnd s t where
  time := time
  timers i x := by simp only [State.timer, timers]; exact .inl
  deadlines i e := by simp only [State.order, orders]; exact .inl

theorem of_timers {s t : State} (time : t.timeBase = s.timeBase)
    (timers : ∀ i x, t.timer i = some x → s.timer i = some x ∨ s.timeBase ≤ x.expiresAt)
    (orders : t.ot = s.ot) : NoEarlierEnd s t where
  time := time
  timers := timers
  deadlines i e := by simp only [State.order, orders]; exact .inl

/-- A part in which nothing is overdue stays so. -/
theorem keeps {s t : State} (h : NoEarlierEnd s t) (k : NothingOverdue s) : NothingOverdue t := by
  refine ⟨fun i x running => ?_, fun i o e order stage => ?_⟩
  · rw [h.time]
    exact (h.timers i x running).elim (k.timers i x) id
  · rw [h.time]
    refine (h.deadlines i e (OrderRecord.deadline_eq_some.mpr ⟨o, order, stage⟩)).elim (fun old => ?_) id
    obtain ⟨o', order', stage'⟩ := OrderRecord.deadline_eq_some.mp old
    exact k.deadlines i o' e order' stage'

/-! ## Timers -/

theorem setTimer_none (s : State) (i : ModuleIndex) : NoEarlierEnd s (s.setTimer i none) := by
  refine of_timers rfl (fun j x running => ?_) rfl
  rw [State.timer_setTimer] at running
  split at running
  · cases running
  · exact .inl running

theorem startSettle (s : State) (m : ModuleRef) : NoEarlierEnd s (s.startSettle m) := by
  unfold State.startSettle
  dsimp only
  split
  · exact (setTimer_none s m.index).trans (of_eq (by simp) (by simp) (by simp))
  · refine of_timers rfl (fun j x running => ?_) rfl
    rw [State.timer_setTimer] at running
    split at running
    · obtain rfl := Option.some.inj running
      exact .inr (Nat.le_add_right _ _)
    · exact .inl running

theorem completeArrival (s : State) (i : ModuleIndex) (tag : Tag) (c : Fin 16) (b : Bay) :
    NoEarlierEnd s (s.completeArrival i tag c b) := by
  unfold State.completeArrival
  exact (of_eq (by simp) (by simp) (by simp)).trans (startSettle _ _)

theorem makeVerdict (s : State) (i : ModuleIndex) (k : VerdictKind) : NoEarlierEnd s (s.makeVerdict i k) :=
  of_eq rfl rfl rfl

theorem abandon (s : State) (i : ModuleIndex) : NoEarlierEnd s (s.abandon i) :=
  (setTimer_none s i).trans (of_eq (by rfl) (by rfl) (by rfl))

theorem departModule (s : State) (m : ModuleRef) : NoEarlierEnd s (s.departModule m) := by
  unfold State.departModule
  split
  · exact abandon s m.index
  · split
    · exact of_eq (by simp) (by simp) (by simp)
    · exact refl s

theorem departFrom (s : State) (b : Bay) (m : ModuleRef) : NoEarlierEnd s (s.departFrom b m) :=
  (of_eq (by simp) (by simp) (by simp) : NoEarlierEnd s (s.clearBay b m)).trans (departModule _ m)

theorem departOccupant (s : State) (b : Bay) : NoEarlierEnd s (s.departOccupant b) := by
  unfold State.departOccupant
  split
  · exact departFrom s b _
  · exact refl s

theorem arriveTag (s : State) (b : Bay) (tag : Tag) (c : Fin 16) : NoEarlierEnd s (s.arriveTag b tag c) := by
  unfold State.arriveTag
  split
  · split
    · exact (of_eq (by simp) (by simp) (by simp)).trans (completeArrival _ _ tag c b)
    · exact of_eq rfl rfl rfl
  · split
    · exact completeArrival s _ tag c b
    · exact of_eq rfl rfl rfl

theorem arriveAt (s : State) (b : Bay) (tag : Tag) (c : Fin 16) : NoEarlierEnd s (s.arriveAt b tag c) :=
  (departOccupant s b).trans (arriveTag _ b tag c)

theorem departAt (s : State) (b : Bay) (tag : Option Tag) : NoEarlierEnd s (s.departAt b tag) := by
  unfold State.departAt
  split
  · exact of_eq rfl rfl rfl
  · split
    · exact departFrom s b _
    · exact of_eq rfl rfl rfl

theorem measureBay (s : State) (b : Bay) (k : Metric) (v : Nat) (w : Int) :
    NoEarlierEnd s (s.measureBay b k v w) := by
  unfold State.measureBay
  split
  · exact of_eq rfl rfl rfl
  · split
    · split
      · exact startSettle s _
      · exact of_eq rfl rfl rfl
    · split <;> exact of_eq rfl rfl rfl

theorem measureSlot (s : State) (p : SlotId) (k : Metric) (v : Nat) (w : Int) :
    NoEarlierEnd s (s.measureSlot p k v w) := by
  unfold State.measureSlot
  split <;> exact of_eq rfl rfl rfl

theorem afterResolution (s : State) (i : ModuleIndex) : NoEarlierEnd s (s.afterResolution i) := by
  unfold State.afterResolution
  split
  · split
    · exact of_eq rfl rfl rfl
    · exact refl s
  · exact of_eq (by simp) (by simp) (by simp)
  · exact refl s

theorem resolve (s : State) (i : ModuleIndex) : NoEarlierEnd s (s.resolve i) := by
  unfold State.resolve
  exact trans (t := s.setRecord i _) (of_eq rfl rfl rfl) (afterResolution _ i)

theorem tellStringMap (s : State) (e : Evaluation) (x : Option Nat) (l : Location) :
    NoEarlierEnd s (s.tellStringMap e x l) :=
  of_eq (by simp) (by simp) (by simp)

theorem applyCompletion (s : State) (e : Evaluation) : NoEarlierEnd s (s.applyCompletion e) := by
  unfold State.applyCompletion
  dsimp only
  refine trans ?_ (tellStringMap _ e _ _)
  split
  · exact of_eq rfl rfl rfl
  · split
    · exact trans (t := s.setRecord e.module.index _) (of_eq rfl rfl rfl) (resolve _ _)
    · exact of_eq rfl rfl rfl

theorem completeEvaluation (s : State) (e : Evaluation) : NoEarlierEnd s (s.completeEvaluation e) := by
  obtain ⟨t, outcome, completed⟩ := s.completeEvaluation_outcome e
  rw [completed]
  refine trans (t := t) ?_ (of_eq (by rfl) (by rfl) (by rfl))
  cases outcome with
  | applied => exact applyCompletion s e
  | declined => exact of_eq rfl rfl rfl

/-! ## Commits -/

theorem foldl {α : Type} {f : State → α → State} (each : ∀ s x, NoEarlierEnd s (f s x)) (l : List α) (s : State) :
    NoEarlierEnd s (l.foldl f s) := by
  induction l generalizing s with
  | nil => exact refl s
  | cons x l ih => exact (each s x).trans (ih _)

theorem carryStations (s : State) (old new : Vector Station 32) : NoEarlierEnd s (s.carryStations old new) := by
  unfold State.carryStations
  dsimp only
  refine trans ?_ (foldl departModule _ _)
  refine trans ?_ (foldl (fun u x => of_eq (by simp) (by simp) (by simp)) _ _)
  exact of_eq (by rfl) (by rfl) (by rfl)

theorem commitEffects (s : State) (mask : BitVec 5) (old : Tables) : NoEarlierEnd s (s.commitEffects mask old) :=
  State.commitEffects_keeps (refl s) (fun _ => carryStations s _ _)
    (fun _ _ _ _ h _ => h.trans (of_eq (by simp) (by simp) (by simp)))
    (fun _ h => h.trans (of_eq (by simp) (by simp) (by simp)))
    (fun _ h => h.trans (of_eq (by simp) (by simp) (by simp)))
    (fun _ h => h.trans (of_eq (by simp) (by simp) (by simp)))

theorem takeCommit (s : State) (mask : BitVec 5) : NoEarlierEnd s (s.takeCommit mask) := by
  refine trans (t := s.setActive (mergedTables mask s.mu.active s.mu.shadow)) (of_eq rfl rfl rfl) ?_
  exact (commitEffects _ mask s.mu.active).trans (of_eq (by simp [State.takeCommit]) (by simp [State.takeCommit])
    (by simp [State.takeCommit]))

theorem settleIfSafe (s : State) : NoEarlierEnd s s.settleIfSafe := by
  have outcome := s.settleIfSafe_outcome
  generalize s.settleIfSafe = t at outcome
  cases outcome with
  | waits => exact refl s
  | refused f => exact of_eq rfl rfl rfl
  | taken mask => exact trans (t := s.setPendingCommit none) (of_eq rfl rfl rfl) (takeCommit _ mask)

/-! ## Orders -/

/-- A record put in the Order Table with no deadline running starts none. -/
theorem setOrder {s : State} {i : OrderIndex} {r : OrderRecord} (still : r.deadline = none) :
    NoEarlierEnd s (s.setOrder i r) := by
  refine ⟨rfl, fun _ _ => .inl, fun j e running => ?_⟩
  rw [State.order_setOrder] at running
  split at running
  · rw [still] at running
    cases running
  · exact .inl running

theorem select (s : State) (p : Policy) : NoEarlierEnd s (s.select p) := by
  by_cases due : s.selectionConditions
  · obtain ⟨q, o, -, -, selected⟩ := select_due due p
    rw [selected]
    exact (setOrder rfl : NoEarlierEnd s (s.setOrder o (.reservedForChoice q.slot))).trans
      (of_eq (by simp) (by simp) (by simp))
  · rw [select_not_due due]
    exact refl s

theorem freeOrderRecord (s : State) (i : OrderIndex) : NoEarlierEnd s (s.freeOrderRecord i) :=
  (setOrder rfl : NoEarlierEnd s (s.setOrder i .free)).trans (of_eq rfl rfl rfl)

theorem promoteDeferred (s : State) (k : Fin 8) : NoEarlierEnd s (s.promoteDeferred k) := by
  unfold State.promoteDeferred
  split
  · exact setOrder rfl
  · exact refl s

theorem closed (s : State) (i : OrderIndex) (o : Order) : NoEarlierEnd s (s.closed i o) :=
  (freeOrderRecord s i).trans (promoteDeferred _ _)

theorem createOrder (s : State) (i : OrderIndex) (p : SlotId) (w : OrderWork) :
    NoEarlierEnd s (s.createOrder i p w) := by
  unfold State.createOrder
  refine (setOrder ?_).trans (of_eq rfl rfl rfl)
  change OrderStage.deadline (if _ then _ else _) = none
  split <;> rfl

theorem withdraw (s : State) (p : SlotId) : NoEarlierEnd s (s.withdraw p) :=
  of_eq (by simp) (by simp) (by simp)

theorem applyChoice (s : State) (c : Choice) (w : OrderWork) : NoEarlierEnd s (s.applyChoice c w) := by
  unfold State.applyChoice
  dsimp only
  refine trans ?_ (withdraw _ c.slot)
  refine trans ?_ (createOrder _ c.order c.slot w)
  exact of_eq (by simp) (by simp) (by simp)

theorem discardChoice (s : State) (c : Choice) : NoEarlierEnd s (s.discardChoice c) := by
  unfold State.discardChoice
  exact trans (freeOrderRecord s c.order) (of_eq (by simp) (by simp) (by simp))

theorem noCandidate (s : State) (c : Choice) : NoEarlierEnd s (s.noCandidate c) := by
  unfold State.noCandidate
  exact trans (freeOrderRecord s c.order) (of_eq (by simp) (by simp) (by simp))

theorem completeChoice (s : State) (c : Choice) : NoEarlierEnd s (s.completeChoice c) := by
  obtain ⟨t, outcome, completed⟩ := s.completeChoice_outcome c
  rw [completed]
  refine trans (t := t) ?_ (of_eq (by rfl) (by rfl) (by rfl))
  cases outcome with
  | discarded => exact discardChoice s c
  | noCandidate => exact noCandidate s c
  | applied q w => exact (applyChoice s c w).trans (of_eq (by simp) (by simp) (by simp))

theorem admitOrder (s : State) (x : OrderIndex × Order) : NoEarlierEnd s (s.admitOrder x) := by
  refine ⟨by simp, fun i y => by simp only [State.timer, State.admitOrder_frame]; exact .inl, fun j e running => ?_⟩
  unfold State.admitOrder at running
  rw [State.order_setOrder] at running
  split at running
  · obtain rfl := Option.some.inj running
    exact .inr (Nat.le_add_right _ _)
  · exact .inl (by simpa [State.order] using running)

/-! ## Events -/

/-- The time base moved on to an instant that nothing ends before. -/
theorem reachTime {s : State} {t : Nat} (h : NothingOverdue s) (first : NothingEndsBefore s t) :
    NothingOverdue (s.reachTime t) := by
  refine ⟨fun i x running => Nat.max_le.mpr ?_, fun i o e order stage => Nat.max_le.mpr ?_⟩
  · exact ⟨h.timers i x running, first.timers i x running⟩
  · exact ⟨h.deadlines i o e order stage, first.deadlines i o e order stage⟩

theorem change {s t : State} (h : NothingOverdue s) (change : Change s t) : NothingOverdue t := by
  cases change with
  | none => exact h
  | verdict i => exact (of_eq (by simp) (by simp) (by simp) : NoEarlierEnd s _).keeps h
  | arrive r tag c b => exact ((of_eq rfl rfl rfl : NoEarlierEnd s s.takeRecord).trans (arriveAt _ b tag c)).keeps h
  | depart r tag b => exact ((of_eq rfl rfl rfl : NoEarlierEnd s s.takeRecord).trans (departAt _ b tag)).keeps h
  | evaluation e => exact ((completeEvaluation s e).trans (settleIfSafe _)).keeps h
  | choice c => exact (completeChoice s c).keeps h
  | choiceSettles c => exact ((completeChoice s c).trans (settleIfSafe _)).keeps h
  | expiry i o t order stage first =>
    exact ((of_eq (by simp) (by simp) (by simp)).trans (closed _ i o)).keeps (reachTime h first)
  | safePoint => exact (settleIfSafe s).keeps h

theorem commandChange {s t : State} (change : CommandChange s t) : NoEarlierEnd s t := by
  cases change with
  | commit mask => exact trans (t := s.setPendingCommit (some mask)) (of_eq rfl rfl rfl) (settleIfSafe _)
  | ended i o t done =>
    exact (of_eq (by simp) (by simp) (by simp) : NoEarlierEnd s (s.endReported i o done)).trans (closed _ i o)
  | taken p i => exact of_eq (by simp) (by simp) (by simp)
  | _ => exact of_eq (by simp) (by simp) (by simp)

theorem effect {s t : State} (effect : CommandEffect s t) : NoEarlierEnd s t := by
  cases effect with
  | same => exact refl s
  | changed t change => exact (commandChange change).trans (select t _)
  | cleared =>
    refine trans (t := s.clearEngine) ⟨rfl, fun i x running => ?_, fun i e running => ?_⟩ (settleIfSafe s.clearEngine)
    · rw [State.timer, (State.clearEngine_frame s).2.1] at running
      cases (get_replicate (none : Option SettleTimer) i).symm.trans running
    · rw [State.order, (State.clearEngine_frame s).2.2.2.2.2.2.1] at running
      cases (congrArg OrderRecord.deadline (get_replicate OrderRecord.free i)).symm.trans running
  | _ => exact of_eq (by simp) (by simp) (by simp)

theorem afterReset (straps : BitVec 3) (l : List Instr) :
    NothingOverdue { State.afterReset straps with pending := l } :=
  ⟨fun _ _ _ => Nat.zero_le _, fun _ _ _ _ _ => Nat.zero_le _⟩

theorem event {s t : State} (h : NothingOverdue s) (event : Event s t) : NothingOverdue t := by
  cases event with
  | released straps => exact afterReset straps _
  | order x => exact (admitOrder s x).keeps h
  | measuredBay r k v w b =>
    exact ((of_eq rfl rfl rfl : NoEarlierEnd s s.takeRecord).trans (measureBay _ b k v w)).keeps h
  | measuredSlot r k v w p =>
    exact ((of_eq rfl rfl rfl : NoEarlierEnd s s.takeRecord).trans (measureSlot _ p k v w)).keeps h
  | selected u p ch => exact (select u p).keeps (change h ch)
  | settled i x running first =>
    unfold State.expireTimer
    exact ((setTimer_none _ i).trans (of_eq (by simp) (by simp) (by simp))).keeps (reachTime h first)
  | ticked first => exact ⟨first.timers, first.deadlines⟩
  | command f rest a queue eff =>
    have run : NoEarlierEnd s a.state := trans (t := s.setCommands rest) (of_eq rfl rfl rfl) (effect eff)
    exact (run.trans (of_eq (by rfl) (by rfl) (by rfl))).keeps h
  | _ => exact (of_eq (by simp) (by simp) (by simp) : NoEarlierEnd s _).keeps h

end NoEarlierEnd

/-- Settles O55, by the events of a step: each ends with the selection that is due made and the commit at its safe point
settled, and starts no timer or deadline that ends earlier than now. -/
theorem everyStepSettles : Obligations.EveryStepSettles := by
  unfold Obligations.EveryStepSettles
  refine ⟨fun s t => step_keeps (fun s l h => ?_) fun _ _ => Settled.event,
    fun s t => step_keeps (fun s l h => ?_) fun _ _ => NoEarlierEnd.event⟩
  · exact h.of_eq ⟨rfl, rfl⟩ rfl rfl rfl
  · exact NoEarlierEnd.keeps (s := s) (.of_eq (by rfl) (by rfl) (by rfl)) h

end Sys2Proof.Machine
end

section
/-! SUPPORT. What the operations do to a module record's counts and evidence (R25, R35, R36, R38): the counts stay
within their limits, and the evidence is kept or cleared by everything but a completion and a commit of rules. -/

namespace Sys2Proof.Machine

/-- The counts and the arrival number of a record are within their limits (R35, R38). -/
structure ModuleRecord.CountsWithin (r : ModuleRecord) : Prop where
  gaps    : r.gapCount ≤ 255
  watches : r.watchCount ≤ 15
  arrival : r.arrival ≤ 4294967295

/-- A change of a record that keeps its counts within their limits and its evidence as it was or cleared. -/
structure ModuleRecord.Keeps (r x : ModuleRecord) : Prop where
  evidence : x.evidence = r.evidence ∨ x.evidence = .cleared
  counts   : r.CountsWithin → x.CountsWithin

namespace ModuleRecord.Keeps

/-- A change that leaves evidence and arrival number and keeps the two counts or clears them. -/
theorem of_fields {r x : ModuleRecord} (evidence : x.evidence = r.evidence) (arrival : x.arrival = r.arrival)
    (gaps : x.gapCount = r.gapCount) (watches : x.watchCount = r.watchCount ∨ x.watchCount ≤ 15) : r.Keeps x where
  evidence := .inl evidence
  counts h := ⟨gaps ▸ h.gaps, watches.elim (fun same => same ▸ h.watches) id, arrival ▸ h.arrival⟩

/-- A change that clears the record but for fields other than these. -/
theorem of_cleared {r x : ModuleRecord} (evidence : x.evidence = .cleared) (arrival : x.arrival ≤ 4294967295)
    (gaps : x.gapCount = 0) (watches : x.watchCount = 0) : r.Keeps x where
  evidence := .inr evidence
  counts _ := ⟨gaps ▸ Nat.zero_le _, watches ▸ Nat.zero_le _, arrival⟩

/-- A change that leaves evidence, arrival number and counts. -/
theorem same {r x : ModuleRecord} (h : x.evidence = r.evidence ∧ x.arrival = r.arrival ∧ x.gapCount = r.gapCount ∧
    x.watchCount = r.watchCount) : r.Keeps x :=
  of_fields h.1 h.2.1 h.2.2.1 (.inl h.2.2.2)

theorem freed (r : ModuleRecord) : r.Keeps r.freed := of_cleared rfl (Nat.zero_le _) rfl rfl

theorem adopted (r : ModuleRecord) (tag : Tag) (p : SlotId) : r.Keeps (r.adopted tag p) :=
  of_cleared rfl (Nat.zero_le _) rfl rfl

theorem pooled (r : ModuleRecord) : r.Keeps r.pooled := of_fields rfl rfl rfl (.inr (Nat.zero_le _))

theorem waitsForPool (r : ModuleRecord) : r.Keeps r.waitsForPool := of_fields rfl rfl rfl (.inr (Nat.zero_le _))

theorem placed (r : ModuleRecord) (p : SlotId) : r.Keeps (r.placed p) := of_fields rfl rfl rfl (.inr (Nat.zero_le _))

theorem withWatch (r : ModuleRecord) {n : Nat} (h : n ≤ 15) : r.Keeps (r.withWatch n) := of_fields rfl rfl rfl (.inr h)

theorem gap (r : ModuleRecord) : r.Keeps { r with gapCount := satInc 255 r.gapCount } where
  evidence := .inl rfl
  counts h := ⟨Nat.min_le_right _ _, h.watches, h.arrival⟩

end ModuleRecord.Keeps

/-- The arrival counter and every record's counts are within their limits (R25, R35, R38). -/
structure State.CountsWithin (s : State) : Prop where
  counter : s.mr.arrivalCounter ≤ 4294967295
  records : ∀ i, (s.record i).CountsWithin

/-- Every record's counts stay within their limits and its evidence is as it was or cleared. -/
structure RegisterKept (s t : State) : Prop where
  evidence : ∀ i, (t.record i).evidence = (s.record i).evidence ∨ (t.record i).evidence = .cleared
  counts   : s.CountsWithin → t.CountsWithin

namespace RegisterKept

theorem of_eq {s t : State} (h : t.mr = s.mr) : RegisterKept s t where
  evidence i := .inl (by rw [State.record, h, ← State.record])
  counts k := ⟨h ▸ k.counter, fun i => by rw [State.record, h]; exact k.records i⟩

theorem refl (s : State) : RegisterKept s s := of_eq rfl

theorem trans {s t u : State} (h : RegisterKept s t) (k : RegisterKept t u) : RegisterKept s u where
  evidence i := (k.evidence i).elim (fun same => same ▸ h.evidence i) .inr
  counts within := k.counts (h.counts within)

/-- A state whose Module Register is that of another does what that one does. -/
theorem congr {s t u : State} (h : RegisterKept s t) (register : u.mr = t.mr) : RegisterKept s u :=
  h.trans (of_eq register)

/-- A change of a record put in a state that other changes have led to. -/
theorem setAfter {s u : State} {i : ModuleIndex} {r : ModuleRecord} (before : RegisterKept s u)
    (h : (s.record i).Keeps r) : RegisterKept s (u.setRecord i r) where
  evidence j := by
    rw [State.record_setRecord]
    split
    · next same => exact same ▸ h.evidence
    · exact before.evidence j
  counts within := by
    refine ⟨(before.counts within).counter, fun j => ?_⟩
    rw [State.record_setRecord]
    split
    · exact h.counts (within.records i)
    · exact (before.counts within).records j

theorem setRecord {s : State} {i : ModuleIndex} {r : ModuleRecord} (h : (s.record i).Keeps r) :
    RegisterKept s (s.setRecord i r) := setAfter (refl s) h

theorem claim {s : State} {m : ModuleRef} {l : List ModuleState} {f : ModuleRecord → ModuleRecord}
    (h : ∀ r : ModuleRecord, r.Keeps (f r)) : RegisterKept s (s.claim m l f) := by
  unfold State.claim
  split
  · exact setRecord (h _)
  · exact refl s

theorem claimModule {s : State} {m : Option ModuleRef} {l : List ModuleState} {f : ModuleRecord → ModuleRecord}
    (h : ∀ r : ModuleRecord, r.Keeps (f r)) : RegisterKept s (s.claimModule m l f) := by
  unfold State.claimModule
  split
  · exact claim h
  · exact refl s

theorem foldl {α : Type} {f : State → α → State} (each : ∀ s x, RegisterKept s (f s x)) (l : List α) (s : State) :
    RegisterKept s (l.foldl f s) := by
  induction l generalizing s with
  | nil => exact refl s
  | cons x l ih => exact (each s x).trans (ih _)

/-! ## The pool -/

theorem enterPool (s : State) (i : ModuleIndex) : RegisterKept s (s.enterPool i) :=
  (setRecord (.pooled _)).congr rfl

theorem enterPoolWait (s : State) (i : ModuleIndex) : RegisterKept s (s.enterPoolWait i) :=
  (setRecord (.waitsForPool _)).congr rfl

theorem enterPoolOrWait (s : State) (i : ModuleIndex) : RegisterKept s (s.enterPoolOrWait i) := by
  unfold State.enterPoolOrWait
  split
  · exact enterPool s i
  · exact enterPoolWait s i

theorem promote (s : State) : RegisterKept s s.promote := by
  unfold State.promote
  split
  · exact refl s
  · next i rest _ => exact trans (t := s.setPoolWait rest) (of_eq rfl) (enterPool _ i)

theorem leavePool (s : State) (i : ModuleIndex) : RegisterKept s (s.leavePool i) :=
  (of_eq rfl : RegisterKept s (s.dropFromPool i)).trans (promote _)

theorem freeRecord (s : State) (i : ModuleIndex) : RegisterKept s (s.freeRecord i) := setRecord (.freed _)

theorem goOn (s : State) (i : ModuleIndex) : RegisterKept s (s.goOn i) := by
  unfold State.goOn
  split
  · exact enterPoolOrWait s i
  · exact freeRecord s i

/-! ## Departure and arrival -/

theorem makeVerdict (s : State) (i : ModuleIndex) (k : VerdictKind) : RegisterKept s (s.makeVerdict i k) :=
  congr (t := s.setRecord i _) (setRecord (.same (by exact ⟨rfl, rfl, rfl, rfl⟩))) rfl

theorem abandon (s : State) (i : ModuleIndex) : RegisterKept s (s.abandon i) := by
  have ended : RegisterKept s ((s.setTimer i none).setRecord i (s.record i).abandoned) :=
    setAfter (of_eq rfl) (.same (by exact ⟨rfl, rfl, rfl, rfl⟩))
  exact ended.trans (makeVerdict _ i .abandoned)

theorem departGraded (s : State) (i : ModuleIndex) : RegisterKept s (s.departGraded i) := by
  have left : RegisterKept s (s.setRecord i (s.record i).leavesBay) := setRecord (.same (by exact ⟨rfl, rfl, rfl, rfl⟩))
  unfold State.departGraded
  dsimp only
  split
  · exact left.trans (goOn _ i)
  · exact left

theorem departModule (s : State) (m : ModuleRef) : RegisterKept s (s.departModule m) := by
  unfold State.departModule
  split
  · exact abandon s _
  · split
    · exact departGraded s _
    · exact refl s

theorem departFrom (s : State) (b : Bay) (m : ModuleRef) : RegisterKept s (s.departFrom b m) :=
  (of_eq (by simp) : RegisterKept s (s.clearBay b m)).trans (departModule _ m)

theorem departOccupant (s : State) (b : Bay) : RegisterKept s (s.departOccupant b) := by
  unfold State.departOccupant
  split
  · exact departFrom s b _
  · exact refl s

theorem startSettle (s : State) (m : ModuleRef) : RegisterKept s (s.startSettle m) := by
  unfold State.startSettle
  dsimp only
  split
  · exact trans (t := s.setTimer m.index none) (of_eq rfl) (claim fun r => .same (by exact ⟨rfl, rfl, rfl, rfl⟩))
  · exact of_eq rfl

/-- The record of a completed arrival with the counter advanced (R38, R48). -/
theorem arrived (s : State) (i : ModuleIndex) (r : ModuleRecord) (evidence : r.evidence = .cleared)
    (arrival : r.arrival = s.mr.arrivalCounter) (gaps : r.gapCount = 0) (watches : r.watchCount = 0) :
    RegisterKept s { s.setRecord i r with
      mr := { (s.setRecord i r).mr with arrivalCounter := satInc Config.arrivalMax s.mr.arrivalCounter } } where
  evidence j := by
    change ((s.setRecord i r).record j).evidence = _ ∨ ((s.setRecord i r).record j).evidence = _
    rw [State.record_setRecord]
    split
    · exact .inr evidence
    · exact .inl rfl
  counts within := by
    have kept := (setRecord (.of_cleared evidence (arrival ▸ within.counter) gaps watches) :
      RegisterKept s (s.setRecord i r)).counts within
    exact ⟨Nat.min_le_right _ _, kept.records⟩

theorem completeArrival (s : State) (i : ModuleIndex) (tag : Tag) (c : Fin 16) (b : Bay) :
    RegisterKept s (s.completeArrival i tag c b) := by
  unfold State.completeArrival
  refine trans ?_ (startSettle _ _)
  refine congr (arrived s i _ ?_ ?_ ?_ ?_) (by rfl) <;> rfl

theorem releaseForRetest (s : State) (i : ModuleIndex) : RegisterKept s (s.releaseForRetest i) := by
  unfold State.releaseForRetest
  split
  · exact leavePool s i
  · split
    · exact of_eq rfl
    · split
      · exact of_eq (by simp)
      · exact refl s

theorem arriveTag (s : State) (b : Bay) (tag : Tag) (c : Fin 16) : RegisterKept s (s.arriveTag b tag c) := by
  unfold State.arriveTag
  split
  · split
    · exact (releaseForRetest s _).trans (completeArrival _ _ tag c b)
    · exact of_eq rfl
  · split
    · exact completeArrival s _ tag c b
    · exact of_eq rfl

theorem arriveAt (s : State) (b : Bay) (tag : Tag) (c : Fin 16) : RegisterKept s (s.arriveAt b tag c) :=
  (departOccupant s b).trans (arriveTag _ b tag c)

theorem departAt (s : State) (b : Bay) (tag : Option Tag) : RegisterKept s (s.departAt b tag) := by
  unfold State.departAt
  split
  · exact of_eq rfl
  · split
    · exact departFrom s b _
    · exact of_eq rfl

theorem measureBay (s : State) (b : Bay) (k : Metric) (v : Nat) (w : Int) : RegisterKept s (s.measureBay b k v w) := by
  unfold State.measureBay
  split
  · exact of_eq rfl
  · split
    · split
      · exact startSettle s _
      · exact of_eq rfl
    · split <;> exact of_eq rfl

theorem expireTimer (s : State) (i : ModuleIndex) (x : SettleTimer) : RegisterKept s (s.expireTimer i x) :=
  trans (t := (s.reachTime x.expiresAt).setTimer i none) (of_eq rfl)
    (claim fun _ => .same (by exact ⟨rfl, rfl, rfl, rfl⟩))

/-! ## Samples -/

theorem gapEvent (s : State) (m : ModuleRef) : RegisterKept s (s.gapEvent m) := claim .gap

theorem checkSequence (s : State) (e : Fin 32) (q : Byte) : RegisterKept s (s.checkSequence e q) := by
  unfold State.checkSequence
  dsimp only
  split
  · exact trans (t := s.setLive e _) (of_eq rfl) (foldl gapEvent _ _)
  · exact of_eq rfl

theorem takeSample (s : State) (f : Frame) : RegisterKept s (s.takeSample f) := by
  unfold State.takeSample
  split
  · unfold State.admitSample
    split
    · exact of_eq rfl
    · next e _ _ q _ _ =>
      split
      · exact (checkSequence s e q).congr (by simp)
      · exact (checkSequence s e q).congr (by simp)
  · exact refl s

/-! ## Resolution -/

theorem endTest (s : State) (i : ModuleIndex) : RegisterKept s (s.endTest i) := by
  have graded : RegisterKept s (s.setRecord i { s.record i with state := .graded, departed := false }) :=
    setRecord (.same (by exact ⟨rfl, rfl, rfl, rfl⟩))
  exact graded.trans (makeVerdict _ i .graded)

theorem inState (s : State) (i : ModuleIndex) (st : ModuleState) :
    RegisterKept s (s.setRecord i ((s.record i).inState st)) := setRecord (.same (by exact ⟨rfl, rfl, rfl, rfl⟩))

theorem withWatch (s : State) (i : ModuleIndex) {n : Nat} (h : n ≤ 15) :
    RegisterKept s (s.setRecord i ((s.record i).withWatch n)) := setRecord (.withWatch _ h)

theorem regradeWorse (s : State) (i : ModuleIndex) (p : SlotId) (c : PairingClass) :
    RegisterKept s (s.regradeWorse i p c) := by
  have counted := withWatch s i (n := satInc 15 (s.record i).watchCount) (Nat.min_le_right _ _)
  unfold State.regradeWorse
  dsimp only
  split
  · exact counted.congr (by simp)
  · split
    · exact (counted.trans (inState _ i .watch)).congr (by simp)
    · exact counted

theorem regradeReject (s : State) (i : ModuleIndex) (p : SlotId) : RegisterKept s (s.regradeReject i p) :=
  (setRecord (.of_fields rfl rfl rfl (.inr (Nat.min_le_right _ _))) :
    RegisterKept s (s.setRecord i (((s.record i).withWatch (satInc 15 (s.record i).watchCount)).inState .watch))).congr
    (by simp [State.regradeReject])

theorem regradeRecovered (s : State) (i : ModuleIndex) (p : SlotId) : RegisterKept s (s.regradeRecovered i p) := by
  have counted := withWatch s i (Nat.zero_le 15)
  unfold State.regradeRecovered
  dsimp only
  split
  · split
    · exact counted.trans (inState _ i .inService)
    · split
      · exact counted
      · exact (counted.trans (inState _ i .inService)).congr (by simp)
      · exact (counted.trans (inState _ i .inService)).congr (by simp)
  · exact counted

theorem regradeOutbound (s : State) (i : ModuleIndex) (a : Bool) : RegisterKept s (s.regradeOutbound i a) := by
  refine withWatch s i ?_
  split
  · exact Nat.zero_le _
  · exact Nat.min_le_right _ _

theorem regrade (s : State) (i : ModuleIndex) (p : SlotId) : RegisterKept s (s.regrade i p) := by
  unfold State.regrade
  dsimp only
  split
  · exact refl s
  · split
    · exact regradeOutbound s i _
    · split
      · exact regradeRecovered s i p
      · split
        · exact regradeReject s i p
        all_goals exact regradeWorse s i p _

theorem afterResolution (s : State) (i : ModuleIndex) : RegisterKept s (s.afterResolution i) := by
  unfold State.afterResolution
  split
  · split
    · exact endTest s i
    · exact refl s
  · exact regrade s i _
  · exact refl s

theorem resolve (s : State) (i : ModuleIndex) : RegisterKept s (s.resolve i) := by
  have graded : RegisterKept s (s.setRecord i
      ((s.record i).withGrade (s.mu.active.orig.get (s.record i).originClass))) :=
    setRecord (.same (by exact ⟨rfl, rfl, rfl, rfl⟩))
  exact graded.trans (afterResolution _ i)

/-! ## Choices and orders -/

theorem assign (s : State) (m : ModuleRef) (o : OrderIndex) : RegisterKept s (s.assign m o) := by
  unfold State.assign
  split
  · exact (setRecord (.same (by exact ⟨rfl, rfl, rfl, rfl⟩)) :
      RegisterKept s (s.setRecord m.index ((s.record m.index).ordered .assigned o))).congr rfl
  · exact refl s

theorem assignIncoming (s : State) (w : OrderWork) (o : OrderIndex) : RegisterKept s (s.assignIncoming w o) := by
  unfold State.assignIncoming
  split
  · exact assign s _ o
  · exact refl s

theorem claimOutgoing (s : State) (w : OrderWork) (o : OrderIndex) : RegisterKept s (s.claimOutgoing w o) := by
  unfold State.claimOutgoing
  split
  · exact claim fun r => .same (by exact ⟨rfl, rfl, rfl, rfl⟩)
  · exact refl s

theorem applyChoice (s : State) (c : Choice) (w : OrderWork) : RegisterKept s (s.applyChoice c w) :=
  ((assignIncoming s w c.order).trans (claimOutgoing _ w c.order)).congr (by simp [State.applyChoice])

theorem afterChoice (s : State) (c : Choice) (w : OrderWork) : RegisterKept s (s.afterChoice c w) := by
  have promoted : RegisterKept s (if w.incoming.isSome then s.promote else s) := by
    split
    · exact promote s
    · exact refl s
  unfold State.afterChoice
  dsimp only
  split
  · exact promoted.congr (by simp)
  · exact promoted

theorem completeChoice (s : State) (c : Choice) : RegisterKept s (s.completeChoice c) := by
  obtain ⟨t, outcome, completed⟩ := s.completeChoice_outcome c
  rw [completed]
  refine congr (t := t) ?_ rfl
  cases outcome with
  | discarded => exact of_eq (by simp)
  | noCandidate => exact of_eq (by simp)
  | applied q w => exact (applyChoice s c w).trans (afterChoice _ c w)

theorem returnToPool (s : State) (m : Option ModuleRef) : RegisterKept s (s.returnToPool m) := by
  unfold State.returnToPool
  split
  · split
    · exact enterPoolOrWait s _
    · exact refl s
  · exact refl s

theorem endDone (s : State) (i : OrderIndex) (o : Order) : RegisterKept s (s.endDone i o) := by
  have ended : RegisterKept s ((s.claimModule o.work.incoming [.assigned] fun r => r.placed o.slot).claimModule
      o.work.outgoing [.outbound] ModuleRecord.freed) := (claimModule fun r => .placed r _).trans (claimModule .freed)
  unfold State.endDone
  dsimp only
  split
  · exact ended.congr (by simp)
  · exact ended.congr (by simp)

theorem endRefused (s : State) (i : OrderIndex) (o : Order) : RegisterKept s (s.endRefused i o) := by
  have ended : RegisterKept s ((s.returnToPool o.work.incoming).claimModule o.work.outgoing [.outbound]
      fun r => r.returned o.slot) :=
    (returnToPool s _).trans (claimModule fun r => .same (by exact ⟨rfl, rfl, rfl, rfl⟩))
  refine ended.congr ?_
  unfold State.endRefused
  dsimp only
  split <;> simp

theorem endExpired (s : State) (i : OrderIndex) (o : Order) : RegisterKept s (s.endExpired i o) := by
  have held : ∀ r : ModuleRecord, r.Keeps r.heldBack := fun r => .same (by exact ⟨rfl, rfl, rfl, rfl⟩)
  exact ((claimModule held).trans (claimModule held) : RegisterKept s
    ((s.claimModule o.work.incoming [.assigned] ModuleRecord.heldBack).claimModule o.work.outgoing [.outbound]
      ModuleRecord.heldBack)).congr (by simp [State.endExpired])

theorem endReported (s : State) (i : OrderIndex) (o : Order) (done : Bool) :
    RegisterKept s (s.endReported i o done) := by
  cases done
  · exact endRefused s i o
  · exact endDone s i o

theorem admitVerdict (s : State) (i : ModuleIndex) : RegisterKept s (s.admitVerdict i) := by
  unfold State.admitVerdict
  dsimp only
  split
  · exact of_eq rfl
  · split
    · refine trans ?_ (goOn _ i)
      exact setAfter (of_eq rfl) (.same ⟨rfl, rfl, rfl, rfl⟩)
    · exact setAfter (of_eq rfl) (.same ⟨rfl, rfl, rfl, rfl⟩)

/-! ## Commits -/

theorem moveOccupant (s : State) (x : ModuleRef × Bay) : RegisterKept s (s.moveOccupant x) :=
  claim fun r => .same (by exact ⟨rfl, rfl, rfl, rfl⟩)

theorem carryStations (s : State) (old new : Vector Station 32) : RegisterKept s (s.carryStations old new) := by
  unfold State.carryStations
  dsimp only
  refine trans ?_ (foldl departModule _ _)
  refine trans ?_ (foldl moveOccupant _ _)
  exact of_eq rfl

/-! ## Commands -/

theorem displace (s : State) (p : SlotId) : RegisterKept s (s.displace p) := by
  unfold State.displace
  split
  · exact claim .freed
  all_goals exact refl s

theorem occupy (s : State) (p : SlotId) (i : ModuleIndex) : RegisterKept s (s.occupy p i) := of_eq (by simp)

theorem takeFor (s : State) (p : SlotId) (i : ModuleIndex) : RegisterKept s (s.takeFor p i) := by
  have taken : RegisterKept s ((s.displace p).setRecord i ((s.record i).heldIn p)) :=
    setAfter (displace s p) (.same ⟨rfl, rfl, rfl, rfl⟩)
  unfold State.takeFor
  dsimp only
  refine trans ?_ (occupy _ p i)
  split
  · exact taken.trans (leavePool _ i)
  · exact taken.congr (by simp)
  · exact taken

theorem adoptFor (s : State) (p : SlotId) (i : ModuleIndex) (tag : Tag) : RegisterKept s (s.adoptFor p i tag) := by
  unfold State.adoptFor
  exact trans ((displace s p).trans (setRecord (.adopted _ tag p))) (occupy _ p i)

theorem emptyOccupied (s : State) (p : SlotId) (m : ModuleRef) : RegisterKept s (s.emptyOccupied p m) :=
  congr (t := s.claim m [.inService, .watch] ModuleRecord.freed) (claim .freed) (by simp [State.emptyOccupied])

theorem retireAt (s : State) (p : SlotId) (m : ModuleRef) : RegisterKept s (s.retireAt p m) :=
  congr (t := s.claim m [.inService, .watch] fun r => r.inState .watch) (claim fun _ => .same ⟨rfl, rfl, rfl, rfl⟩)
    (by simp [State.retireAt])

theorem clearEngine (s : State) : RegisterKept s s.clearEngine where
  evidence i := .inr (congrArg ModuleRecord.evidence (get_replicate (ModuleRecord.cleared 0) i))
  counts _ := by
    refine ⟨Nat.zero_le _, fun i => ?_⟩
    rw [show s.clearEngine.record i = ModuleRecord.cleared 0 from get_replicate _ i]
    exact ⟨Nat.zero_le _, Nat.zero_le _, Nat.zero_le _⟩

end RegisterKept

/-! ## Reception -/

/-- What reception may do to the Intake Unit and the Module Register: nothing, or the intake of one sample (R22). -/
def Sampled (s t : State) : Prop :=
  (t.mr = s.mr ∧ t.iu = s.iu) ∨
    ∃ u f, u.mr = s.mr ∧ u.iu = s.iu ∧ t.mr = (State.takeSample u f).mr ∧ t.iu = (State.takeSample u f).iu

theorem Sampled.after {s t u : State} (h : Sampled u t) (same : u.mr = s.mr ∧ u.iu = s.iu) : Sampled s t := by
  obtain ⟨mr, iu⟩ := same
  rcases h with ⟨register, intake⟩ | ⟨w, f, register, intake, sampled⟩
  · exact .inl ⟨register.trans mr, intake.trans iu⟩
  · exact .inr ⟨w, f, register.trans mr, intake.trans iu, sampled⟩

theorem Sampled.setRing {s t : State} (h : Sampled s t) (r : RingPort) : Sampled s (t.setRing r) := h

theorem State.classify_sampled (s : State) (f : Frame) : Sampled s (s.classify f) := by
  unfold State.classify
  split
  · exact .inl ⟨rfl, rfl⟩
  · exact .inl (by simp)
  · exact .inl (by simp)
  · exact .inr ⟨s.forward f, f, by simp⟩
  · exact .inl (by simp)

theorem State.endFrame_sampled (s : State) : Sampled s s.endFrame := by
  unfold State.endFrame
  split
  · exact .inl ⟨rfl, rfl⟩
  · dsimp only
    split
    · next f _ => exact (State.classify_sampled _ f).after ⟨rfl, rfl⟩
    · exact .inl ⟨rfl, rfl⟩

theorem State.linkLogic_sampled (s : State) (c : Character) : Sampled s (s.linkLogic c) := by
  unfold State.linkLogic
  split
  · split <;> exact .inl ⟨rfl, rfl⟩
  · split <;> exact .inl (by simp)
  · unfold State.lockedCharacter
    dsimp only
    split
    · exact .inl (by simp)
    · unfold State.frameLogic
      split
      · exact (State.endFrame_sampled _).after ⟨rfl, rfl⟩
      · exact ((State.endFrame_sampled _).after ⟨rfl, rfl⟩).setRing _
      · exact .inl ⟨rfl, rfl⟩
      · exact .inl ⟨rfl, rfl⟩

theorem State.receive_sampled (s : State) (c : LineCharacter) : Sampled s (s.receive c) := by
  unfold State.receive
  split
  · exact .inl ⟨rfl, rfl⟩
  · split
    · exact .inl ⟨rfl, rfl⟩
    · exact (State.linkLogic_sampled (s.setRing _) _).after ⟨rfl, rfl⟩

/-! ## The events -/

section
variable {P : State → Prop}
  (kept : ∀ s t, P s → RegisterKept s t → t.mu.active = s.mu.active → P t)
  (commit : ∀ s, P s → P s.settleIfSafe)

include kept commit

theorem Change.register_keeps {s t : State} (completion : ∀ e, s.ge.evaluation = some e → P (s.completeEvaluation e))
    (h : P s) (change : Change s t) : P t := by
  cases change with
  | none => exact h
  | verdict i => exact kept s _ h (.admitVerdict s i) (by simp)
  | arrive r tag c b =>
    exact kept _ _ (kept s s.takeRecord h (.of_eq rfl) rfl) (.arriveAt _ b tag c)
      (ManagementUnit.active_of_core (State.arriveAt_inner _ b tag c).2.2.2)
  | depart r tag b =>
    exact kept _ _ (kept s s.takeRecord h (.of_eq rfl) rfl) (.departAt _ b tag) (by simp)
  | evaluation e inProgress => exact commit _ (completion e inProgress)
  | choice c =>
    exact kept s _ h (.completeChoice s c) (ManagementUnit.active_of_core (s.completeChoice_inner c))
  | choiceSettles c =>
    exact commit _ (kept s _ h (.completeChoice s c) (ManagementUnit.active_of_core (s.completeChoice_inner c)))
  | expiry i o t =>
    have ended := RegisterKept.endExpired (s.reachTime t) i o
    refine kept s _ h (.trans (t := s.reachTime t) (.of_eq rfl) (ended.congr (by simp))) ?_
    simpa using ManagementUnit.active_of_core ((s.reachTime t).endExpired_frame i o).2.2.2.2.2.2.1
  | safePoint => exact commit s h

theorem CommandChange.register_keeps {s t : State} (h : P s) (change : CommandChange s t) : P t := by
  cases change with
  | commit mask => exact commit _ (kept s _ h (.of_eq rfl) rfl)
  | emptied p => exact kept s _ h (.of_eq (by simp)) (by simp)
  | raised p => exact kept s _ h (.of_eq (by simp)) (by simp)
  | vacated p m => exact kept s _ h (.emptyOccupied s p m) (by simp)
  | taken p i => exact kept s _ h (.takeFor s p i) (by simp)
  | adopted p i tag => exact kept s _ h (.adoptFor s p i tag) (by simp)
  | pooled i => exact kept s _ h (.enterPool s i) (by simp)
  | heldGone i => exact kept s _ h (.freeRecord s i) (by simp)
  | pooledGone i => exact kept s _ h ((RegisterKept.freeRecord s i).trans (.leavePool _ i)) (by simp)
  | waitingGone i => exact kept s _ h ((RegisterKept.freeRecord s i).congr (by simp)) (by simp)
  | ended i o t done => exact kept s _ h ((RegisterKept.endReported s i o done).congr (by simp)) (by simp)
  | woken p => exact kept s _ h (.of_eq (by simp)) (by simp)
  | allWoken => exact kept s _ h (.of_eq (by simp)) (by simp)
  | retired p m => exact kept s _ h (.retireAt s p m) (by simp)
  | resumed => exact kept s _ h (.of_eq (by simp)) (by simp)

theorem CommandEffect.register_keeps {s t : State} (h : P s) (effect : CommandEffect s t) : P t := by
  cases effect with
  | same => exact h
  | changed t change =>
    exact kept t _ (CommandChange.register_keeps kept commit h change) (.of_eq (by simp)) (by simp)
  | blocked p => exact kept s _ h (.of_eq (by simp)) (by simp)
  | cleared => exact commit _ (kept s _ h (.clearEngine s) rfl)
  | _ => exact kept s _ h (.of_eq rfl) rfl

/-- A property of the records' counts and evidence that every change but a completion and a commit keeps, that commits
keep and that the completion of the evaluation in progress keeps is kept by every event. -/
theorem Event.register_keeps {s t : State} (reset : ∀ straps, P { State.afterReset straps with pending := s.pending })
    (completion : ∀ e, s.ge.evaluation = some e → P (s.completeEvaluation e)) (h : P s) (event : Event s t) :
    P t := by
  cases event with
  | released straps => exact reset straps
  | received c =>
    refine kept s _ h ?_ (ManagementUnit.active_of_still (State.receive_inner s c))
    rcases s.receive_sampled c with ⟨register, -⟩ | ⟨u, f, register, -, sampled, -⟩
    · exact .of_eq register
    · exact ((RegisterKept.of_eq register).trans (.takeSample u f)).congr sampled
  | measuredBay r k v w b =>
    exact kept _ _ (kept s s.takeRecord h (.of_eq rfl) rfl) (.measureBay _ b k v w) (by simp)
  | measuredSlot r k v w p =>
    exact kept _ _ (kept s s.takeRecord h (.of_eq rfl) rfl) (.of_eq (by simp)) (by simp)
  | selected t p change =>
    exact kept t _ (Change.register_keeps kept commit completion h change) (.of_eq (by simp)) (by simp)
  | settled i x => exact kept s _ h (.expireTimer s i x) (by simp)
  | ticked => exact kept s _ h (.of_eq (by simp)) (by simp)
  | order x => exact kept s _ h (.of_eq (by simp)) (by simp)
  | notice n =>
    exact kept s _ h (.of_eq (by simp)) (ManagementUnit.active_of_core (s.admitNotice_inner n))
  | reply =>
    refine kept s _ h (.of_eq (by simp)) ?_
    unfold State.admitReply
    (repeat' split) <;> simp
  | command f rest a queue effect =>
    have taken := kept s (s.setCommands rest) h (.of_eq rfl) rfl
    exact kept _ _ (CommandEffect.register_keeps kept commit taken effect) (.of_eq rfl) rfl
  | _ => exact kept s _ h (.of_eq rfl) rfl

end

end Sys2Proof.Machine
end

section
/-! SUPPORT. The queues, the lists and the counters that have a limit (R5, R12 to R17, R20, R24, R27, R182, R186, R201):
no operation takes one past it. -/

namespace Sys2Proof.Machine

/-- The queues and counters of the Ring Port are within their limits (R5, R12, R13, R15, R17). -/
structure RingPort.Within (r : RingPort) : Prop where
  transit  : r.transitQueue.length ≤ 4
  replies  : (r.originateQueue.filter Frame.isReply).length ≤ 1
  others   : (r.originateQueue.filter fun f => !f.isReply).length ≤ 7
  passOver : r.passOver ≤ 2
  window   : r.window.length ≤ 32
  losses   : r.lossesSince ≤ 65535
  counters : ∀ c : Counter, r.counters.get c ≤ 65535

/-- The Intake Queue has at most 16 records of two-character values, and no loss count is past its limit (R20, R24,
R27, R28). -/
structure IntakeUnit.Within (u : IntakeUnit) : Prop where
  intake   : u.intakeQueue.length ≤ 16
  lost     : ∀ e, (u.live.get e).lostCount ≤ 255
  measured : ∀ r ∈ u.intakeQueue, ∀ m v w, r.content = .measure m v w → v ≤ 65535

/-- Each kind of notice is pending once, with a count of 1 to 255 (R201). -/
structure NoticesWithin (l : List Notice) : Prop where
  distinct : (l.map fun n => n.argument.kindCode).Nodup
  counts   : ∀ n ∈ l, 1 ≤ n.count ∧ n.count ≤ 255

/-- The queues, lists and counters that were within their limits are so. -/
structure LimitsKept (s t : State) : Prop where
  ring     : s.rp.Within → t.rp.Within
  intake   : s.iu.Within → t.iu.Within
  commands : s.mu.commandQueue.length ≤ 4 → t.mu.commandQueue.length ≤ 4
  notices  : NoticesWithin s.mu.notices → NoticesWithin t.mu.notices
  expired  : s.ot.expired.length ≤ 8 → t.ot.expired.length ≤ 8

/-! ## The operations on one queue or counter -/

theorem Counters.get_bump (c : Counters) (d e : Counter) :
    (c.bump d).get e = if d = e then satInc 65535 (c.get d) else c.get e := by
  cases d <;> cases e <;> rfl

theorem RingPort.Within.bump {r : RingPort} (h : r.Within) (d : Counter) :
    ({ r with counters := r.counters.bump d } : RingPort).Within := by
  refine { h with counters := fun c => ?_ }
  change (r.counters.bump d).get c ≤ 65535
  rw [Counters.get_bump]
  split
  · exact Nat.min_le_right _ _
  · exact h.counters c

theorem mem_raiseIn {a : NoticeArgument} {l : List Notice} {n : Notice} (h : n ∈ raiseIn a l) :
    n ∈ l ∨ n.argument = a ∧ (n.count = 1 ∨ ∃ x ∈ l, n.count = satInc 255 x.count) := by
  induction l with
  | nil =>
    obtain rfl := List.mem_singleton.mp h
    exact .inr ⟨rfl, .inl rfl⟩
  | cons x xs ih =>
    unfold raiseIn at h
    split at h
    · rcases List.mem_cons.mp h with rfl | later
      · exact .inr ⟨rfl, .inr ⟨x, List.mem_cons_self, rfl⟩⟩
      · exact .inl (List.mem_cons_of_mem _ later)
    · rcases List.mem_cons.mp h with rfl | later
      · exact .inl List.mem_cons_self
      · rcases ih later with old | ⟨argument, count⟩
        · exact .inl (List.mem_cons_of_mem _ old)
        · refine .inr ⟨argument, count.imp_right fun ⟨y, member, grown⟩ => ⟨y, List.mem_cons_of_mem _ member, grown⟩⟩

/-- A raise adds its kind behind the pending ones, or leaves the pending kinds as they were (R201). -/
theorem kinds_raiseIn (a : NoticeArgument) (l : List Notice) :
    (raiseIn a l).map (fun n => n.argument.kindCode) =
      if a.kindCode ∈ l.map (fun n => n.argument.kindCode) then l.map fun n => n.argument.kindCode
      else l.map (fun n => n.argument.kindCode) ++ [a.kindCode] := by
  induction l with
  | nil => rfl
  | cons x xs ih =>
    unfold raiseIn
    by_cases same : x.argument.kindCode = a.kindCode
    · simp [same]
    · simp only [same, if_false, List.map_cons, ih, List.mem_cons, Ne.symm same, false_or]
      split <;> rfl

theorem NoticesWithin.raise {l : List Notice} (h : NoticesWithin l) (a : NoticeArgument) :
    NoticesWithin (raiseIn a l) := by
  refine ⟨?_, fun n member => ?_⟩
  · rw [kinds_raiseIn]
    split
    · exact h.distinct
    · next new =>
      refine List.nodup_append.mpr ⟨h.distinct, by simp, fun k pending c added same => new ?_⟩
      obtain rfl := List.mem_singleton.mp added
      exact same ▸ pending
  · rcases mem_raiseIn member with old | ⟨-, first | ⟨x, pending, grown⟩⟩
    · exact h.counts n old
    · omega
    · rw [grown]
      have := h.counts x pending
      unfold satInc
      omega

theorem NoticesWithin.tail {l : List Notice} (h : NoticesWithin l) : NoticesWithin l.tail where
  distinct := by
    rw [List.map_tail]
    exact h.distinct.tail
  counts n member := h.counts n (List.mem_of_mem_tail member)

namespace LimitsKept

theorem refl (s : State) : LimitsKept s s := ⟨id, id, id, id, id⟩

theorem trans {s t u : State} (h : LimitsKept s t) (k : LimitsKept t u) : LimitsKept s u :=
  ⟨k.ring ∘ h.ring, k.intake ∘ h.intake, k.commands ∘ h.commands, k.notices ∘ h.notices, k.expired ∘ h.expired⟩

/-- What leaves Ring Port, Intake Unit, notices, commands and expired list keeps every limit. -/
theorem of_eq {s t : State} (rp : t.rp = s.rp) (iu : t.iu = s.iu) (mu : t.mu.commandQueue = s.mu.commandQueue ∧
    t.mu.notices = s.mu.notices) (ot : t.ot.expired = s.ot.expired) : LimitsKept s t := by
  obtain ⟨commands, notices⟩ := mu
  exact ⟨by rw [rp]; exact id, by rw [iu]; exact id, by rw [commands]; exact id, by rw [notices]; exact id,
    by rw [ot]; exact id⟩

theorem congr {s t u : State} (h : LimitsKept s t) (rp : u.rp = t.rp) (iu : u.iu = t.iu) (mu : u.mu = t.mu)
    (ot : u.ot = t.ot) : LimitsKept s u := h.trans (of_eq rp iu (by simp [mu]) (by rw [ot]))

theorem count (s : State) (c : Counter) : LimitsKept s (s.count c) :=
  ⟨fun h => h.bump c, id, id, id, id⟩

theorem raise (s : State) (a : NoticeArgument) : LimitsKept s (s.raise a) := ⟨id, id, id, fun h => h.raise a, id⟩

theorem makeVerdict (s : State) (i : ModuleIndex) (k : VerdictKind) : LimitsKept s (s.makeVerdict i k) :=
  ⟨fun h => { h with }, id, id, id, id⟩

/-- A bay's occupant replaced leaves the loss counts and the queue. -/
theorem setOccupant (s : State) (b : Bay) (m : Option ModuleRef) : LimitsKept s (s.setOccupant b m) := by
  refine ⟨id, fun h => { h with lost := fun e => ?_ }, id, id, id⟩
  change ((s.setOccupant b m).live e).lostCount ≤ 255
  unfold State.setOccupant
  rw [State.live_setLive]
  split
  · exact h.lost _
  · exact h.lost e

theorem clearBay (s : State) (b : Bay) (m : ModuleRef) : LimitsKept s (s.clearBay b m) := by
  unfold State.clearBay
  split
  · exact setOccupant s b none
  · exact refl s

theorem foldl {α : Type} {f : State → α → State} (each : ∀ s x, LimitsKept s (f s x)) (l : List α) (s : State) :
    LimitsKept s (l.foldl f s) := by
  induction l generalizing s with
  | nil => exact refl s
  | cons x l ih => exact (each s x).trans (ih _)

/-! ## Departure and arrival -/

theorem departModule (s : State) (m : ModuleRef) : LimitsKept s (s.departModule m) := by
  unfold State.departModule
  split
  · exact ⟨fun h => { h with }, id, id, id, id⟩
  · split
    · exact of_eq (by simp) (by simp) (by simp) (by simp)
    · exact refl s

theorem departFrom (s : State) (b : Bay) (m : ModuleRef) : LimitsKept s (s.departFrom b m) :=
  (clearBay s b m).trans (departModule _ m)

theorem departOccupant (s : State) (b : Bay) : LimitsKept s (s.departOccupant b) := by
  unfold State.departOccupant
  split
  · exact departFrom s b _
  · exact refl s

theorem startSettle (s : State) (m : ModuleRef) : LimitsKept s (s.startSettle m) :=
  of_eq (by simp) (by simp) (by simp) (by simp)

theorem completeArrival (s : State) (i : ModuleIndex) (tag : Tag) (c : Fin 16) (b : Bay) :
    LimitsKept s (s.completeArrival i tag c b) := by
  unfold State.completeArrival
  dsimp only
  refine trans ?_ (startSettle _ _)
  exact ⟨id, (setOccupant s b (some _)).intake, id, id, id⟩

theorem releaseForRetest (s : State) (i : ModuleIndex) : LimitsKept s (s.releaseForRetest i) := by
  unfold State.releaseForRetest
  split
  · exact of_eq (by simp) (by simp) (by simp) (by simp)
  · split
    · exact of_eq (by simp) (by simp) (by simp) (by simp)
    · split
      · exact clearBay s _ _
      · exact refl s

theorem arriveTag (s : State) (b : Bay) (tag : Tag) (c : Fin 16) : LimitsKept s (s.arriveTag b tag c) := by
  unfold State.arriveTag
  split
  · split
    · exact (releaseForRetest s _).trans (completeArrival _ _ tag c b)
    · exact raise s _
  · split
    · exact completeArrival s _ tag c b
    · exact raise s _

theorem arriveAt (s : State) (b : Bay) (tag : Tag) (c : Fin 16) : LimitsKept s (s.arriveAt b tag c) :=
  (departOccupant s b).trans (arriveTag _ b tag c)

theorem departAt (s : State) (b : Bay) (tag : Option Tag) : LimitsKept s (s.departAt b tag) := by
  unfold State.departAt
  split
  · exact count s _
  · split
    · exact departFrom s b _
    · exact count s _

theorem measureBay (s : State) (b : Bay) (k : Metric) (v : Nat) (w : Int) : LimitsKept s (s.measureBay b k v w) := by
  unfold State.measureBay
  split
  · exact count s _
  · split
    · split
      · exact of_eq (by simp) (by simp) (by simp) (by simp)
      · exact count s _
    · split
      · exact of_eq rfl rfl ⟨rfl, rfl⟩ rfl
      · exact count s _

theorem measureSlot (s : State) (p : SlotId) (k : Metric) (v : Nat) (w : Int) :
    LimitsKept s (s.measureSlot p k v w) := by
  unfold State.measureSlot
  split
  · exact of_eq rfl rfl ⟨rfl, rfl⟩ rfl
  all_goals exact count s _

/-! ## Completions -/

theorem afterResolution (s : State) (i : ModuleIndex) : LimitsKept s (s.afterResolution i) := by
  unfold State.afterResolution
  split
  · split
    · exact ⟨fun h => { h with }, id, id, id, id⟩
    · exact refl s
  · exact of_eq (by simp) (by simp) (by simp) (by simp)
  · exact refl s

theorem resolve (s : State) (i : ModuleIndex) : LimitsKept s (s.resolve i) := by
  unfold State.resolve
  exact trans (t := s.setRecord i _) (of_eq rfl rfl ⟨rfl, rfl⟩ rfl) (afterResolution _ i)

theorem tellStringMap (s : State) (e : Evaluation) (x : Option Nat) (l : Location) :
    LimitsKept s (s.tellStringMap e x l) := of_eq (by simp) (by simp) (by simp) (by simp)

theorem applyCompletion (s : State) (e : Evaluation) : LimitsKept s (s.applyCompletion e) := by
  unfold State.applyCompletion
  dsimp only
  refine trans ?_ (tellStringMap _ e _ _)
  split
  · exact trans (t := s.setRecord e.module.index _) (of_eq rfl rfl ⟨rfl, rfl⟩ rfl) (raise _ _)
  · split
    · exact trans (t := s.setRecord e.module.index _) (of_eq rfl rfl ⟨rfl, rfl⟩ rfl) (resolve _ _)
    · exact of_eq rfl rfl ⟨rfl, rfl⟩ rfl

theorem completeEvaluation (s : State) (e : Evaluation) : LimitsKept s (s.completeEvaluation e) := by
  obtain ⟨t, outcome, completed⟩ := s.completeEvaluation_outcome e
  rw [completed]
  refine congr (t := t) ?_ rfl rfl rfl rfl
  cases outcome with
  | applied => exact applyCompletion s e
  | declined => exact count s _

theorem completeChoice (s : State) (c : Choice) : LimitsKept s (s.completeChoice c) := by
  obtain ⟨t, outcome, completed⟩ := s.completeChoice_outcome c
  rw [completed]
  refine congr (t := t) ?_ rfl rfl rfl rfl
  cases outcome with
  | discarded => exact of_eq (by simp) (by simp) (by simp) (by simp [State.discardChoice, State.freeOrderRecord])
  | noCandidate =>
    unfold State.noCandidate
    exact trans (t := (s.freeOrderRecord c.order).setSelectedStatus c _) (of_eq rfl rfl ⟨rfl, rfl⟩ rfl) (raise _ _)
  | applied q w => exact of_eq (by simp) (by simp) (by simp) (by simp [State.applyChoice, State.createOrder])

/-! ## Orders -/

theorem addExpired_length {l : List Byte} (h : l.length ≤ 8) (n : Byte) : (addExpired l n).length ≤ 8 := by
  unfold addExpired Config.expiredRoom
  split
  · simpa
  · simp
    omega

theorem endExpired (s : State) (i : OrderIndex) (o : Order) : LimitsKept s (s.endExpired i o) := by
  refine ⟨by simp, by simp, by simp [State.endExpired], fun h => ?_, fun h => ?_⟩
  · have raised : (s.endExpired i o).mu.notices = raiseIn (.orderExpired o.number) s.mu.notices := by
      simp [State.endExpired]
    exact raised ▸ h.raise _
  · simpa using addExpired_length h o.number

theorem promoteDeferred_expired (s : State) (k : Fin 8) : (s.promoteDeferred k).ot.expired = s.ot.expired := by
  unfold State.promoteDeferred
  split <;> rfl

theorem closed (s : State) (i : OrderIndex) (o : Order) : LimitsKept s (s.closed i o) :=
  of_eq (by simp) (by simp) (by simp) (promoteDeferred_expired _ _)

theorem select (s : State) (p : Policy) : LimitsKept s (s.select p) := by
  refine of_eq (by simp) (by simp) (by simp) ?_
  by_cases due : s.selectionConditions
  · obtain ⟨q, o, -, -, selected⟩ := select_due due p
    rw [selected]
    rfl
  · rw [select_not_due due]

/-! ## Commits -/

theorem carryStations (s : State) (old new : Vector Station 32) : LimitsKept s (s.carryStations old new) := by
  unfold State.carryStations
  dsimp only
  refine trans ?_ (foldl departModule _ _)
  refine trans ?_ (foldl (fun u x => of_eq (by simp) (by simp) (by simp) (by simp)) _ _)
  refine ⟨id, fun h => ⟨by simpa using h.intake, fun e => ?_, fun r member => ?_⟩, id, id, id⟩
  · rw [get_mapEntries]
    unfold carriedLive
    split
    · split
      · exact Nat.zero_le _
      · exact h.lost _
    · exact Nat.zero_le _
  · obtain ⟨x, queued, rfl⟩ := List.mem_map.mp member
    exact h.measured x queued

theorem commitEffects (s : State) (mask : BitVec 5) (old : Tables) : LimitsKept s (s.commitEffects mask old) :=
  State.commitEffects_keeps (refl s) (fun _ => carryStations s _ _)
    (fun _ _ _ _ h _ => h.trans (of_eq (by simp) (by simp) (by simp) (by simp)))
    (fun _ h => h.trans (of_eq (by simp) (by simp) (by simp) (by simp)))
    (fun _ h => h.trans (of_eq (by simp) (by simp) (by simp) (by simp)))
    (fun _ h => h.trans (of_eq (by simp) (by simp) (by simp) (by simp)))

theorem takeCommit (s : State) (mask : BitVec 5) : LimitsKept s (s.takeCommit mask) := by
  refine trans (t := s.setActive (mergedTables mask s.mu.active s.mu.shadow)) (of_eq rfl rfl ⟨rfl, rfl⟩ rfl) ?_
  exact (commitEffects _ mask s.mu.active).trans (raise _ _)

theorem settleIfSafe (s : State) : LimitsKept s s.settleIfSafe := by
  have outcome := s.settleIfSafe_outcome
  generalize s.settleIfSafe = t at outcome
  cases outcome with
  | waits => exact refl s
  | refused f => exact trans (t := s.setPendingCommit none) (of_eq rfl rfl ⟨rfl, rfl⟩ rfl) (raise _ _)
  | taken mask => exact trans (t := s.setPendingCommit none) (of_eq rfl rfl ⟨rfl, rfl⟩ rfl) (takeCommit _ mask)

theorem clearEngine (s : State) : LimitsKept s s.clearEngine where
  ring h := { h with }
  intake _ := by
    refine ⟨Nat.zero_le _, fun e => ?_, fun _ member => absurd member List.not_mem_nil⟩
    rw [show s.clearEngine.iu.live.get e = StationLive.cleared from get_replicate _ e]
    exact Nat.zero_le _
  commands := id
  notices _ := ⟨List.nodup_nil, fun _ member => absurd member List.not_mem_nil⟩
  expired _ := Nat.zero_le _

/-! ## Samples and reception -/

theorem takeRecord (s : State) : LimitsKept s s.takeRecord := by
  refine ⟨id, fun h => { h with intake := ?_, measured := fun r member => ?_ }, id, id, id⟩
  · exact (List.tail_sublist _).length_le.trans h.intake
  · exact h.measured r (List.mem_of_mem_tail member)

theorem setLive {s : State} {e : Fin 32} {x : StationLive} (h : x.lostCount ≤ 255) : LimitsKept s (s.setLive e x) := by
  refine ⟨id, fun k => { k with lost := fun j => ?_ }, id, id, id⟩
  change ((s.setLive e x).live j).lostCount ≤ 255
  rw [State.live_setLive]
  split
  · exact h
  · exact k.lost j

theorem loseOne (s : State) (e : Fin 32) : LimitsKept s (s.loseOne e) := by
  unfold State.loseOne
  exact setLive (by exact Nat.min_le_right _ _)

theorem checkSequence (s : State) (e : Fin 32) (q : Byte) : LimitsKept s (s.checkSequence e q) := by
  unfold State.checkSequence
  dsimp only
  refine trans (setLive (e := e) (x := { s.live e with
    lastSequence := some q, lostCount := satAdd 255 (s.live e).lostCount (lostAmount (s.live e).lastSequence q) })
    (by exact Nat.min_le_right _ _)) ?_
  split
  · exact of_eq (by simp) (by simp) (by simp) (by simp)
  · exact refl _

theorem enqueueRecord {s : State} {r : MeasurementRecord} (h : ∀ m v w, r.content = .measure m v w → v ≤ 65535) :
    LimitsKept s (s.enqueueRecord r) := by
  unfold State.enqueueRecord Config.intakeRoom
  split
  · next room =>
    refine ⟨id, fun k => { k with intake := ?_, measured := fun x member => ?_ }, id, id, id⟩
    · simpa [State.setIntake] using room
    · rcases List.mem_append.mp member with queued | added
      · exact k.measured x queued
      · obtain rfl := List.mem_singleton.mp added
        exact h
  · exact count s _

theorem numberOf_two_le (a b : Byte) : numberOf [a, b] ≤ 65535 := by
  have := a.isLt
  have := b.isLt
  simp only [numberOf, List.foldl]
  omega

/-- A measured value has two characters (R28). -/
theorem sampleOf_value {body : List Byte} {x : Sample} (h : sampleOf body = some x) :
    ∀ m v w, x.content = .measure m v w → v ≤ 65535 := by
  intro m v w content
  unfold sampleOf at h
  split at h
  · split at h
    · next read =>
      obtain rfl := Option.some.inj h
      obtain rfl := content
      unfold contentOf at read
      split at read
      · split at read
        · split at read
          · obtain ⟨_, -, wrong⟩ := Option.map_eq_some_iff.mp read
            cases wrong
          · cases read
        · cases read
      · split at read
        · cases read
        · split at read <;> cases read
        · cases read
      · split at read
        · split at read
          · obtain ⟨_, -, same⟩ := Option.map_eq_some_iff.mp read
            obtain ⟨-, rfl, -⟩ := Measurement.measure.inj same
            exact numberOf_two_le _ _
          · cases read
        · cases read
      · cases read
    · cases h
  · cases h

theorem takeSample (s : State) (f : Frame) : LimitsKept s (s.takeSample f) := by
  unfold State.takeSample
  split
  · next e _ =>
    unfold State.admitSample
    split
    · exact loseOne s e
    · next q _ _ =>
      split
      · next x read => exact (checkSequence s e q).trans (enqueueRecord (sampleOf_value read))
      · exact (checkSequence s e q).trans (loseOne _ e)
  · exact refl s

theorem forward (s : State) (f : Frame) : LimitsKept s (s.forward f) := by
  unfold State.forward Config.transitRoom
  split
  · next room => exact ⟨fun h => { h with transit := by simpa [State.setRing] using room }, id, id, id, id⟩
  · exact count s _

theorem deliverCommand (s : State) (f : Frame) : LimitsKept s (s.deliverCommand f) := by
  unfold State.deliverCommand Config.commandRoom
  split
  · next room => exact ⟨id, id, fun _ => by simpa [State.setCommands] using room, id, id⟩
  · exact count s _

theorem classify (s : State) (f : Frame) : LimitsKept s (s.classify f) := by
  unfold State.classify
  split
  · exact refl s
  · exact deliverCommand s f
  · exact (forward s f).trans (deliverCommand _ f)
  · exact (forward s f).trans (takeSample _ f)
  · exact forward s f

theorem endFrame (s : State) : LimitsKept s s.endFrame := by
  unfold State.endFrame
  split
  · exact refl s
  · dsimp only
    refine trans (t := s.setRing { s.rp with assembly := none }) ⟨fun h => { h with }, id, id, id, id⟩ ?_
    split
    · exact classify _ _
    · exact count _ _

/-- A replacement of the Ring Port that leaves its queues and counters. -/
theorem setRing {s : State} {r : RingPort} (h : s.rp.Within → r.Within) : LimitsKept s (s.setRing r) :=
  ⟨h, id, id, id, id⟩

theorem frameLogic (s : State) (c : CharacterSort) : LimitsKept s (s.frameLogic c) := by
  unfold State.frameLogic
  split
  · exact endFrame s
  · exact (endFrame s).trans (setRing fun h => { h with })
  · exact setRing fun h => { h with }
  · exact setRing fun h => { h with }

theorem discardAssembly (s : State) : LimitsKept s s.discardAssembly := by
  unfold State.discardAssembly
  split
  · exact trans (t := s.setRing { s.rp with assembly := none }) (setRing fun h => { h with }) (count _ _)
  · exact refl s

theorem loseSync (s : State) : LimitsKept s s.loseSync :=
  ((discardAssembly s).trans (count _ _)).trans
    (setRing fun h => { h with window := Nat.zero_le _, losses := Nat.min_le_right _ _ })

theorem enterLocked (s : State) : LimitsKept s s.enterLocked := by
  have locked : LimitsKept s (s.setRing { s.rp with
      link := .locked, confirmCount := 0, window := [], assembly := none, lossesSince := 0 }) :=
    setRing fun h => { h with window := Nat.zero_le _, losses := Nat.zero_le _ }
  unfold State.enterLocked
  dsimp only
  split
  · exact locked
  · exact locked.trans (raise _ _)

theorem linkLogic (s : State) (c : Character) : LimitsKept s (s.linkLogic c) := by
  unfold State.linkLogic
  split
  · split
    · exact setRing fun h => { h with }
    · exact refl s
  · split
    · unfold State.confirmFill
      split
      · exact enterLocked s
      · exact setRing fun h => { h with }
    · exact setRing fun h => { h with }
  · unfold State.lockedCharacter
    dsimp only
    refine trans (t := s.setRing { s.rp with window := pushFlag c.error s.rp.window })
      (setRing fun h => { h with window := by simp [pushFlag, Config.windowLength] }) ?_
    split
    · exact loseSync _
    · exact frameLogic _ _

theorem receive (s : State) (c : LineCharacter) : LimitsKept s (s.receive c) := by
  unfold State.receive
  split
  · exact refl s
  · split
    · exact setRing fun h => { h with }
    · exact trans (t := s.setRing { s.rp with awaitingHigh := Character.error _ }) (setRing fun h => { h with })
        (linkLogic _ _)

/-! ## RING-OUT -/

theorem buildFrame_isReply (kind destination source : Byte) (body : List Byte) :
    (buildFrame kind destination source body).isReply = decide (kind = kindReply) := rfl

/-- A frame other than REPLY finds room where fewer than seven are queued (R13, R14). -/
theorem originateOther {s : State} {kind : Byte} (other : kind ≠ kindReply) (room : s.roomForOthers = true)
    (destination : Byte) (body : List Byte) : LimitsKept s (s.originate kind destination body) := by
  simp only [State.roomForOthers, Config.originateOthers, Config.originateRoom, Bool.and_eq_true] at room
  obtain ⟨others, -⟩ := room
  refine setRing fun h => { h with replies := ?_, others := ?_ }
  · simpa [List.filter_append, List.filter_cons, buildFrame_isReply, other] using h.replies
  · simp only [List.filter_append, List.filter_cons, buildFrame_isReply, other, decide_false, Bool.not_false,
      if_true, List.filter_nil, List.length_append, List.length_singleton]
    exact of_decide_eq_true others

theorem admitReply (s : State) : LimitsKept s s.admitReply := by
  unfold State.admitReply
  split
  · next r _ =>
    split
    · exact refl s
    · next free =>
      have noReply : s.rp.originateQueue.filter Frame.isReply = [] := by
        simpa [State.replyQueued, List.filter_eq_nil_iff] using free
      refine trans (t := { s with mu := { s.mu with reply := none } }) (of_eq rfl rfl ⟨rfl, rfl⟩ rfl) ?_
      refine setRing fun h => { h with replies := ?_, others := ?_ }
      · simp [List.filter_append, buildFrame_isReply, noReply]
      · simpa [List.filter_append, List.filter_cons, buildFrame_isReply] using h.others
  · exact refl s

theorem admitVerdict {s : State} (room : s.roomForOthers = true) (i : ModuleIndex) :
    LimitsKept s (s.admitVerdict i) := by
  unfold State.admitVerdict
  dsimp only
  refine trans (t := s.setRing { s.rp with verdictClaims := s.rp.verdictClaims.erase i })
    (setRing fun h => { h with }) ?_
  have room' : (s.setRing { s.rp with verdictClaims := s.rp.verdictClaims.erase i }).roomForOthers = true := room
  generalize s.setRing { s.rp with verdictClaims := s.rp.verdictClaims.erase i } = t at room'
  split
  · exact refl _
  · next v _ =>
    refine trans (originateOther (kind := kindVerdict) (by decide) room' s.controllerDestination
      (verdictBody v (s.record i))) ?_
    split <;> exact of_eq (by simp) (by simp) (by simp) (by simp)

theorem decideNext (s : State) : LimitsKept s s.decideNext := by
  refine setRing fun h => { h with passOver := ?_ }
  have := h.passOver
  unfold decideEgress
  (repeat' split) <;> dsimp only <;> omega

/-! ## The events -/

theorem change {s t : State} (change : Change s t) : LimitsKept s t := by
  cases change with
  | none => exact refl s
  | verdict i rest claims room => exact admitVerdict room i
  | arrive r tag c b => exact (takeRecord s).trans (arriveAt _ b tag c)
  | depart r tag b => exact (takeRecord s).trans (departAt _ b tag)
  | evaluation e => exact (completeEvaluation s e).trans (settleIfSafe _)
  | choice c => exact completeChoice s c
  | choiceSettles c => exact (completeChoice s c).trans (settleIfSafe _)
  | expiry i o t =>
    exact trans (t := s.reachTime t) (of_eq rfl rfl ⟨rfl, rfl⟩ rfl) ((endExpired _ i o).trans (closed _ i o))
  | safePoint => exact settleIfSafe s

theorem commandChange {s t : State} (change : CommandChange s t) : LimitsKept s t := by
  cases change with
  | commit mask =>
    exact trans (t := s.setPendingCommit (some mask)) (of_eq rfl rfl ⟨rfl, rfl⟩ rfl) (settleIfSafe _)
  | ended i o t done =>
    exact trans (t := s.endReported i o done) (of_eq (by simp) (by simp) (by simp) (by simp)) (closed _ i o)
  | resumed =>
    refine ⟨id, fun h => { h with lost := fun e => ?_ }, id, id, id⟩
    change StationLive.lostCount ((mapEntries _ s.iu.live).get e) ≤ 255
    rw [get_mapEntries]
    exact h.lost e
  | _ => exact of_eq (by simp) (by simp) (by simp) (by simp)

theorem effect {s t : State} (effect : CommandEffect s t) : LimitsKept s t := by
  cases effect with
  | same => exact refl s
  | changed t change => exact (commandChange change).trans (select t _)
  | blocked p => exact of_eq (by simp) (by simp) (by simp) (by simp)
  | cleared => exact (clearEngine s).trans (settleIfSafe _)
  | counted => exact setRing fun h => { h with counters := fun c => by cases c <;> exact Nat.zero_le _ }
  | _ => exact of_eq rfl rfl ⟨rfl, rfl⟩ rfl

theorem afterReset (s : State) (straps : BitVec 3) (l : List Instr) :
    LimitsKept s { State.afterReset straps with pending := l } where
  ring _ := by
    refine ⟨?_, ?_, ?_, ?_, ?_, ?_, fun c => by cases c <;> exact Nat.zero_le _⟩ <;> exact Nat.zero_le _
  intake _ := by
    refine ⟨Nat.zero_le _, fun e => ?_, fun _ member => absurd member List.not_mem_nil⟩
    rw [show IntakeUnit.live _ = Vector.replicate 32 StationLive.cleared from rfl, get_replicate]
    exact Nat.zero_le _
  commands _ := Nat.zero_le _
  notices _ := ⟨List.nodup_nil, fun _ member => absurd member List.not_mem_nil⟩
  expired _ := Nat.zero_le _

/-- No event takes a queue, a list or a counter past its limit. -/
theorem event {s t : State} (event : Event s t) : LimitsKept s t := by
  cases event with
  | asserted => exact setRing fun h => { h with }
  | released straps => exact afterReset s straps _
  | received c => exact receive s c
  | transitFreed => exact setRing fun h => { h with transit := (List.tail_sublist _).length_le.trans h.transit }
  | originateFreed =>
    have tail : s.rp.originateQueue.tail.Sublist s.rp.originateQueue := List.tail_sublist _
    exact setRing fun h => { h with
      replies := (tail.filter _).length_le.trans h.replies, others := (tail.filter _).length_le.trans h.others }
  | decided => exact decideNext s
  | reply => exact admitReply s
  | order x claim room =>
    exact trans (originateOther (kind := kindOrder) (by decide) room s.controllerDestination _)
      (of_eq rfl rfl ⟨rfl, rfl⟩ rfl)
  | notice n rest notices room =>
    refine trans (t := { s with mu := { s.mu with notices := s.mu.notices.tail } }) ⟨id, id, id, .tail, id⟩ ?_
    exact originateOther (s := { s with mu := { s.mu with notices := s.mu.notices.tail } }) (kind := kindNotice)
      (by decide) room _ _
  | ignored r => exact (takeRecord s).trans (count _ _)
  | measuredBay r k v w b => exact (takeRecord s).trans (measureBay _ b k v w)
  | measuredSlot r k v w p => exact (takeRecord s).trans (measureSlot _ p k v w)
  | selected t p ch => exact (change ch).trans (select t p)
  | settled i x => exact of_eq (by simp) (by simp) (by simp) (by simp)
  | ticked => exact of_eq (by simp) (by simp) (by simp) (by simp)
  | command f rest a queue eff =>
    have taken : LimitsKept s (s.setCommands rest) :=
      ⟨id, id, fun h => by rw [queue] at h; exact (Nat.le_succ _).trans h, id, id⟩
    exact (taken.trans (effect eff)).trans (of_eq rfl rfl ⟨rfl, rfl⟩ rfl)

end LimitsKept

end Sys2Proof.Machine
end

section
/-! SUPPORT. The link (R3 to R5, R7) and the values measured (R28, R79), which every event keeps as they should be. -/

namespace Sys2Proof.Machine

/-! ## The link -/

/-- The link as `LinkAgrees` says, of the Ring Port alone. -/
structure RingPort.LinkAgrees (r : RingPort) : Prop where
  assembly : r.link ≠ .locked → r.assembly = none
  window   : r.link ≠ .locked → r.window = []
  errors   : errorsIn r.window ≤ 3
  confirm  : r.link ≠ .confirm → r.confirmCount = 0
  confirms : r.confirmCount ≤ 3

theorem linkAgrees_iff (s : State) : LinkAgrees s ↔ s.rp.LinkAgrees :=
  ⟨fun ⟨a, b, c, d, e⟩ => ⟨a, b, c, d, e⟩, fun ⟨a, b, c, d, e⟩ => ⟨a, b, c, d, e⟩⟩

namespace RingPort.LinkAgrees

/-- What the link's fields are is all the link is. -/
theorem of_eq {r x : RingPort} (h : r.LinkAgrees) (link : x.link = r.link) (assembly : x.assembly = r.assembly)
    (window : x.window = r.window) (confirm : x.confirmCount = r.confirmCount) : x.LinkAgrees := by
  obtain ⟨a, b, c, d, e⟩ := h
  exact ⟨by rwa [link, assembly], by rwa [link, window], by rwa [window], by rwa [link, confirm], by rwa [confirm]⟩

theorem of_core {r x : RingPort} (h : r.LinkAgrees) (core : x.core = r.core) : x.LinkAgrees :=
  h.of_eq (congrArg RingPort.link core : x.core.link = r.core.link)
    (congrArg RingPort.assembly core : x.core.assembly = r.core.assembly)
    (congrArg RingPort.window core : x.core.window = r.core.window)
    (congrArg RingPort.confirmCount core : x.core.confirmCount = r.core.confirmCount)

/-- A LOCKED link with a window that has not lost sync. -/
theorem locked {r : RingPort} (link : r.link = .locked) (errors : errorsIn r.window ≤ 3)
    (confirm : r.confirmCount = 0) : r.LinkAgrees where
  assembly other := absurd link other
  window other := absurd link other
  errors := errors
  confirm _ := confirm
  confirms := confirm ▸ Nat.zero_le _

/-- A link that is not LOCKED, with nothing in assembly and an empty window. -/
theorem unlocked {r : RingPort} (assembly : r.assembly = none) (window : r.window = [])
    (confirm : r.link ≠ .confirm → r.confirmCount = 0) (confirms : r.confirmCount ≤ 3) : r.LinkAgrees where
  assembly _ := assembly
  window _ := window
  errors := by rw [window]; exact Nat.zero_le _
  confirm := confirm
  confirms := confirms

end RingPort.LinkAgrees

/-- The fields of a LOCKED link that the frame logic leaves: link, window and confirm count. -/
def RingPort.sync (r : RingPort) : LinkState × List Bool × Nat := (r.link, r.window, r.confirmCount)

theorem RingPort.sync_of_core {r x : RingPort} (core : x.core = r.core) : x.sync = r.sync :=
  (congrArg RingPort.sync core : x.core.sync = r.core.sync)

theorem State.forward_sync (s : State) (f : Frame) : (s.forward f).rp.sync = s.rp.sync := by
  unfold State.forward
  split <;> rfl

theorem State.deliverCommand_sync (s : State) (f : Frame) : (s.deliverCommand f).rp.sync = s.rp.sync := by
  unfold State.deliverCommand
  split <;> rfl

theorem State.classify_sync (s : State) (f : Frame) : (s.classify f).rp.sync = s.rp.sync := by
  unfold State.classify
  split
  · rfl
  · exact s.deliverCommand_sync f
  · exact (State.deliverCommand_sync _ f).trans (s.forward_sync f)
  · exact (RingPort.sync_of_core (State.takeSample_inner _ f)).trans (s.forward_sync f)
  · exact s.forward_sync f

theorem State.endFrame_sync (s : State) : s.endFrame.rp.sync = s.rp.sync := by
  unfold State.endFrame
  split
  · rfl
  · dsimp only
    split
    · exact State.classify_sync _ _
    · rfl

theorem State.frameLogic_sync (s : State) (c : CharacterSort) : (s.frameLogic c).rp.sync = s.rp.sync := by
  unfold State.frameLogic
  split
  · exact s.endFrame_sync
  · exact s.endFrame_sync
  · rfl
  · rfl

/-- Fewer error flags than four stand in the window after a character that loses no sync (R5). -/
theorem errorsIn_pushFlag {flag : Bool} {w : List Bool} (h : errorsIn w ≤ 3)
    (held : ¬(flag = true ∧ 4 ≤ errorsIn (pushFlag flag w))) : errorsIn (pushFlag flag w) ≤ 3 := by
  cases flag with
  | true => exact Nat.lt_succ_iff.mp (by simpa using held)
  | false =>
    calc errorsIn (pushFlag false w) ≤ errorsIn (false :: w) := (List.take_sublist _ _).count_le _
      _ = errorsIn w := by simp [errorsIn]
      _ ≤ 3 := h

theorem State.discardAssembly_assembly (s : State) : s.discardAssembly.rp.assembly = none := by
  unfold State.discardAssembly
  split
  · rfl
  · next none => exact none

theorem State.lockedCharacter_linkAgrees {s : State} (h : s.rp.LinkAgrees) (link : s.rp.link = .locked)
    (c : Character) : (s.lockedCharacter c).rp.LinkAgrees := by
  unfold State.lockedCharacter
  dsimp only
  split
  · refine .unlocked ?_ rfl (fun _ => rfl) (Nat.zero_le _)
    exact State.discardAssembly_assembly _
  · next held =>
    have sync := State.frameLogic_sync (s.setRing { s.rp with window := pushFlag c.error s.rp.window }) c.sort
    obtain ⟨link', rest⟩ := Prod.mk.inj sync
    obtain ⟨window, confirm⟩ := Prod.mk.inj rest
    refine .locked (link'.trans link) ?_ (confirm.trans (h.confirm (by simp [link])))
    rw [window]
    exact errorsIn_pushFlag h.errors held

theorem State.enterLocked_linkAgrees (s : State) : s.enterLocked.rp.LinkAgrees := by
  unfold State.enterLocked
  dsimp only
  split <;> exact .locked rfl (Nat.zero_le _) rfl

theorem State.linkLogic_linkAgrees {s : State} (h : s.rp.LinkAgrees) (c : Character) :
    (s.linkLogic c).rp.LinkAgrees := by
  unfold State.linkLogic
  split
  · next link =>
    split
    · exact .unlocked (h.assembly (by simp [link])) (h.window (by simp [link])) (fun other => absurd rfl other)
        (Nat.le_add_left 1 2)
    · exact h
  · next link =>
    have assembly := h.assembly (by simp [link])
    have window := h.window (by simp [link])
    split
    · unfold State.confirmFill Config.confirmFills
      split
      · exact s.enterLocked_linkAgrees
      · next more =>
        refine .unlocked assembly window (fun other => absurd link other) ?_
        have := h.confirms
        change s.rp.confirmCount + 1 ≤ 3
        omega
    · exact .unlocked assembly window (fun _ => rfl) (Nat.zero_le _)
  · next link => exact State.lockedCharacter_linkAgrees h link c

theorem State.receive_linkAgrees {s : State} (h : s.rp.LinkAgrees) (c : LineCharacter) :
    (s.receive c).rp.LinkAgrees := by
  unfold State.receive
  split
  · exact h
  · split
    · exact h.of_eq rfl rfl rfl rfl
    · exact State.linkLogic_linkAgrees (s := s.setRing { s.rp with awaitingHigh := Character.error _ })
        (h.of_eq rfl rfl rfl rfl) _

theorem Change.linkAgrees {s t : State} (h : s.rp.LinkAgrees) (change : Change s t) : t.rp.LinkAgrees := by
  cases change with
  | none => exact h
  | verdict i =>
    unfold State.admitVerdict
    dsimp only
    split
    · exact h.of_eq rfl rfl rfl rfl
    · split
      · exact h.of_eq (by simp; rfl) (by simp; rfl) (by simp; rfl) (by simp; rfl)
      · exact h.of_eq rfl rfl rfl rfl
  | arrive r tag c b => exact h.of_core (State.arriveAt_inner _ b tag c).2.2.1
  | depart r tag b => exact h.of_core (by simp)
  | evaluation e => exact h.of_core (by simp)
  | choice c => exact h.of_core (by simp)
  | choiceSettles c => exact h.of_core (by simp)
  | expiry i o t => exact h.of_core (by simp)
  | safePoint => exact h.of_core (by simp)

theorem CommandEffect.linkAgrees {s t : State} (h : s.rp.LinkAgrees) (effect : CommandEffect s t) :
    t.rp.LinkAgrees := by
  cases effect with
  | changed t change =>
    refine h.of_core ?_
    cases change <;> simp
  | cleared => exact h.of_core (by simp)
  | counted => exact h.of_core (by simp)
  | _ => exact h.of_core (by simp)

theorem Event.linkAgrees {s t : State} (h : s.rp.LinkAgrees) (event : Event s t) : t.rp.LinkAgrees := by
  cases event with
  | released straps => exact .unlocked rfl rfl (fun _ => rfl) (Nat.zero_le _)
  | received c => exact State.receive_linkAgrees h c
  | reply =>
    unfold State.admitReply
    split
    · split
      · exact h
      · exact h.of_eq rfl rfl rfl rfl
    · exact h
  | selected u p change => exact (change.linkAgrees h).of_core (by simp)
  | command f rest a queue effect => exact CommandEffect.linkAgrees (s := s.setCommands rest) (t := a.state) h effect
  | measuredBay r k v w b => exact h.of_core (by simp)
  | measuredSlot r k v w p => exact h.of_core (by simp)
  | settled i x => exact h.of_core (by simp)
  | _ => exact h.of_eq rfl rfl rfl rfl

/-! ## Measured values -/

/-- The value of the evaluation in progress has two characters (R28, R70). -/
def State.Evaluated (s : State) : Prop := ∀ e, s.ge.evaluation = some e → e.value ≤ 65535

theorem State.Evaluated.of_eq {s t : State} (h : s.Evaluated) (evaluation : t.ge.evaluation = s.ge.evaluation) :
    t.Evaluated := by
  intro e inProgress
  exact h e (evaluation ▸ inProgress)

theorem State.Evaluated.of_none {s : State} (h : s.ge.evaluation = none) : s.Evaluated := by
  intro e inProgress
  rw [h] at inProgress
  cases inProgress

theorem State.beginEvaluation_evaluated (s : State) (m : ModuleRef) (place : Place) (k : Metric) {v : Nat}
    (h : v ≤ 65535) (w : Int) (x : Option Nat) : (s.beginEvaluation m place k v w x).Evaluated := by
  intro e inProgress
  obtain rfl := Option.some.inj inProgress
  exact h

theorem State.Evaluated.measureBay {s : State} (h : s.Evaluated) (b : Bay) (k : Metric) {v : Nat} (value : v ≤ 65535)
    (w : Int) : (s.measureBay b k v w).Evaluated := by
  unfold State.measureBay
  split
  · exact h
  · split
    · split
      · exact h.of_eq (by simp)
      · exact h
    · split
      · exact State.beginEvaluation_evaluated _ _ _ _ value _ _
      · exact h

theorem State.Evaluated.measureSlot {s : State} (h : s.Evaluated) (p : SlotId) (k : Metric) {v : Nat}
    (value : v ≤ 65535) (w : Int) : (s.measureSlot p k v w).Evaluated := by
  unfold State.measureSlot
  split
  · exact State.beginEvaluation_evaluated _ _ _ _ value _ _
  all_goals exact h

theorem Change.evaluated {s t : State} (h : s.Evaluated) (change : Change s t) : t.Evaluated := by
  cases change with
  | none => exact h
  | arrive r tag c b => exact h.of_eq (State.arriveAt_inner _ b tag c).2.1
  | evaluation e =>
    refine .of_none ((State.settleIfSafe_inner _).2.1.trans ?_)
    unfold State.completeEvaluation
    split <;> rfl
  | _ => exact h.of_eq (by simp)

theorem CommandEffect.evaluated {s t : State} (h : s.Evaluated) (effect : CommandEffect s t) : t.Evaluated := by
  cases effect with
  | changed t change =>
    refine h.of_eq ?_
    cases change <;> simp
  | cleared => exact .of_none (by simp; rfl)
  | _ => exact h.of_eq (by simp)

theorem Event.evaluated {s t : State} (measured : s.iu.Within) (h : s.Evaluated) (event : Event s t) :
    t.Evaluated := by
  have taken : ∀ {r : MeasurementRecord} {k v w}, s.nextRecord = some r → r.content = .measure k v w → v ≤ 65535 := by
    intro r k v w next content
    obtain ⟨-, -, rest, queue⟩ := State.pendingCommit_of_nextRecord next
    exact measured.measured r (by rw [queue]; exact List.mem_cons_self) k v w content
  cases event with
  | released straps => exact .of_none rfl
  | measuredBay r k v w b next content => exact State.Evaluated.measureBay (s := s.takeRecord) h b k (taken next content) w
  | measuredSlot r k v w p next content =>
    exact State.Evaluated.measureSlot (s := s.takeRecord) h p k (taken next content) w
  | selected u p change => exact (change.evaluated h).of_eq (by simp)
  | ticked =>
    intro e inProgress
    obtain ⟨x, old, rfl⟩ := Option.map_eq_some_iff.mp ((s.tick_frame.2.2.2.2.2.2.2.2.2.1).symm.trans inProgress)
    exact h x old
  | command f rest a queue effect => exact CommandEffect.evaluated (s := s.setCommands rest) (t := a.state) h effect
  | reply => exact h.of_eq (by simp)
  | _ => exact h.of_eq (by simp)

/-- The counts and the last value of an evidence set are within their limits (R36, R79). -/
structure Evidence.Within (x : Evidence) : Prop where
  confirmations : x.confirmations ≤ 255
  unmatched     : x.unmatched ≤ 255
  lastValue     : ∀ v, x.lastValue = some v → v ≤ 65535

theorem Evidence.Within.cleared : Evidence.cleared.Within := ⟨Nat.zero_le _, Nat.zero_le _, fun _ h => nomatch h⟩

theorem Evidence.Within.after {x : Evidence} (h : x.Within) (rules : Vector GradingRule 96) (found : SearchResult)
    {value : Nat} (measured : value ≤ 65535) : (x.after rules found value).Within := by
  have last : ∀ v, some value = some v → v ≤ 65535 := fun v same => Option.some.inj same ▸ measured
  unfold Evidence.after
  split
  · unfold Evidence.matched
    split
    · exact ⟨Nat.min_le_right _ _, h.unmatched, last⟩
    · exact ⟨h.confirmations, h.unmatched, last⟩
  · exact ⟨h.confirmations, Nat.min_le_right _ _, last⟩

theorem EvidenceSets.get_cleared (m : Metric) : EvidenceSets.cleared.get m = .cleared := by cases m <;> rfl

theorem EvidenceSets.get_set (e : EvidenceSets) (m k : Metric) (x : Evidence) :
    (e.set m x).get k = if m = k then x else e.get k := by
  cases m <;> cases k <;> rfl

theorem EvidenceSets.get_mapAll (e : EvidenceSets) (m : Metric) (f : Evidence → Evidence) :
    (e.mapAll f).get m = f (e.get m) := by
  cases m <;> rfl

/-- Every evidence set of every record has a property. -/
def State.evidenceAll (s : State) (Q : Evidence → Prop) : Prop := ∀ i m, Q ((s.record i).evidence.get m)

theorem State.evidenceAll.kept {s t : State} {Q : Evidence → Prop} (cleared : Q .cleared) (h : s.evidenceAll Q)
    (k : RegisterKept s t) : t.evidenceAll Q := by
  intro i m
  rcases k.evidence i with same | clear
  · rw [same]
    exact h i m
  · rw [clear, EvidenceSets.get_cleared]
    exact cleared

/-- The evidence a completion leaves: that of the metric taken after the search, all else as it was (R82). -/
theorem State.completeEvaluation_evidence (s : State) (e : Evaluation) :
    ∃ t, (t = s ∨ t = s.setRecord e.module.index ((s.record e.module.index).withEvidence e.metric
      (((s.record e.module.index).evidence.get e.metric).after s.mu.active.rule (s.searchResult e) e.value))) ∧
      RegisterKept t (s.completeEvaluation e) := by
  obtain ⟨t, outcome, completed⟩ := s.completeEvaluation_outcome e
  rw [completed]
  cases outcome with
  | applied =>
    refine ⟨_, .inr rfl, ?_⟩
    unfold State.applyCompletion
    dsimp only
    refine RegisterKept.congr ?_ (by simp; rfl)
    split
    · exact .of_eq rfl
    · split
      · exact .resolve _ _
      · exact .refl _
  | declined => exact ⟨s, .inl rfl, .of_eq rfl⟩

/-- What a commit's effects leave in the Module Register: records kept, their runs cleared when RULE is committed (R77,
R194). -/
theorem State.commitEffects_register (s : State) (mask : BitVec 5) (old : Tables) :
    ∃ u, RegisterKept s u ∧
      (s.commitEffects mask old).mr = if names mask .rule then u.clearRuns.mr else u.mr := by
  refine ⟨if names mask .stat then s.carryStations old.stat s.mu.active.stat else s, ?_, ?_⟩
  · split
    · exact .carryStations s _ _
    · exact .refl s
  · unfold State.commitEffects
    dsimp only
    generalize (if names mask .stat then s.carryStations old.stat s.mu.active.stat else s) = a
    have fitted : State.mr (if names mask .bank then a.applyGeometry old.bank s.mu.active.bank else a) = a.mr :=
      State.ite_keeps (P := fun t => t.mr = a.mr) rfl fun _ => by simp
    generalize (if names mask .bank then a.applyGeometry old.bank s.mu.active.bank else a) = b at fitted
    have cleared : State.mr (if names mask .rule then b.clearRuns else b) =
        if names mask .rule then a.clearRuns.mr else a.mr := by
      split
      · rw [State.clearRuns, State.clearRuns, fitted]
      · exact fitted
    rw [← cleared]
    generalize (if names mask .rule then b.clearRuns else b) = c
    have reread : State.mr (if names mask .pcls || names mask .bank then c.rereadPriorities else c) = c.mr :=
      State.ite_keeps (P := fun t => t.mr = c.mr) rfl fun _ => by simp
    generalize (if names mask .pcls || names mask .bank then c.rereadPriorities else c) = d at reread
    exact State.ite_keeps (P := fun t => t.mr = c.mr) reread fun _ => by simpa using reread

/-- What a settled commit leaves in the Module Register and in the active rules (R77, R192 to R194). -/
theorem State.settleIfSafe_register (s : State) :
    ∃ u, RegisterKept s u ∧
      (s.settleIfSafe.mr = u.mr ∧ s.settleIfSafe.mu.active.rule = s.mu.active.rule ∨
        s.settleIfSafe.mr = u.clearRuns.mr) := by
  have outcome := s.settleIfSafe_outcome
  generalize s.settleIfSafe = t at outcome
  cases outcome with
  | waits => exact ⟨s, .refl s, .inl ⟨rfl, rfl⟩⟩
  | refused f => exact ⟨s, .refl s, .inl ⟨rfl, rfl⟩⟩
  | taken mask =>
    let v := (s.setPendingCommit none).setActive (mergedTables mask s.mu.active s.mu.shadow)
    obtain ⟨u, kept, register⟩ := v.commitEffects_register mask s.mu.active
    refine ⟨u, (RegisterKept.of_eq rfl : RegisterKept s v).trans kept, ?_⟩
    have active : (v.commitEffects mask s.mu.active).mu.active = mergedTables mask s.mu.active s.mu.shadow := by
      simp [v]
    by_cases named : names mask .rule = true
    · exact .inr (register.trans (by simp [named]))
    · refine .inl ⟨register.trans (by simp [named]), (congrArg Tables.rule active).trans ?_⟩
      simp [mergedTables, named]

theorem State.clearRuns_record (s : State) (i : ModuleIndex) : s.clearRuns.record i = (s.record i).runsCleared :=
  get_mapEntries _ _ _

/-- A property of evidence that clearing a run keeps is kept by a settled commit. -/
theorem State.evidenceAll.settleIfSafe {s : State} {Q : Evidence → Prop} (h : s.evidenceAll Q) (cleared : Q .cleared)
    (runs : ∀ x, Q x → Q x.runCleared) : s.settleIfSafe.evidenceAll Q := by
  obtain ⟨u, kept, ⟨register, -⟩ | register⟩ := s.settleIfSafe_register
  · exact (h.kept cleared kept).kept cleared (.of_eq register)
  · have all : u.clearRuns.evidenceAll Q := by
      intro i m
      rw [State.clearRuns_record]
      change Q (((u.record i).evidence.mapAll Evidence.runCleared).get m)
      rw [EvidenceSets.get_mapAll]
      exact runs _ (h.kept cleared kept i m)
    exact all.kept cleared (.of_eq register)

theorem State.CountsWithin.settleIfSafe {s : State} (h : s.CountsWithin) : s.settleIfSafe.CountsWithin := by
  obtain ⟨u, kept, ⟨register, -⟩ | register⟩ := s.settleIfSafe_register
  · exact (RegisterKept.of_eq register).counts (kept.counts h)
  · refine (RegisterKept.of_eq register).counts ⟨(kept.counts h).counter, fun i => ?_⟩
    rw [State.clearRuns_record]
    obtain ⟨gaps, watches, arrival⟩ := (kept.counts h).records i
    exact ⟨gaps, watches, arrival⟩

/-- Every event keeps the counts of the records and of their evidence within their limits. -/
theorem Event.recordsWithin {s t : State} (evaluated : s.Evaluated)
    (h : s.CountsWithin ∧ s.evidenceAll Evidence.Within) (event : Event s t) :
    t.CountsWithin ∧ t.evidenceAll Evidence.Within := by
  refine Event.register_keeps (P := fun t => t.CountsWithin ∧ t.evidenceAll Evidence.Within)
    (fun u v ⟨counts, evidence⟩ kept _ => ⟨kept.counts counts, evidence.kept .cleared kept⟩)
    (fun u ⟨counts, evidence⟩ => ⟨counts.settleIfSafe, evidence.settleIfSafe .cleared fun x hx => { hx with }⟩)
    (fun straps => ?_) (fun e inProgress => ?_) h event
  · have record : ∀ i, State.record { State.afterReset straps with pending := s.pending } i = .cleared 0 :=
      fun i => get_replicate _ i
    refine ⟨⟨Nat.zero_le _, fun i => ?_⟩, fun i m => ?_⟩
    · rw [record]
      exact ⟨Nat.zero_le _, Nat.zero_le _, Nat.zero_le _⟩
    · rw [record]
      change (EvidenceSets.cleared.get m).Within
      rw [EvidenceSets.get_cleared]
      exact .cleared
  · obtain ⟨counts, evidence⟩ := h
    obtain ⟨u, completed, kept⟩ := s.completeEvaluation_evidence e
    have both : u.CountsWithin ∧ u.evidenceAll Evidence.Within := by
      rcases completed with rfl | rfl
      · exact ⟨counts, evidence⟩
      · refine ⟨⟨counts.counter, fun i => ?_⟩, fun i m => ?_⟩
        · rw [State.record_setRecord]
          split
          · obtain ⟨gaps, watches, arrival⟩ := counts.records e.module.index
            exact ⟨gaps, watches, arrival⟩
          · exact counts.records i
        · rw [State.record_setRecord]
          split
          · change Evidence.Within (((s.record e.module.index).evidence.set e.metric _).get m)
            rw [EvidenceSets.get_set]
            split
            · exact (evidence _ _).after _ _ (evaluated e inProgress)
            · exact evidence _ _
          · exact evidence i m
    exact ⟨kept.counts both.1, both.2.kept .cleared kept⟩

/-- The capacities block by block. -/
structure CapacityBlocks (s : State) : Prop where
  ring      : s.rp.Within
  intake    : s.iu.Within
  commands  : s.mu.commandQueue.length ≤ 4
  notices   : NoticesWithin s.mu.notices
  expired   : s.ot.expired.length ≤ 8
  records   : s.CountsWithin ∧ s.evidenceAll Evidence.Within
  evaluated : s.Evaluated

theorem withinCapacities_iff (s : State) : WithinCapacities s ↔ CapacityBlocks s where
  mp h :=
    { ring := ⟨h.transit, h.replies, h.others, h.passOver, h.window, h.losses, h.counters⟩
      intake := ⟨h.intake, h.lost, h.measured⟩
      commands := h.commands
      notices := ⟨h.notices, h.noticeCounts⟩
      expired := h.expired
      records := ⟨⟨h.arrivals.1, fun i => ⟨h.gaps i, h.watches i, h.arrivals.2 i⟩⟩,
        fun i m => ⟨h.confirmations i m, h.unmatched i m, h.lastValues i m⟩⟩
      evaluated := h.evaluated }
  mpr h := by
    obtain ⟨⟨transit, replies, others, passOver, window, losses, counters⟩, ⟨intake, lost, measured⟩, commands,
      ⟨notices, noticeCounts⟩, expired, ⟨⟨counter, records⟩, evidence⟩, evaluated⟩ := h
    exact ⟨transit, replies, others, passOver, window, losses, counters, intake, lost, commands, notices,
      noticeCounts, expired, fun i => (records i).gaps, fun i => (records i).watches,
      ⟨counter, fun i => (records i).arrival⟩, fun i m => (evidence i m).confirmations,
      fun i m => (evidence i m).unmatched, fun i m => (evidence i m).lastValue, measured, evaluated⟩

theorem Event.withinCapacities {s t : State} (h : WithinCapacities s) (event : Event s t) : WithinCapacities t := by
  rw [withinCapacities_iff] at h ⊢
  have limits := LimitsKept.event event
  exact
    { ring := limits.ring h.ring
      intake := limits.intake h.intake
      commands := limits.commands h.commands
      notices := limits.notices h.notices
      expired := limits.expired h.expired
      records := event.recordsWithin h.evaluated h.records
      evaluated := event.evaluated h.intake h.evaluated }

/-- Settles O56, by the events of a step, block by block: each queue, list and counter is kept within its limit and the
link as its state says. -/
theorem everyStepKeepsCapacities : Obligations.EveryStepKeepsCapacities := by
  unfold Obligations.EveryStepKeepsCapacities
  refine ⟨fun s t => step_keeps (fun s l h => ?_) fun _ _ => Event.withinCapacities,
    fun s t => step_keeps (fun s l h => ?_) fun u v h event => ?_⟩
  · have blocks := (withinCapacities_iff s).mp h
    obtain ⟨⟨counter, records⟩, evidence⟩ := blocks.records
    exact (withinCapacities_iff _).mpr { blocks with records := ⟨⟨counter, records⟩, evidence⟩ }
  · exact (linkAgrees_iff _).mpr ((linkAgrees_iff s).mp h)
  · exact (linkAgrees_iff v).mpr (event.linkAgrees ((linkAgrees_iff u).mp h))

end Sys2Proof.Machine
end

section
/-! SUPPORT. The tables within their ranges (R190, R194), the runs below their confirm counts (R76) and the search of the
evaluation in progress (R70, R86), kept by every event. -/

namespace Sys2Proof.Machine

/-! ## Entries read -/

theorem BitVec.toNat_le_255 (b : Byte) : b.toNat ≤ 255 := Nat.le_of_lt_succ b.isLt

theorem signedOf_range (l : List Byte) : -32768 ≤ signedOf l ∧ signedOf l ≤ 32767 := by
  have := BitVec.le_toInt (BitVec.ofNat 16 (numberOf l))
  have := BitVec.toInt_lt (x := BitVec.ofNat 16 (numberOf l))
  unfold signedOf
  omega

theorem ceilingOf_ne_reject {n : Nat} {g : Grade} (h : ceilingOf n = some g) : g ≠ .reject := by
  unfold ceilingOf at h
  split at h <;> simp_all <;> subst h <;> decide

theorem originClassOf_inRange {l : List Byte} {e : OriginClass} (h : originClassOf l = some e) : e.InRange := by
  unfold originClassOf at h
  split at h
  · next r1 r0 t g c =>
    split at h
    · next ceiling read =>
      split at h
      · next range =>
        obtain rfl := Option.some.inj h
        exact ⟨range.1, ⟨range.2, BitVec.toNat_le_255 t⟩, BitVec.toNat_le_255 g, ceilingOf_ne_reject read⟩
      · cases h
    · cases h
  · cases h

theorem windowOf_range (mode : RuleMode) (a b : Byte) :
    (mode = .absolute → 0 ≤ windowOf mode [a, b] ∧ windowOf mode [a, b] ≤ 65535) ∧
      (mode = .relative → -32768 ≤ windowOf mode [a, b] ∧ windowOf mode [a, b] ≤ 32767) := by
  refine ⟨?_, ?_⟩ <;> rintro rfl
  · have := LimitsKept.numberOf_two_le a b
    exact ⟨Int.natCast_nonneg _, Int.ofNat_le.mpr this⟩
  · exact signedOf_range _

theorem qualifierOf_range {present : Bool} {low high : Int} {x : Option Qualifier}
    (h : qualifierOf present low high = some x) :
    ∀ q, x = some q → -400 ≤ q.low ∧ q.low ≤ 1250 ∧ -400 ≤ q.high ∧ q.high ≤ 1250 := by
  rintro q rfl
  unfold qualifierOf at h
  split at h
  · split at h
    · next range =>
      obtain rfl := Option.some.inj (Option.some.inj h)
      exact range
    · cases h
  · cases h

theorem confirmOf_range {k : Nat} {x : Option Nat} (h : confirmOf k = some x) : ∀ n, x = some n → 1 ≤ n ∧ n ≤ 15 := by
  rintro n rfl
  unfold confirmOf at h
  split at h
  · cases h
  · split at h
    · next nonzero range =>
      obtain rfl := Option.some.inj (Option.some.inj h)
      exact ⟨Nat.pos_of_ne_zero nonzero, range⟩
    · cases h

theorem gradingRuleOf_inRange {l : List Byte} {e : GradingRule} (h : gradingRuleOf l = some e) : e.InRange := by
  unfold gradingRuleOf at h
  split at h
  · next v m1 m0 ap me mo l1 l0 h1 h0 qp ql1 ql0 qh1 qh0 g cc =>
    simp only [Option.bind_eq_bind, Option.bind_eq_some_iff, Option.pure_def, Option.some.injEq] at h
    obtain ⟨valid, -, applicability, -, metric, -, mode, -, present, -, qualifier, read, grade, -, confirm, count,
      rfl⟩ := h
    obtain ⟨lowAbsolute, lowRelative⟩ := windowOf_range mode l1 l0
    obtain ⟨highAbsolute, highRelative⟩ := windowOf_range mode h1 h0
    refine ⟨fun absolute => ?_, fun relative => ?_, qualifierOf_range read, confirmOf_range count⟩
    · exact ⟨(lowAbsolute absolute).1, (lowAbsolute absolute).2, highAbsolute absolute⟩
    · exact ⟨(lowRelative relative).1, (lowRelative relative).2, highRelative relative⟩
  · cases h

theorem pairingClassOf_inRange {l : List Byte} {e : PairingClass} (h : pairingClassOf l = some e) : e.InRange := by
  unfold pairingClassOf at h
  split at h
  · split at h
    · next minimum read =>
      split at h
      · next range =>
        obtain rfl := Option.some.inj h
        obtain ⟨cap, res, reference, fill, replace, watch⟩ := range
        exact ⟨ceilingOf_ne_reject read, ⟨LimitsKept.numberOf_two_le _ _, LimitsKept.numberOf_two_le _ _⟩, ⟨cap, res⟩,
          reference, ⟨fill, replace⟩, watch⟩
      · cases h
    · cases h
  · cases h

theorem Role.channelMax_eq (r : Role) : r.channelMax = if r = .testBay then 4 else 8 := by cases r <;> rfl

theorem stationOf_inRange {l : List Byte} {e : Station} (h : stationOf l = some e) : e.InRange := by
  unfold stationOf at h
  split at h
  · simp only [Option.bind_eq_bind, Option.bind_eq_some_iff] at h
    obtain ⟨valid, -, role, -, string, -, base, -, h⟩ := h
    split at h
    · next range =>
      obtain rfl := Option.some.inj h
      obtain ⟨address, one, channels⟩ := range
      exact ⟨address, one, role.channelMax_eq ▸ channels⟩
    · cases h
  · cases h

theorem controllerOf_range {b a : Byte} (h : controllerOf b = some a) : a.toNat ≤ 254 := by
  unfold controllerOf at h
  split at h
  · cases h
  · next other =>
    obtain rfl := Option.some.inj h
    have := b.isLt
    have : b.toNat ≠ 255 := fun same => other (BitVec.eq_of_toNat_eq same)
    omega

theorem bankSettingsOf_inRange {l : List Byte} {b : BankSettings} (h : bankSettingsOf l = some b) : b.InRange := by
  unfold bankSettingsOf at h
  split at h
  · simp only [Option.bind_eq_bind, Option.bind_eq_some_iff] at h
    obtain ⟨_, -, _, -, _, -, _, -, _, -, _, -, _, -, _, -, _, -, _, -, h⟩ := h
    split at h
    · next range =>
      obtain rfl := Option.some.inj h
      obtain ⟨strings, one, positions, first, deadline⟩ := range
      exact ⟨strings, ⟨one, positions⟩, ⟨first, deadline⟩, fun _ => controllerOf_range⟩
    · cases h
  · cases h

/-- The entry that a write puts is within its ranges. -/
def EntryWrite.InRange : EntryWrite → Prop
  | .orig _ e => e.InRange
  | .rule _ e => e.InRange
  | .pcls _ e => e.InRange
  | .stat _ e => e.InRange
  | .bank e => e.InRange

theorem entryWriteOf_inRange {t : Table} {chars : List Byte} {w : EntryWrite} (h : entryWriteOf t chars = some w) :
    w.InRange := by
  unfold entryWriteOf at h
  split at h
  · cases t with
    | orig =>
      simp only [Option.bind_eq_bind, Option.bind_eq_some_iff, Option.pure_def, Option.some.injEq] at h
      obtain ⟨k, -, e, read, rfl⟩ := h
      exact originClassOf_inRange read
    | rule =>
      simp only [Option.bind_eq_bind, Option.bind_eq_some_iff, Option.pure_def, Option.some.injEq] at h
      obtain ⟨k, -, e, read, rfl⟩ := h
      exact gradingRuleOf_inRange read
    | pcls =>
      simp only [Option.bind_eq_bind, Option.bind_eq_some_iff, Option.pure_def, Option.some.injEq] at h
      obtain ⟨k, -, e, read, rfl⟩ := h
      exact pairingClassOf_inRange read
    | stat =>
      simp only [Option.bind_eq_bind, Option.bind_eq_some_iff, Option.pure_def, Option.some.injEq] at h
      obtain ⟨k, -, e, read, rfl⟩ := h
      exact stationOf_inRange read
    | bank =>
      dsimp only at h
      split at h
      · obtain ⟨b, read, rfl⟩ := Option.map_eq_some_iff.mp h
        exact bankSettingsOf_inRange read
      · cases h
  · cases h

theorem writesOf_inRange {entries : List (Nat × Table × List Byte)} {ws : List EntryWrite}
    (h : writesOf entries = .ok ws) : ∀ w ∈ ws, w.InRange := by
  induction entries generalizing ws with
  | nil =>
    cases h
    exact fun _ member => absurd member List.not_mem_nil
  | cons x rest ih =>
    unfold writesOf at h
    split at h
    · cases h
    · next w read =>
      split at h
      · cases h
      · next ws' rest' =>
        cases h
        intro y member
        rcases List.mem_cons.mp member with rfl | later
        · exact entryWriteOf_inRange read
        · exact ih rest' y later

theorem put_forall {α : Type} {n : Nat} {Q : α → Prop} {v : Vector α n} {i : Fin n} {x : α} (h : ∀ j, Q (v.get j))
    (hx : Q x) : ∀ j, Q ((put v i x).get j) := by
  intro j
  rw [get_put]
  split
  · exact hx
  · exact h j

theorem Tables.InRange.write {t : Tables} (h : t.InRange) {w : EntryWrite} (range : w.InRange) :
    (t.write w).InRange := by
  cases w with
  | orig i e => exact { h with orig := put_forall h.orig range }
  | rule i e => exact { h with rule := put_forall h.rule range }
  | pcls i e => exact { h with pcls := put_forall h.pcls range }
  | stat i e => exact { h with stat := put_forall h.stat range }
  | bank e => exact { h with bank := range }

theorem Tables.InRange.writes {t : Tables} (h : t.InRange) {ws : List EntryWrite} (range : ∀ w ∈ ws, w.InRange) :
    (ws.foldl Tables.write t).InRange := by
  induction ws generalizing t with
  | nil => exact h
  | cons w ws ih =>
    exact ih (h.write (range w List.mem_cons_self)) fun x member => range x (List.mem_cons_of_mem _ member)

theorem Tables.InRange.merged {active shadow : Tables} (h : active.InRange) (k : shadow.InRange) (mask : BitVec 5) :
    (mergedTables mask active shadow).InRange where
  orig i := by unfold mergedTables; dsimp only; split <;> [exact k.orig i; exact h.orig i]
  rule i := by unfold mergedTables; dsimp only; split <;> [exact k.rule i; exact h.rule i]
  pcls i := by unfold mergedTables; dsimp only; split <;> [exact k.pcls i; exact h.pcls i]
  stat i := by unfold mergedTables; dsimp only; split <;> [exact k.stat i; exact h.stat i]
  bank := by unfold mergedTables; dsimp only; split <;> [exact k.bank; exact h.bank]

/-! ## The two copies -/

theorem TablesAgree.of_eq {s t : State} (h : TablesAgree s) (active : t.mu.active = s.mu.active)
    (shadow : t.mu.shadow = s.mu.shadow) : TablesAgree t := ⟨active ▸ h.active, shadow ▸ h.shadow⟩

theorem TablesAgree.of_core {s t : State} (h : TablesAgree s) (core : t.mu.core = s.mu.core) : TablesAgree t :=
  h.of_eq (ManagementUnit.active_of_core core) (ManagementUnit.shadow_of_core core)

theorem TablesAgree.settleIfSafe {s : State} (h : TablesAgree s) : TablesAgree s.settleIfSafe := by
  have outcome := s.settleIfSafe_outcome
  generalize s.settleIfSafe = t at outcome
  cases outcome with
  | waits => exact h
  | refused f => exact h.of_eq rfl rfl
  | taken mask =>
    have agree : TablesAgree (s.setActive (mergedTables mask s.mu.active s.mu.shadow)) :=
      ⟨h.active.merged h.shadow mask, h.shadow⟩
    exact agree.of_eq (by simp [State.takeCommit]) (by simp [State.takeCommit])

theorem Change.tablesAgree {s t : State} (h : TablesAgree s) (change : Change s t) : TablesAgree t := by
  cases change with
  | none => exact h
  | arrive r tag c b => exact h.of_core (State.arriveAt_inner _ b tag c).2.2.2
  | evaluation e => exact (h.of_core (s.completeEvaluation_inner e).2.2).settleIfSafe
  | choice c => exact h.of_core (s.completeChoice_inner c)
  | choiceSettles c => exact (h.of_core (s.completeChoice_inner c)).settleIfSafe
  | expiry i o t => exact h.of_core (by simp)
  | safePoint => exact h.settleIfSafe
  | _ => exact h.of_eq (by simp) (by simp)

theorem CommandEffect.tablesAgree {s t : State} (h : TablesAgree s) (effect : CommandEffect s t) : TablesAgree t := by
  cases effect with
  | changed t change =>
    refine TablesAgree.of_eq (s := t) ?_ (by simp) (by simp)
    cases change with
    | commit mask => exact TablesAgree.settleIfSafe (h.of_eq rfl rfl)
    | _ => exact h.of_eq (by simp) (by simp)
  | loaded entries ws writes => exact ⟨h.active, h.shadow.writes (writesOf_inRange writes)⟩
  | cleared => exact TablesAgree.settleIfSafe (h.of_eq rfl rfl)
  | _ => exact h.of_eq (by simp) (by simp)

/-- Every entry of the tables after device reset is within its ranges. -/
theorem Tables.InRange.default : Tables.default.InRange where
  orig i := by
    have entry : Tables.default.orig.get i = .default := get_replicate _ i
    rw [entry]
    exact ⟨by decide, by decide, by decide, nofun⟩
  rule i := by
    have entry : Tables.default.rule.get i = .default := get_replicate _ i
    rw [entry]
    exact ⟨fun _ => by decide, nofun, nofun, nofun⟩
  pcls i := by
    have entry : Tables.default.pcls.get i = .default := get_replicate _ i
    rw [entry]
    exact ⟨nofun, by decide, by decide, by decide, by decide, by decide⟩
  stat i := by
    have entry : Tables.default.stat.get i = .default := get_replicate _ i
    rw [entry]
    exact ⟨by decide, by decide⟩
  bank := ⟨by decide, by decide, by decide, nofun⟩

theorem Event.tablesAgree {s t : State} (h : TablesAgree s) (event : Event s t) : TablesAgree t := by
  cases event with
  | released straps => exact ⟨.default, .default⟩
  | received c =>
    exact h.of_eq (ManagementUnit.active_of_still (s.receive_inner c)) (ManagementUnit.shadow_of_still (s.receive_inner c))
  | notice n => exact h.of_core (s.admitNotice_inner n)
  | reply =>
    unfold State.admitReply
    split
    · split
      · exact h
      · exact h.of_eq rfl rfl
    · exact h
  | selected u p change => exact (change.tablesAgree h).of_eq (by simp) (by simp)
  | command f rest a queue effect =>
    have taken : TablesAgree (s.setCommands rest) := h.of_eq rfl rfl
    exact (effect.tablesAgree taken).of_eq rfl rfl
  | _ => exact h.of_eq (by simp) (by simp)

/-! ## Runs -/

/-- The run count of an evidence set is below the confirm count of its candidate rule, and 0 without one (R76). -/
structure Evidence.RunFits (rules : Vector GradingRule 96) (x : Evidence) : Prop where
  noCandidate : x.candidate = none → x.runCount = 0
  candidate   : ∀ k, x.candidate = some k → x.runCount < (rules.get k).confirmCount

theorem runsAgree_iff (s : State) : RunsAgree s ↔ s.evidenceAll (Evidence.RunFits s.mu.active.rule) :=
  ⟨fun h i m => ⟨h.noCandidate i m, h.candidate i m⟩,
    fun h => ⟨fun i m => (h i m).noCandidate, fun i m => (h i m).candidate⟩⟩

theorem Evidence.RunFits.cleared (rules : Vector GradingRule 96) : Evidence.cleared.RunFits rules :=
  ⟨fun _ => rfl, fun _ h => nomatch h⟩

theorem Evidence.RunFits.runCleared (rules : Vector GradingRule 96) (x : Evidence) : x.runCleared.RunFits rules :=
  ⟨fun _ => rfl, fun _ h => nomatch h⟩

theorem GradingRule.InRange.confirmCount_pos {r : GradingRule} (h : r.InRange) : 1 ≤ r.confirmCount := by
  unfold GradingRule.confirmCount
  cases count : r.confirm with
  | none => exact Nat.le_refl 1
  | some n => exact (h.confirm n count).1

theorem Evidence.RunFits.after {rules : Vector GradingRule 96} {x : Evidence} (h : x.RunFits rules)
    (range : ∀ i, (rules.get i).InRange) (found : SearchResult) (value : Nat) :
    (x.after rules found value).RunFits rules := by
  unfold Evidence.after
  split
  · next i =>
    have pos := (range i).confirmCount_pos
    unfold Evidence.matched
    split
    · refine ⟨(nomatch ·), fun k same => ?_⟩
      obtain rfl := Option.some.inj same
      exact pos
    · next more =>
      refine ⟨(nomatch ·), fun k same => ?_⟩
      obtain rfl := Option.some.inj same
      have more : x.runAfter i ≠ (rules.get i).confirmCount := by simpa [confirms] using more
      have bound : x.runAfter i ≤ (rules.get i).confirmCount := by
        unfold Evidence.runAfter
        split
        · next again => exact h.candidate i again
        · exact pos
      exact Nat.lt_of_le_of_ne bound more
  · exact ⟨fun _ => rfl, fun _ none => nomatch none⟩

theorem RunsAgree.settleIfSafe {s : State} (h : RunsAgree s) : RunsAgree s.settleIfSafe := by
  rw [runsAgree_iff] at h ⊢
  obtain ⟨u, kept, ⟨register, rules⟩ | register⟩ := s.settleIfSafe_register
  · rw [rules]
    exact (h.kept (.cleared _) kept).kept (.cleared _) (.of_eq register)
  · have all : u.clearRuns.evidenceAll (Evidence.RunFits s.settleIfSafe.mu.active.rule) := by
      intro i m
      rw [State.clearRuns_record]
      change Evidence.RunFits _ (((u.record i).evidence.mapAll Evidence.runCleared).get m)
      rw [EvidenceSets.get_mapAll]
      exact .runCleared _ _
    exact all.kept (.cleared _) (.of_eq register)

theorem Event.runsAgree {s t : State} (tables : TablesAgree s) (h : RunsAgree s) (event : Event s t) :
    RunsAgree t := by
  refine Event.register_keeps (P := RunsAgree) (fun u v runs kept active => ?_) (fun u => RunsAgree.settleIfSafe)
    (fun straps => ?_) (fun e inProgress => ?_) h event
  · rw [runsAgree_iff, active]
    exact ((runsAgree_iff u).mp runs).kept (.cleared _) kept
  · rw [runsAgree_iff]
    intro i m
    rw [show State.record { State.afterReset straps with pending := s.pending } i = .cleared 0 from get_replicate _ i]
    change Evidence.RunFits _ (EvidenceSets.cleared.get m)
    rw [EvidenceSets.get_cleared]
    exact .cleared _
  · rw [runsAgree_iff] at h ⊢
    rw [ManagementUnit.active_of_core (s.completeEvaluation_inner e).2.2]
    obtain ⟨u, completed, kept⟩ := s.completeEvaluation_evidence e
    refine State.evidenceAll.kept (.cleared _) ?_ kept
    rcases completed with rfl | rfl
    · exact h
    · intro i m
      rw [State.record_setRecord]
      split
      · change Evidence.RunFits _ (((s.record e.module.index).evidence.set e.metric _).get m)
        rw [EvidenceSets.get_set]
        split
        · exact (h _ _).after tables.active.rule _ _
        · exact h _ _
      · exact h i m

/-! ## The search -/

theorem SearchAgrees.of_none {s : State} (h : s.ge.evaluation = none) : SearchAgrees s := by
  intro e r inProgress
  rw [h] at inProgress
  cases inProgress

theorem SearchAgrees.of_eq {s t : State} (h : SearchAgrees s) (evaluation : t.ge.evaluation = s.ge.evaluation)
    (active : t.mu.active = s.mu.active) : SearchAgrees t := by
  intro e r inProgress ended
  rw [active]
  exact h e r (evaluation ▸ inProgress) ended

/-- Tables are committed at the safe point alone, where no evaluation is in progress (R86, R192). -/
theorem SearchAgrees.settleIfSafe {s : State} (h : SearchAgrees s) : SearchAgrees s.settleIfSafe := by
  have evaluation := s.settleIfSafe_inner.2.1
  have outcome := s.settleIfSafe_outcome
  generalize s.settleIfSafe = t at outcome evaluation
  cases outcome with
  | waits => exact h
  | refused f => exact h.of_eq rfl rfl
  | taken mask _ none => exact .of_none (evaluation.trans none)

/-- A MEASURE begins an evaluation whose search has not ended, or leaves the one in progress. -/
theorem SearchAgrees.begin {s : State} (m : ModuleRef) (place : Place) (k : Metric) (v : Nat) (w : Int)
    (x : Option Nat) : SearchAgrees (s.beginEvaluation m place k v w x) := by
  intro e r inProgress ended
  obtain rfl := Option.some.inj inProgress
  cases ended

theorem SearchAgrees.measureBay {s : State} (h : SearchAgrees s) (b : Bay) (k : Metric) (v : Nat) (w : Int) :
    SearchAgrees (s.measureBay b k v w) := by
  unfold State.measureBay
  split
  · exact h
  · split
    · split
      · exact h.of_eq (by simp) (by simp)
      · exact h
    · split
      · exact .begin _ _ _ _ _ _
      · exact h

theorem SearchAgrees.measureSlot {s : State} (h : SearchAgrees s) (p : SlotId) (k : Metric) (v : Nat) (w : Int) :
    SearchAgrees (s.measureSlot p k v w) := by
  unfold State.measureSlot
  split
  · exact .begin _ _ _ _ _ _
  all_goals exact h

theorem SearchAgrees.tick {s : State} (h : SearchAgrees s) : SearchAgrees s.tick := by
  intro e r inProgress ended
  obtain ⟨x, old, rfl⟩ := Option.map_eq_some_iff.mp ((s.tick_frame.2.2.2.2.2.2.2.2.2.1).symm.trans inProgress)
  obtain rfl := Option.some.inj ended
  change s.searchResult x = search s.mu.active.rule x
  unfold State.searchResult
  split
  · next found => exact h x _ old found
  · rfl

theorem Change.searchAgrees {s t : State} (h : SearchAgrees s) (change : Change s t) : SearchAgrees t := by
  cases change with
  | none => exact h
  | arrive r tag c b =>
    have inner := State.arriveAt_inner s.takeRecord b tag c
    exact h.of_eq inner.2.1 (ManagementUnit.active_of_core inner.2.2.2)
  | evaluation e =>
    refine SearchAgrees.settleIfSafe (.of_none ?_)
    unfold State.completeEvaluation
    split <;> rfl
  | choice c => exact h.of_eq (by simp) (ManagementUnit.active_of_core (s.completeChoice_inner c))
  | choiceSettles c =>
    exact SearchAgrees.settleIfSafe (h.of_eq (by simp) (ManagementUnit.active_of_core (s.completeChoice_inner c)))
  | expiry i o t => exact h.of_eq (by simp) (ManagementUnit.active_of_core (by simp))
  | safePoint => exact h.settleIfSafe
  | _ => exact h.of_eq (by simp) (by simp)

theorem CommandEffect.searchAgrees {s t : State} (h : SearchAgrees s) (effect : CommandEffect s t) :
    SearchAgrees t := by
  cases effect with
  | changed t change =>
    refine SearchAgrees.of_eq (s := t) ?_ (by simp) (by simp)
    cases change with
    | commit mask => exact SearchAgrees.settleIfSafe (h.of_eq rfl rfl)
    | _ => exact h.of_eq (by simp) (by simp)
  | cleared => exact SearchAgrees.settleIfSafe (.of_none rfl)
  | _ => exact h.of_eq (by simp) (by simp)

theorem Event.searchAgrees {s t : State} (h : SearchAgrees s) (event : Event s t) : SearchAgrees t := by
  cases event with
  | released straps => exact .of_none rfl
  | received c => exact h.of_eq (by simp) (ManagementUnit.active_of_still (s.receive_inner c))
  | notice n => exact h.of_eq (by simp) (ManagementUnit.active_of_core (s.admitNotice_inner n))
  | reply =>
    unfold State.admitReply
    split
    · split
      · exact h
      · exact h.of_eq rfl rfl
    · exact h
  | measuredBay r k v w b => exact SearchAgrees.measureBay (s := s.takeRecord) h b k v w
  | measuredSlot r k v w p => exact SearchAgrees.measureSlot (s := s.takeRecord) h p k v w
  | selected u p change => exact (change.searchAgrees h).of_eq (by simp) (by simp)
  | ticked => exact h.tick
  | command f rest a queue effect =>
    have taken : SearchAgrees (s.setCommands rest) := h
    exact (effect.searchAgrees taken).of_eq rfl rfl
  | _ => exact h.of_eq (by simp) (by simp)

/-- Settles O57, by the events of a step: what enters a shadow table was read within its ranges, a completion ends a run
at its confirm count, and tables change only where no evaluation is in progress. -/
theorem everyStepKeepsTablesAndRuns : Obligations.EveryStepKeepsTablesAndRuns := by
  unfold Obligations.EveryStepKeepsTablesAndRuns
  refine ⟨fun s t => step_keeps (fun s l h => h.of_eq rfl rfl) fun _ _ => Event.tablesAgree, fun s t tables runs e => ?_,
    fun s t => step_keeps (fun s l h => h.of_eq rfl rfl) fun _ _ => Event.searchAgrees⟩
  have both : TablesAgree t ∧ RunsAgree t :=
    step_keeps (P := fun s => TablesAgree s ∧ RunsAgree s)
      (fun s l ⟨tables, runs⟩ => ⟨tables.of_eq rfl rfl, runs.noCandidate, runs.candidate⟩)
      (fun u v ⟨tables, runs⟩ event => ⟨event.tablesAgree tables, event.runsAgree tables runs⟩) ⟨tables, runs⟩ e
  exact both.2

end Sys2Proof.Machine
end

section
/-! SUPPORT. What the operations leave of the requests and of the choice in progress: the slot and kind of each request,
and the order record and slot that a choice holds. -/

namespace Sys2Proof.Machine

section
set_option linter.unusedSimpArgs false
set_option linter.unnecessarySeqFocus false

/-- Slot and kind of each request, in the order of the queue (R134). -/
def PairingEngine.keys (e : PairingEngine) : List (SlotId × RequestKind) := e.requests.map fun q => (q.slot, q.kind)

/-- The Order Table record and the slot that the choice in progress holds (R145). -/
def PairingEngine.held (e : PairingEngine) : Option (OrderIndex × SlotId) := e.choice.map fun c => (c.order, c.slot)

theorem mem_keys {e : PairingEngine} {k : SlotId × RequestKind} :
    k ∈ e.keys ↔ ∃ q ∈ e.requests, (q.slot, q.kind) = k := List.mem_map

@[simp] theorem PairingEngine.keys_choice (e : PairingEngine) (c : Option Choice) :
    PairingEngine.keys { e with choice := c } = e.keys := rfl

@[simp] theorem PairingEngine.keys_pool (e : PairingEngine) (l : List ModuleIndex) :
    PairingEngine.keys { e with pool := l } = e.keys := rfl

@[simp] theorem PairingEngine.keys_poolWait (e : PairingEngine) (l : List ModuleIndex) :
    PairingEngine.keys { e with poolWait := l } = e.keys := rfl

@[simp] theorem PairingEngine.held_requests (e : PairingEngine) (l : List Request) :
    PairingEngine.held { e with requests := l } = e.held := rfl

@[simp] theorem PairingEngine.held_pool (e : PairingEngine) (l : List ModuleIndex) :
    PairingEngine.held { e with pool := l } = e.held := rfl

@[simp] theorem PairingEngine.held_poolWait (e : PairingEngine) (l : List ModuleIndex) :
    PairingEngine.held { e with poolWait := l } = e.held := rfl

/-- A change of requests that keeps slot and kind of each keeps the keys. -/
theorem PairingEngine.keys_map (e : PairingEngine) {f : Request → Request}
    (h : ∀ q, (f q).slot = q.slot ∧ (f q).kind = q.kind) :
    PairingEngine.keys { e with requests := e.requests.map f } = e.keys := by
  simp only [PairingEngine.keys, List.map_map]
  exact List.map_congr_left fun q _ => by simp [h q]

/-- A change of the choice that keeps its order record and slot keeps what it holds. -/
theorem PairingEngine.held_map (e : PairingEngine) {f : Choice → Choice}
    (h : ∀ c, (f c).order = c.order ∧ (f c).slot = c.slot) :
    PairingEngine.held { e with choice := e.choice.map f } = e.held := by
  simp only [PairingEngine.held, Option.map_map]
  cases e.choice with
  | none => rfl
  | some c => simp [h c]

theorem Request.woken_key (q : Request) : q.woken.slot = q.slot ∧ q.woken.kind = q.kind := by
  unfold Request.woken
  split <;> exact ⟨rfl, rfl⟩

theorem Choice.marked_held (c : Choice) : c.marked.order = c.order ∧ c.marked.slot = c.slot := by
  unfold Choice.marked
  split <;> exact ⟨rfl, rfl⟩

@[simp] theorem State.wakeAll_keys (s : State) : s.wakeAll.pe.keys = s.pe.keys ∧ s.wakeAll.pe.held = s.pe.held :=
  ⟨s.pe.keys_map Request.woken_key, rfl⟩

@[simp] theorem State.wakeString_keys (s : State) (i : Fin 8) :
    (s.wakeString i).pe.keys = s.pe.keys ∧ (s.wakeString i).pe.held = s.pe.held := by
  refine ⟨s.pe.keys_map fun q => ?_, rfl⟩
  split
  · exact q.woken_key
  · exact ⟨rfl, rfl⟩

/-- The request of one slot changed but for its slot and kind. -/
theorem State.updateRequest_keys (s : State) (p : SlotId) {f : Request → Request}
    (h : ∀ q, (f q).slot = q.slot ∧ (f q).kind = q.kind) :
    (s.updateRequest p f).pe.keys = s.pe.keys ∧ (s.updateRequest p f).pe.held = s.pe.held := by
  refine ⟨s.pe.keys_map fun q => ?_, rfl⟩
  split
  · exact h q
  · exact ⟨rfl, rfl⟩

@[simp] theorem State.setSelectedStatus_keys (s : State) (c : Choice) (st : RequestStatus) :
    (s.setSelectedStatus c st).pe.keys = s.pe.keys ∧ (s.setSelectedStatus c st).pe.held = s.pe.held := by
  refine ⟨s.pe.keys_map fun q => ?_, rfl⟩
  split <;> exact ⟨rfl, rfl⟩

@[simp] theorem State.rereadPriorities_keys (s : State) :
    s.rereadPriorities.pe.keys = s.pe.keys ∧ s.rereadPriorities.pe.held = s.pe.held :=
  ⟨s.pe.keys_map fun _ => ⟨rfl, rfl⟩, rfl⟩

@[simp] theorem State.withdraw_keys (s : State) (p : SlotId) :
    (s.withdraw p).pe.keys = s.pe.keys.filter (fun k => decide (k.1 ≠ p)) ∧ (s.withdraw p).pe.held = s.pe.held := by
  refine ⟨?_, rfl⟩
  simp only [State.withdraw, State.setRequests, PairingEngine.keys, List.filter_map]
  rfl

@[simp] theorem State.markPoolEntry_keys (s : State) :
    s.markPoolEntry.pe.keys = s.pe.keys ∧ s.markPoolEntry.pe.held = s.pe.held :=
  ⟨rfl, s.pe.held_map Choice.marked_held⟩

@[simp] theorem State.markReferences_keys (s : State) (i : Fin 8) :
    (s.markReferences i).pe.keys = s.pe.keys ∧ (s.markReferences i).pe.held = s.pe.held := by
  refine ⟨rfl, s.pe.held_map fun c => ?_⟩
  split
  · exact c.marked_held
  · exact ⟨rfl, rfl⟩

@[simp] theorem State.setPool_keys (s : State) (l : List ModuleIndex) :
    (s.setPool l).pe.keys = s.pe.keys ∧ (s.setPool l).pe.held = s.pe.held := ⟨rfl, rfl⟩

@[simp] theorem State.setPoolWait_keys (s : State) (l : List ModuleIndex) :
    (s.setPoolWait l).pe.keys = s.pe.keys ∧ (s.setPoolWait l).pe.held = s.pe.held := ⟨rfl, rfl⟩

@[simp] theorem State.enterPool_keys (s : State) (i : ModuleIndex) :
    (s.enterPool i).pe.keys = s.pe.keys ∧ (s.enterPool i).pe.held = s.pe.held := by
  simp [State.enterPool]

@[simp] theorem State.enterPoolWait_keys (s : State) (i : ModuleIndex) :
    (s.enterPoolWait i).pe.keys = s.pe.keys ∧ (s.enterPoolWait i).pe.held = s.pe.held := ⟨rfl, rfl⟩

@[simp] theorem State.enterPoolOrWait_keys (s : State) (i : ModuleIndex) :
    (s.enterPoolOrWait i).pe.keys = s.pe.keys ∧ (s.enterPoolOrWait i).pe.held = s.pe.held := by
  unfold State.enterPoolOrWait
  split <;> simp

@[simp] theorem State.promote_keys (s : State) : s.promote.pe.keys = s.pe.keys ∧ s.promote.pe.held = s.pe.held := by
  unfold State.promote
  split <;> simp

@[simp] theorem State.dropFromPool_keys (s : State) (i : ModuleIndex) :
    (s.dropFromPool i).pe.keys = s.pe.keys ∧ (s.dropFromPool i).pe.held = s.pe.held := ⟨rfl, rfl⟩

@[simp] theorem State.leavePool_keys (s : State) (i : ModuleIndex) :
    (s.leavePool i).pe.keys = s.pe.keys ∧ (s.leavePool i).pe.held = s.pe.held := by
  simp [State.leavePool]

@[simp] theorem State.leavePoolWait_keys (s : State) (i : ModuleIndex) :
    (s.leavePoolWait i).pe.keys = s.pe.keys ∧ (s.leavePoolWait i).pe.held = s.pe.held := ⟨rfl, rfl⟩

@[simp] theorem State.recompute_keys (s : State) (i : Fin 8) :
    (s.recompute i).pe.keys = s.pe.keys ∧ (s.recompute i).pe.held = s.pe.held := by
  unfold State.recompute
  dsimp only
  split <;> simp

@[simp] theorem State.goOn_keys (s : State) (i : ModuleIndex) :
    (s.goOn i).pe.keys = s.pe.keys ∧ (s.goOn i).pe.held = s.pe.held := by
  unfold State.goOn
  split <;> simp

@[simp] theorem State.departGraded_keys (s : State) (i : ModuleIndex) :
    (s.departGraded i).pe.keys = s.pe.keys ∧ (s.departGraded i).pe.held = s.pe.held := by
  unfold State.departGraded
  dsimp only
  split <;> simp

@[simp] theorem State.departModule_keys (s : State) (m : ModuleRef) :
    (s.departModule m).pe.keys = s.pe.keys ∧ (s.departModule m).pe.held = s.pe.held := by
  unfold State.departModule
  (repeat' split) <;> simp

@[simp] theorem State.departFrom_keys (s : State) (b : Bay) (m : ModuleRef) :
    (s.departFrom b m).pe.keys = s.pe.keys ∧ (s.departFrom b m).pe.held = s.pe.held := by
  simp [State.departFrom]

@[simp] theorem State.departOccupant_keys (s : State) (b : Bay) :
    (s.departOccupant b).pe.keys = s.pe.keys ∧ (s.departOccupant b).pe.held = s.pe.held := by
  unfold State.departOccupant
  split <;> simp

@[simp] theorem State.releaseForRetest_keys (s : State) (i : ModuleIndex) :
    (s.releaseForRetest i).pe.keys = s.pe.keys ∧ (s.releaseForRetest i).pe.held = s.pe.held := by
  unfold State.releaseForRetest
  (repeat' split) <;> simp

@[simp] theorem State.arriveTag_keys (s : State) (b : Bay) (tag : Tag) (c : Fin 16) :
    (s.arriveTag b tag c).pe.keys = s.pe.keys ∧ (s.arriveTag b tag c).pe.held = s.pe.held := by
  unfold State.arriveTag
  (repeat' split) <;> simp

@[simp] theorem State.arriveAt_keys (s : State) (b : Bay) (tag : Tag) (c : Fin 16) :
    (s.arriveAt b tag c).pe.keys = s.pe.keys ∧ (s.arriveAt b tag c).pe.held = s.pe.held := by
  simp [State.arriveAt]

@[simp] theorem State.departAt_keys (s : State) (b : Bay) (tag : Option Tag) :
    (s.departAt b tag).pe.keys = s.pe.keys ∧ (s.departAt b tag).pe.held = s.pe.held := by
  unfold State.departAt
  (repeat' split) <;> simp

@[simp] theorem State.carryStations_keys (s : State) (old new : Vector Station 32) :
    (s.carryStations old new).pe.keys = s.pe.keys ∧ (s.carryStations old new).pe.held = s.pe.held := by
  have departed := foldl_keeps (fun u : State => (u.pe.keys, u.pe.held)) State.departModule (fun _ _ => by simp)
  have moved := foldl_keeps (fun u : State => (u.pe.keys, u.pe.held)) State.moveOccupant (fun _ _ => by simp)
  simp only [Prod.mk.injEq] at departed moved
  simp [State.carryStations, departed, moved]

@[simp] theorem State.tellStringMap_keys (s : State) (e : Evaluation) (x : Option Nat) (l : Location) :
    (s.tellStringMap e x l).pe.keys = s.pe.keys ∧ (s.tellStringMap e x l).pe.held = s.pe.held := by
  unfold State.tellStringMap
  (repeat' split) <;> simp

@[simp] theorem State.assign_keys (s : State) (m : ModuleRef) (o : OrderIndex) :
    (s.assign m o).pe.keys = s.pe.keys ∧ (s.assign m o).pe.held = s.pe.held := by
  unfold State.assign
  split <;> simp

@[simp] theorem State.assignIncoming_keys (s : State) (w : OrderWork) (o : OrderIndex) :
    (s.assignIncoming w o).pe.keys = s.pe.keys ∧ (s.assignIncoming w o).pe.held = s.pe.held := by
  unfold State.assignIncoming
  split <;> simp

@[simp] theorem State.afterChoice_keys (s : State) (c : Choice) (w : OrderWork) :
    (s.afterChoice c w).pe.keys = s.pe.keys ∧ (s.afterChoice c w).pe.held = s.pe.held := by
  unfold State.afterChoice
  dsimp only
  (repeat' split) <;> simp

@[simp] theorem State.returnToPool_keys (s : State) (m : Option ModuleRef) :
    (s.returnToPool m).pe.keys = s.pe.keys ∧ (s.returnToPool m).pe.held = s.pe.held := by
  unfold State.returnToPool
  (repeat' split) <;> simp

@[simp] theorem State.admitVerdict_keys (s : State) (i : ModuleIndex) :
    (s.admitVerdict i).pe.keys = s.pe.keys ∧ (s.admitVerdict i).pe.held = s.pe.held := by
  unfold State.admitVerdict
  dsimp only
  (repeat' split) <;> simp

/-! ## What the choice holds where requests are raised -/

@[simp] theorem State.raiseFitting_held (s : State) (p : SlotId) (k : RequestKind) (st : RequestStatus) :
    (s.raiseFitting p k st).pe.held = s.pe.held := by
  unfold State.raiseFitting
  split
  · rfl
  · split <;> rfl

@[simp] theorem State.raiseRequest_held (s : State) (p : SlotId) (k : RequestKind) (st : RequestStatus) :
    (s.raiseRequest p k st).pe.held = s.pe.held := by
  unfold State.raiseRequest
  split <;> simp

@[simp] theorem State.regrade_held (s : State) (i : ModuleIndex) (p : SlotId) :
    (s.regrade i p).pe.held = s.pe.held := by
  have worse : ∀ c, (s.regradeWorse i p c).pe.held = s.pe.held := by
    intro c
    unfold State.regradeWorse
    dsimp only
    (repeat' split) <;> simp
  have recovered : (s.regradeRecovered i p).pe.held = s.pe.held := by
    unfold State.regradeRecovered
    dsimp only
    (repeat' split) <;> simp
  have reject : (s.regradeReject i p).pe.held = s.pe.held := by simp [State.regradeReject]
  unfold State.regrade
  dsimp only
  (repeat' split) <;> simp [worse, recovered, reject]

@[simp] theorem State.afterResolution_held (s : State) (i : ModuleIndex) :
    (s.afterResolution i).pe.held = s.pe.held := by
  unfold State.afterResolution
  (repeat' split) <;> simp

@[simp] theorem State.resolve_held (s : State) (i : ModuleIndex) : (s.resolve i).pe.held = s.pe.held := by
  simp [State.resolve]

@[simp] theorem State.completeEvaluation_held (s : State) (e : Evaluation) :
    (s.completeEvaluation e).pe.held = s.pe.held := by
  unfold State.completeEvaluation State.applyCompletion
  dsimp only
  (repeat' split) <;> simp

@[simp] theorem State.endReported_held (s : State) (i : OrderIndex) (o : Order) (done : Bool) :
    (s.endReported i o done).pe.held = s.pe.held := by
  cases done with
  | true =>
    change (s.endDone i o).pe.held = _
    unfold State.endDone
    dsimp only
    split <;> simp
  | false =>
    change (s.endRefused i o).pe.held = _
    unfold State.endRefused
    dsimp only
    split <;> simp

@[simp] theorem State.applyGeometry_held (s : State) (old new : BankSettings) :
    (s.applyGeometry old new).pe.held = s.pe.held := rfl

@[simp] theorem State.settleIfSafe_held (s : State) : s.settleIfSafe.pe.held = s.pe.held := by
  have outcome := s.settleIfSafe_outcome
  generalize s.settleIfSafe = t at outcome
  cases outcome with
  | waits => rfl
  | refused f => rfl
  | taken mask =>
    refine State.commitEffects_keeps (P := fun t => t.pe.held = s.pe.held) rfl (fun _ => by simp) ?_ ?_ ?_ ?_
    · exact fun t _ _ _ h _ => by simpa using h
    · exact fun t h => by simpa using h
    · exact fun t h => by simpa using h
    · exact fun t h => by simpa using h

@[simp] theorem State.emptyOccupied_held (s : State) (p : SlotId) (m : ModuleRef) :
    (s.emptyOccupied p m).pe.held = s.pe.held := by
  simp [State.emptyOccupied]

@[simp] theorem State.occupy_held (s : State) (p : SlotId) (i : ModuleIndex) :
    (s.occupy p i).pe.held = s.pe.held := by
  simp [State.occupy]

@[simp] theorem State.takeFor_held (s : State) (p : SlotId) (i : ModuleIndex) :
    (s.takeFor p i).pe.held = s.pe.held := by
  unfold State.takeFor
  dsimp only
  split <;> simp

@[simp] theorem State.adoptFor_held (s : State) (p : SlotId) (i : ModuleIndex) (tag : Tag) :
    (s.adoptFor p i tag).pe.held = s.pe.held := by
  simp [State.adoptFor]

@[simp] theorem State.retireAt_held (s : State) (p : SlotId) (m : ModuleRef) :
    (s.retireAt p m).pe.held = s.pe.held := by
  simp [State.retireAt]

theorem Choice.scanOne_held (c : Choice) : c.scanOne.order = c.order ∧ c.scanOne.slot = c.slot := by
  unfold Choice.scanOne
  split <;> exact ⟨rfl, rfl⟩

@[simp] theorem State.tick_held (s : State) : s.tick.pe.held = s.pe.held := s.pe.held_map Choice.scanOne_held

end

end Sys2Proof.Machine
end

section
/-! SUPPORT. The orders (R145, R168, R171, R172): one of a string on the ring, the DEFERRED ones behind it, the creation
order exact, and the record of a choice in progress reserved. -/

namespace Sys2Proof.Machine

/-- What `OrdersAgree` says of the Order Table and the creation order alone. -/
structure State.TableOrdered (s : State) : Prop where
  one      : ∀ i j k, (s.order i).onRing = true → (s.order j).onRing = true →
    (s.order i).string? = some k → (s.order j).string? = some k → i = j
  behind   : ∀ i k, (s.order i).string? = some k → ∃ j, (s.order j).onRing = true ∧ (s.order j).string? = some k
  creation : ∀ i, i ∈ s.ot.creation ↔ (s.order i).order? ≠ none
  once     : s.ot.creation.Nodup

/-- What `OrdersAgree` says of the choice in progress (R145). -/
def State.ReservedHeld (s : State) : Prop := ∀ o p, s.pe.held = some (o, p) → s.order o = .reservedForChoice p

theorem ordersAgree_iff (s : State) : OrdersAgree s ↔ s.TableOrdered ∧ s.ReservedHeld where
  mp h := by
    refine ⟨⟨h.one, h.behind, h.creation, h.once⟩, fun o p held => ?_⟩
    obtain ⟨c, choice, same⟩ := Option.map_eq_some_iff.mp held
    obtain ⟨rfl, rfl⟩ := Prod.mk.inj same
    exact h.reserved c choice
  mpr h := by
    obtain ⟨⟨one, behind, creation, once⟩, reserved⟩ := h
    exact ⟨one, behind, creation, once, fun c choice => reserved c.order c.slot (by simp [PairingEngine.held, choice])⟩

namespace State.TableOrdered

theorem of_eq {s t : State} (h : s.TableOrdered) (ot : t.ot = s.ot) : t.TableOrdered := by
  obtain ⟨one, behind, creation, once⟩ := h
  have order : ∀ i, t.order i = s.order i := fun i => by rw [State.order, ot, ← State.order]
  exact ⟨by simpa only [order] using one, by simpa only [order] using behind, by simpa only [order, ot] using creation,
    by rwa [ot]⟩

theorem onRing_order {s : State} {i : OrderIndex} (h : (s.order i).onRing = true) : ∃ o, s.order i = .order o := by
  cases record : s.order i with
  | order o => exact ⟨o, rfl⟩
  | free => rw [record] at h; cases h
  | reservedForChoice p => rw [record] at h; cases h

/-- A record replaced by one alike in being an order, on the ring, of a string. -/
theorem setAlike {s : State} (h : s.TableOrdered) {i : OrderIndex} {r : OrderRecord}
    (order : r.order?.isSome = (s.order i).order?.isSome) (onRing : r.onRing = (s.order i).onRing)
    (string : r.string? = (s.order i).string?) : (s.setOrder i r).TableOrdered := by
  have alike : ∀ {β : Type} (f : OrderRecord → β), f r = f (s.order i) → ∀ j, f ((s.setOrder i r).order j) = f (s.order j) := by
    intro β f same j
    rw [State.order_setOrder]
    split
    · next h => exact h ▸ same
    · rfl
  have onRing := alike OrderRecord.onRing onRing
  have string := alike OrderRecord.string? string
  refine ⟨?_, ?_, fun j => ?_, h.once⟩
  · simpa only [onRing, string] using h.one
  · simpa only [onRing, string] using h.behind
  · rw [← Option.isSome_iff_ne_none, alike (fun r => r.order?.isSome) order j, Option.isSome_iff_ne_none]
    exact h.creation j

theorem onRing_of_not_order {r : OrderRecord} (h : r.order? = none) : r.onRing = false ∧ r.string? = none := by
  cases r with
  | order o => cases h
  | free => exact ⟨rfl, rfl⟩
  | reservedForChoice p => exact ⟨rfl, rfl⟩

/-- A record that is no order replaced by another that is none changes no order. -/
theorem setOther {s : State} (h : s.TableOrdered) {i : OrderIndex} {r : OrderRecord} (before : (s.order i).order? = none)
    (after : r.order? = none) : (s.setOrder i r).TableOrdered := by
  obtain ⟨ring, string⟩ := onRing_of_not_order before
  obtain ⟨ring', string'⟩ := onRing_of_not_order after
  exact h.setAlike (by rw [before, after]) (ring'.trans ring.symm) (string'.trans string.symm)

/-- The record reserved for a choice, which is no order, becomes FREE (R160, R163). -/
theorem freeReserved {s : State} (h : s.TableOrdered) {i : OrderIndex} (before : (s.order i).order? = none) :
    (s.freeOrderRecord i).TableOrdered := by
  have free := h.setOther before (r := .free) rfl
  have absent : i ∉ s.ot.creation := fun member => (h.creation i).mp member before
  have creation : s.ot.creation.erase i = s.ot.creation := List.erase_of_not_mem absent
  refine ⟨free.one, free.behind, fun j => ?_, ?_⟩
  · change j ∈ s.ot.creation.erase i ↔ _
    rw [creation]
    exact free.creation j
  · change (s.ot.creation.erase i).Nodup
    rw [creation]
    exact h.once

/-- A string is busy when one of its orders is on the ring (R171). -/
theorem stringBusy_iff (s : State) (k : Fin 8) :
    s.stringBusy k = true ↔ ∃ j, (s.order j).onRing = true ∧ (s.order j).string? = some k := by
  have busies : ∀ r : OrderRecord, r.busies k = true ↔ r.onRing = true ∧ r.string? = some k := by
    intro r
    cases r <;> simp [OrderRecord.busies, OrderRecord.onRing, OrderRecord.string?, OrderRecord.order?]
  simp only [State.stringBusy, List.any_eq_true, busies, State.order]
  constructor
  · rintro ⟨r, member, busy⟩
    obtain ⟨j, bound, rfl⟩ := List.mem_iff_getElem.mp member
    exact ⟨⟨j, by simpa using bound⟩, by simpa [Vector.get] using busy⟩
  · rintro ⟨j, busy⟩
    exact ⟨_, by simp [Vector.get], busy⟩

/-- The order made in a record that was none: DEFERRED behind the one of its string on the ring, else ISSUING (R162,
R168, R171). -/
theorem createOrder {s : State} (h : s.TableOrdered) {i : OrderIndex} (before : (s.order i).order? = none) (p : SlotId)
    (w : OrderWork) : (s.createOrder i p w).TableOrdered := by
  obtain ⟨notRing, noString⟩ := onRing_of_not_order before
  have absent : i ∉ s.ot.creation := fun member => (h.creation i).mp member before
  obtain ⟨o, made, stage, slot⟩ : ∃ o : Order, (∀ j, (s.createOrder i p w).order j = if i = j then .order o else s.order j) ∧
      o.stage = (if s.stringBusy p.string then .deferred else .issuing) ∧ o.slot = p :=
    ⟨_, fun j => State.order_setOrder _ _ _ _, rfl, rfl⟩
  have other : ∀ j, (s.order j).onRing = true ∨ (∃ k, (s.order j).string? = some k) → i ≠ j := by
    rintro j (ring | ⟨k, string⟩) rfl
    · rw [notRing] at ring; cases ring
    · rw [noString] at string; cases string
  have string : (OrderRecord.order o).string? = some p.string := by simp [OrderRecord.string?, OrderRecord.order?, slot]
  have busyOf : ∀ j, (s.order j).onRing = true → (s.order j).string? = some p.string → (OrderRecord.order o).onRing = false := by
    intro j ring same
    have busy : s.stringBusy p.string = true := (stringBusy_iff s _).mpr ⟨j, ring, same⟩
    simp [OrderRecord.onRing, Order.onRing, stage, busy]
  refine ⟨fun j l k ringj ringl stringj stringl => ?_, fun j k stringj => ?_, fun j => ?_, ?_⟩
  · rw [made] at ringj ringl stringj stringl
    split at ringj <;> split at ringl
    · next hj hl => exact hj.symm.trans hl
    · next hj hl =>
      rw [if_pos hj, string] at stringj
      rw [if_neg hl, ← stringj] at stringl
      rw [busyOf l ringl stringl] at ringj
      cases ringj
    · next hj hl =>
      rw [if_pos hl, string] at stringl
      rw [if_neg hj, ← stringl] at stringj
      rw [busyOf j ringj stringj] at ringl
      cases ringl
    · next hj hl =>
      rw [if_neg hj] at stringj
      rw [if_neg hl] at stringl
      exact h.one j l k ringj ringl stringj stringl
  · have kept : ∀ l, (s.order l).onRing = true ∧ (s.order l).string? = some k →
        ∃ l, ((s.createOrder i p w).order l).onRing = true ∧ ((s.createOrder i p w).order l).string? = some k := by
      rintro l ⟨ring, same⟩
      exact ⟨l, by rw [made, if_neg (other l (.inl ring))]; exact ⟨ring, same⟩⟩
    rw [made] at stringj
    split at stringj
    · rw [string] at stringj
      obtain rfl := Option.some.inj stringj
      by_cases busy : s.stringBusy p.string = true
      · obtain ⟨l, onRing⟩ := (stringBusy_iff s _).mp busy
        exact kept l onRing
      · exact ⟨i, by rw [made, if_pos rfl]; exact ⟨by simp [OrderRecord.onRing, Order.onRing, stage, busy], string⟩⟩
    · obtain ⟨l, onRing⟩ := h.behind j k stringj
      exact kept l onRing
  · change j ∈ s.ot.creation ++ [i] ↔ _
    rw [made, List.mem_append, h.creation j, List.mem_singleton]
    split
    · next same => simp [OrderRecord.order?, same.symm]
    · next differs => simp [Ne.symm differs]
  · exact List.nodup_append.mpr ⟨h.once, by simp, fun a member b single => by
      obtain rfl := List.mem_singleton.mp single
      exact fun same => absent (same ▸ member)⟩

/-- The oldest DEFERRED order of a string is one of them (R172). -/
theorem oldestDeferred_some {s : State} {k : Fin 8} {j : OrderIndex} {o : Order}
    (h : s.oldestDeferred k = some (j, o)) : s.order j = .order o ∧ o.stage = .deferred ∧ o.slot.string = k := by
  have found := List.find?_some h
  have member := List.mem_of_find?_eq_some h
  obtain ⟨l, -, listed⟩ := List.mem_filterMap.mp member
  obtain ⟨x, order, same⟩ := Option.map_eq_some_iff.mp listed
  obtain ⟨rfl, rfl⟩ := Prod.mk.inj same
  simp only [Bool.and_eq_true, decide_eq_true_eq] at found
  exact ⟨OrderRecord.order?_eq_some.mp order, found⟩

/-- With no oldest DEFERRED order of a string, none of its orders in the creation order is DEFERRED. -/
theorem oldestDeferred_none {s : State} {k : Fin 8} (h : s.oldestDeferred k = none) {j : OrderIndex} {o : Order}
    (listed : j ∈ s.ot.creation) (order : s.order j = .order o) (string : o.slot.string = k) : o.stage ≠ .deferred := by
  intro deferred
  have none := List.find?_eq_none.mp h (j, o)
    (List.mem_filterMap.mpr ⟨j, listed, by simp [order, OrderRecord.order?]⟩)
  simp [deferred, string] at none

end State.TableOrdered

/-- The orders agree but for one string, of which none is on the ring (R172). -/
structure State.TableOrderedBut (s : State) (n : Fin 8) : Prop where
  one      : ∀ i j k, (s.order i).onRing = true → (s.order j).onRing = true →
    (s.order i).string? = some k → (s.order j).string? = some k → i = j
  behind   : ∀ i k, k ≠ n → (s.order i).string? = some k →
    ∃ j, (s.order j).onRing = true ∧ (s.order j).string? = some k
  quiet    : ∀ i, (s.order i).onRing = true → (s.order i).string? ≠ some n
  creation : ∀ i, i ∈ s.ot.creation ↔ (s.order i).order? ≠ none
  once     : s.ot.creation.Nodup

namespace State.TableOrdered

/-- The order of a string that is on the ring made FREE. -/
theorem freeOrder {s : State} (h : s.TableOrdered) {i : OrderIndex} {o : Order} (order : s.order i = .order o)
    (onRing : o.onRing = true) : (s.freeOrderRecord i).TableOrderedBut o.slot.string := by
  have ringi : (s.order i).onRing = true := by rw [order]; exact onRing
  have stringi : (s.order i).string? = some o.slot.string := by rw [order]; rfl
  have freed : ∀ j, (s.freeOrderRecord i).order j = if i = j then .free else s.order j :=
    fun j => State.order_setOrder s i j .free
  have other : ∀ j n, ((s.freeOrderRecord i).order j).string? = some n → i ≠ j ∧ (s.order j).string? = some n := by
    intro j n string
    rw [freed] at string
    split at string
    · cases string
    · next differs => exact ⟨differs, string⟩
  have ringOther : ∀ j, ((s.freeOrderRecord i).order j).onRing = true → i ≠ j ∧ (s.order j).onRing = true := by
    intro j ring
    rw [freed] at ring
    split at ring
    · cases ring
    · next differs => exact ⟨differs, ring⟩
  refine ⟨fun j l n ringj ringl stringj stringl => ?_, fun j n differs string => ?_, fun j ring string => ?_,
    fun j => ?_, h.once.erase i⟩
  · exact h.one j l n (ringOther j ringj).2 (ringOther l ringl).2 (other j n stringj).2 (other l n stringl).2
  · obtain ⟨l, ring, same⟩ := h.behind j n (other j n string).2
    have il : i ≠ l := by
      rintro rfl
      rw [stringi] at same
      exact differs (Option.some.inj same).symm
    exact ⟨l, by rw [freed, if_neg il]; exact ⟨ring, same⟩⟩
  · exact (ringOther j ring).1 (h.one i j _ ringi (ringOther j ring).2 stringi (other j _ string).2)
  · refine (h.once.mem_erase_iff).trans ?_
    rw [h.creation j, freed]
    by_cases hi : i = j
    · simp [OrderRecord.order?, hi]
    · simp [hi, Ne.symm hi]

end State.TableOrdered

namespace State.TableOrderedBut

/-- With no DEFERRED order of the string there is no order of it. -/
theorem withoutDeferred {s : State} {n : Fin 8} (h : s.TableOrderedBut n) (none : s.oldestDeferred n = none) :
    s.TableOrdered := by
  refine ⟨h.one, fun i k string => ?_, h.creation, h.once⟩
  by_cases same : k = n
  · subst same
    obtain ⟨x, record, slot⟩ := Option.map_eq_some_iff.mp string
    have order := OrderRecord.order?_eq_some.mp record
    have listed := (h.creation i).mpr (by rw [record]; exact Option.some_ne_none _)
    have waiting := State.TableOrdered.oldestDeferred_none none listed order slot
    refine absurd string (h.quiet i ?_)
    rw [order]
    change x.onRing = true
    unfold Order.onRing
    split
    · next deferred => exact absurd deferred waiting
    · rfl
    · rfl
  · exact h.behind i k same string

/-- A DEFERRED order of the string takes the place on the ring. -/
theorem issue {s : State} {i : OrderIndex} {x : Order} (h : s.TableOrderedBut x.slot.string)
    (order : s.order i = .order x) : (s.setOrder i (.order { x with stage := .issuing })).TableOrdered := by
  have issued : ∀ j, (s.setOrder i (.order { x with stage := .issuing })).order j =
      if i = j then .order { x with stage := .issuing } else s.order j := fun j => State.order_setOrder _ _ _ _
  have string : ∀ j, ((s.setOrder i (.order { x with stage := .issuing })).order j).string? = (s.order j).string? := by
    intro j
    rw [issued]
    split
    · next same => rw [← same, order]; rfl
    · rfl
  have stringi : (s.order i).string? = some x.slot.string := by rw [order]; rfl
  have ring : ∀ j, i ≠ j → ((s.setOrder i (.order { x with stage := .issuing })).order j).onRing = (s.order j).onRing :=
    fun j differs => by rw [issued, if_neg differs]
  refine ⟨fun j l k ringj ringl stringj stringl => ?_, fun j k stringj => ?_, fun j => ?_, h.once⟩
  · rw [string] at stringj stringl
    by_cases hj : i = j <;> by_cases hl : i = l
    · exact hj.symm.trans hl
    · subst hj
      rw [ring l hl] at ringl
      exact absurd (stringl.trans (stringj.symm.trans stringi)) (h.quiet l ringl)
    · subst hl
      rw [ring j hj] at ringj
      exact absurd (stringj.trans (stringl.symm.trans stringi)) (h.quiet j ringj)
    · rw [ring j hj] at ringj
      rw [ring l hl] at ringl
      exact h.one j l k ringj ringl stringj stringl
  · rw [string] at stringj
    by_cases same : k = x.slot.string
    · exact ⟨i, by rw [issued, if_pos rfl]; rfl, by rw [string, stringi, same]⟩
    · obtain ⟨l, onRing, stringl⟩ := h.behind j k same stringj
      have il : i ≠ l := by
        rintro rfl
        rw [stringi] at stringl
        exact same (Option.some.inj stringl).symm
      exact ⟨l, by rw [ring l il]; exact onRing, by rw [string]; exact stringl⟩
  · rw [issued]
    refine (h.creation j).trans ?_
    split
    · next same => rw [← same, order]; simp [OrderRecord.order?]
    · rfl

end State.TableOrderedBut

namespace State.TableOrdered

/-- The end of an order on the ring: its record FREE and the oldest DEFERRED order of its string in its place (R172,
R176). -/
theorem closed {s : State} (h : s.TableOrdered) {i : OrderIndex} {o : Order} (order : s.order i = .order o)
    (onRing : o.onRing = true) : (s.closed i o).TableOrdered := by
  have freed := h.freeOrder order onRing
  unfold State.closed State.promoteDeferred
  split
  · next k x oldest =>
    obtain ⟨orderk, -, string⟩ := oldestDeferred_some oldest
    exact TableOrderedBut.issue (string ▸ freed) orderk
  · next none => exact freed.withoutDeferred none

end State.TableOrdered

/-! ## The choice's record -/

theorem State.ReservedHeld.of_held {s t : State} (h : s.ReservedHeld) (held : t.pe.held = s.pe.held)
    (ot : ∀ o p, s.order o = .reservedForChoice p → t.order o = .reservedForChoice p) : t.ReservedHeld := by
  intro o p choice
  rw [held] at choice
  exact ot o p (h o p choice)

theorem State.ReservedHeld.of_none {s : State} (h : s.pe.choice = none) : s.ReservedHeld := by
  intro o p held
  rw [PairingEngine.held, h] at held
  cases held

theorem State.setOrder_reserved {s : State} {i : OrderIndex} {o : Order} {r : OrderRecord} (order : s.order i = .order o)
    {j : OrderIndex} {p : SlotId} (h : s.order j = .reservedForChoice p) :
    (s.setOrder i r).order j = .reservedForChoice p := by
  rw [State.order_setOrder]
  split
  · next same => rw [← same, order] at h; cases h
  · exact h

theorem OrdersAgree.of_eq {s t : State} (h : OrdersAgree s) (ot : t.ot = s.ot) (held : t.pe.held = s.pe.held) :
    OrdersAgree t := by
  rw [ordersAgree_iff] at h ⊢
  obtain ⟨table, reserved⟩ := h
  exact ⟨table.of_eq ot, reserved.of_held held fun o p same => by rwa [State.order, ot]⟩

/-- With every record FREE and no choice there is nothing to agree. -/
theorem OrdersAgree.of_empty {s : State} (free : ∀ i, s.order i = .free) (creation : s.ot.creation = [])
    (choice : s.pe.choice = none) : OrdersAgree s := by
  refine (ordersAgree_iff s).mpr ⟨⟨fun i j k ring => ?_, fun i k string => ?_, fun i => ?_, ?_⟩, .of_none choice⟩
  · rw [free] at ring
    cases ring
  · rw [free] at string
    cases string
  · rw [free, creation]
    exact iff_of_false List.not_mem_nil fun some => some rfl
  · rw [creation]
    exact List.nodup_nil

theorem OrdersAgree.closed {s : State} (h : OrdersAgree s) {i : OrderIndex} {o : Order} (order : s.order i = .order o)
    (onRing : o.onRing = true) : OrdersAgree (s.closed i o) := by
  rw [ordersAgree_iff] at h ⊢
  obtain ⟨table, reserved⟩ := h
  refine ⟨table.closed order onRing, reserved.of_held (by simp) fun j p same => ?_⟩
  have freed := State.setOrder_reserved (r := .free) order same
  unfold State.closed State.promoteDeferred
  split
  · next k x oldest =>
    exact State.setOrder_reserved (s := s.freeOrderRecord i) (State.TableOrdered.oldestDeferred_some oldest).1 freed
  · exact freed

theorem OrdersAgree.select {s : State} (h : OrdersAgree s) (p : Policy) : OrdersAgree (s.select p) := by
  by_cases due : s.selectionConditions
  · obtain ⟨q, o, -, free, selected⟩ := select_due due p
    rw [selected, ordersAgree_iff]
    have record : s.order o = .free := of_decide_eq_true (lowest_some free).1
    refine ⟨(((ordersAgree_iff s).mp h).1.setOther (by rw [record]; rfl) rfl).of_eq rfl, fun k r held => ?_⟩
    obtain ⟨rfl, rfl⟩ := Prod.mk.inj (Option.some.inj held)
    exact (State.order_setOrder s o o _).trans (if_pos rfl)
  · rw [select_not_due due]
    exact h

theorem OrdersAgree.completeChoice {s : State} (h : OrdersAgree s) {c : Choice} (choice : s.pe.choice = some c) :
    OrdersAgree (s.completeChoice c) := by
  obtain ⟨table, -⟩ := (ordersAgree_iff s).mp h
  have reserved : (s.order c.order).order? = none := by rw [h.reserved c choice]; rfl
  obtain ⟨t, outcome, completed⟩ := s.completeChoice_outcome c
  rw [completed, ordersAgree_iff]
  refine ⟨State.TableOrdered.of_eq (s := t) ?_ rfl, .of_none rfl⟩
  cases outcome with
  | discarded => exact (table.freeReserved reserved).of_eq (by simp [State.discardChoice])
  | noCandidate => exact (table.freeReserved reserved).of_eq (by simp [State.noCandidate])
  | applied q w =>
    have before : (((s.assignIncoming w c.order).claimOutgoing w c.order).setSlot c.slot
        (.reserved c.order w.outgoing)).ot = s.ot := by simp
    have created := (table.of_eq before).createOrder (i := c.order)
      (by rwa [State.order, before, ← State.order]) c.slot w
    exact created.of_eq (by simp [State.applyChoice])

/-- What leaves the table, the creation order and the choice's hold keeps the orders in agreement. -/
theorem OrdersAgree.of_table {s t : State} (h : OrdersAgree s) (table : t.ot.table = s.ot.table)
    (creation : t.ot.creation = s.ot.creation) (held : t.pe.held = s.pe.held) : OrdersAgree t := by
  have order : ∀ i, t.order i = s.order i := fun i => by rw [State.order, table, ← State.order]
  obtain ⟨⟨one, behind, listed, once⟩, reserved⟩ := (ordersAgree_iff s).mp h
  refine (ordersAgree_iff t).mpr ⟨⟨?_, ?_, ?_, by rwa [creation]⟩, reserved.of_held held fun o p same => by rwa [order]⟩
  · simpa only [order] using one
  · simpa only [order] using behind
  · simpa only [order, creation] using listed

theorem Change.ordersAgree {s t : State} (h : OrdersAgree s) (change : Change s t) : OrdersAgree t := by
  cases change with
  | none => exact h
  | verdict i => exact h.of_eq (by simp) (by simp)
  | arrive r tag c b => exact h.of_eq (by simp) (by simp)
  | depart r tag b => exact h.of_eq (by simp) (by simp)
  | evaluation e => exact h.of_eq (by simp) (by simp)
  | choice c choice => exact h.completeChoice choice
  | choiceSettles c choice => exact (h.completeChoice choice).of_eq (by simp) (by simp)
  | expiry i o t order stage =>
    have ended : OrdersAgree ((s.reachTime t).endExpired i o) := h.of_table (by simp) (by simp) (by simp)
    exact ended.closed (by simpa [State.order] using order) (by simp [Order.onRing, stage])
  | safePoint => exact h.of_eq (by simp) (by simp)

theorem CommandEffect.ordersAgree {s t : State} (h : OrdersAgree s) (effect : CommandEffect s t) :
    OrdersAgree t := by
  cases effect with
  | changed t change =>
    refine OrdersAgree.select (s := t) ?_ _
    cases change with
    | ended i o t done order stage =>
      have ended : OrdersAgree (s.endReported i o done) := h.of_eq (by simp) (by simp)
      exact ended.closed (by simpa [State.order] using order) (by simp [Order.onRing, stage])
    | woken p => exact h.of_eq (by simp) (s.updateRequest_keys p Request.woken_key).2
    | _ => exact h.of_eq (by simp) (by simp)
  | cleared =>
    have cleared : OrdersAgree s.clearEngine := .of_empty (fun i => get_replicate _ i) rfl rfl
    exact cleared.of_eq (by simp) (by simp)
  | _ => exact h.of_eq (by simp) (by simp)

theorem Event.ordersAgree {s t : State} (h : OrdersAgree s) (event : Event s t) : OrdersAgree t := by
  cases event with
  | released straps => exact .of_empty (fun i => get_replicate _ i) rfl rfl
  | order x claim =>
    obtain ⟨table, reserved⟩ := (ordersAgree_iff s).mp h
    have issuing := List.find?_some claim
    rw [decide_eq_true_eq] at issuing
    obtain ⟨i, -, listed⟩ := List.mem_filterMap.mp (List.mem_of_find?_eq_some claim)
    obtain ⟨o, record, rfl⟩ := Option.map_eq_some_iff.mp listed
    have order := OrderRecord.order?_eq_some.mp record
    replace issuing : o.stage = .issuing := issuing
    refine (ordersAgree_iff _).mpr ⟨?_, reserved.of_held rfl fun j p same => State.setOrder_reserved order same⟩
    refine (table.setAlike (i := i) (r := .order { o with stage := .issued _ }) ?_ ?_ ?_).of_eq rfl
    · rw [order]; rfl
    · rw [order]; simp [OrderRecord.onRing, Order.onRing, issuing]
    · rw [order]; rfl
  | selected u p change => exact (change.ordersAgree h).select p
  | ticked => exact h.of_eq (by simp) s.tick_held
  | command f rest a queue effect =>
    have taken : OrdersAgree (s.setCommands rest) := h.of_eq rfl rfl
    exact (effect.ordersAgree taken).of_eq rfl rfl
  | _ => exact h.of_eq (by simp) (by simp)

end Sys2Proof.Machine
end

section
/-! SUPPORT. The requests (R116, R134 to R138): each for a slot in use in the state its kind needs, one a slot. -/

namespace Sys2Proof.Machine

/-- What `RequestsFit` says, by slot and kind of the requests. -/
structure State.KeysFit (s : State) : Prop where
  inUse    : ∀ k ∈ s.pe.keys, s.slotInUse k.1 = true
  fits     : ∀ k ∈ s.pe.keys, slotFits (s.slot k.1) k.2 = true
  distinct : (s.pe.keys.map Prod.fst).Nodup

theorem requestsFit_iff (s : State) : RequestsFit s ↔ s.KeysFit where
  mp h := by
    refine ⟨?_, ?_, ?_⟩
    · rintro k member
      obtain ⟨q, queued, rfl⟩ := mem_keys.mp member
      exact h.inUse q queued
    · rintro k member
      obtain ⟨q, queued, rfl⟩ := mem_keys.mp member
      exact h.fits q queued
    · simpa [PairingEngine.keys, Function.comp_def] using h.distinct
  mpr h := by
    refine ⟨fun q queued => h.inUse _ (mem_keys.mpr ⟨q, queued, rfl⟩),
      fun q queued => h.fits _ (mem_keys.mpr ⟨q, queued, rfl⟩), ?_⟩
    simpa [PairingEngine.keys, Function.comp_def] using h.distinct

namespace State.KeysFit

/-- Fewer requests, on slots that did not change, still fit. -/
theorem of_sublist {s t : State} (h : s.KeysFit) (keys : t.pe.keys.Sublist s.pe.keys)
    (slots : ∀ k ∈ t.pe.keys, t.slot k.1 = s.slot k.1) (bank : t.mu.active.bank = s.mu.active.bank) : t.KeysFit where
  inUse k member := by
    rw [State.slotInUse, bank, ← State.slotInUse]
    exact h.inUse k (keys.subset member)
  fits k member := by
    rw [slots k member]
    exact h.fits k (keys.subset member)
  distinct := (keys.map _).nodup h.distinct

theorem of_eq {s t : State} (h : s.KeysFit) (keys : t.pe.keys = s.pe.keys) (sm : t.sm.slots = s.sm.slots)
    (active : t.mu.active = s.mu.active) : t.KeysFit :=
  h.of_sublist (keys ▸ List.Sublist.refl _) (fun k _ => by rw [State.slot, sm, ← State.slot]) (by rw [active])

theorem of_none {s : State} (h : s.pe.keys = []) : s.KeysFit where
  inUse k member := by rw [h] at member; cases member
  fits k member := by rw [h] at member; cases member
  distinct := by rw [h]; exact List.nodup_nil

/-- A slot whose requests are withdrawn may change. -/
theorem withdrawn {s t : State} (h : s.KeysFit) {p : SlotId}
    (keys : t.pe.keys = s.pe.keys.filter fun k => decide (k.1 ≠ p)) (slots : ∀ r, r ≠ p → t.slot r = s.slot r)
    (bank : t.mu.active.bank = s.mu.active.bank) : t.KeysFit := by
  refine h.of_sublist (keys ▸ List.filter_sublist) (fun k member => slots k.1 ?_) bank
  rw [keys] at member
  simpa using (List.mem_filter.mp member).2

theorem withdraw {s : State} (h : s.KeysFit) (p : SlotId) : (s.withdraw p).KeysFit :=
  h.withdrawn (s.withdraw_keys p).1 (fun _ _ => rfl) rfl

/-- A slot that fits no request has none and may change. -/
theorem setSlot {s : State} (h : s.KeysFit) {p : SlotId} (unfit : ∀ k, slotFits (s.slot p) k = false)
    (x : SlotRecord) : (s.setSlot p x).KeysFit := by
  refine h.of_sublist (List.Sublist.refl _) (fun k member => ?_) rfl
  rw [State.slot_setSlot, if_neg]
  rintro rfl
  have := h.fits k member
  rw [unfit] at this
  cases this

theorem mem_request {s : State} {p : SlotId} {q : Request} (h : s.request p = some q) : q ∈ s.pe.requests ∧ q.slot = p :=
  ⟨List.mem_of_find?_eq_some h, by simpa using List.find?_some h⟩

/-- A raise adds a fitting request where the slot has none, or turns a REPLACE request into a REMOVE one (R99, R136). -/
theorem raiseRequest {s : State} (h : s.KeysFit) (p : SlotId) (k : RequestKind) (st : RequestStatus) :
    (s.raiseRequest p k st).KeysFit := by
  unfold State.raiseRequest
  split
  · next fitting =>
    obtain ⟨inUse, fits⟩ := Bool.and_eq_true_iff.mp fitting
    unfold State.raiseFitting
    split
    · next none =>
      have keys : (s.createRequest p k st).pe.keys = s.pe.keys ++ [(p, k)] := by
        simp [State.createRequest, PairingEngine.keys]
      have absent : p ∉ s.pe.keys.map Prod.fst := by
        intro member
        obtain ⟨key, listed, rfl⟩ := List.mem_map.mp member
        obtain ⟨q, queued, rfl⟩ := mem_keys.mp listed
        simpa using List.find?_eq_none.mp none q queued
      have all : ∀ {Q : SlotId × RequestKind → Prop}, (∀ x ∈ s.pe.keys, Q x) → Q (p, k) →
          ∀ x ∈ (s.createRequest p k st).pe.keys, Q x := by
        intro Q old new x member
        rw [keys] at member
        rcases List.mem_append.mp member with queued | added
        · exact old x queued
        · exact List.mem_singleton.mp added ▸ new
      refine ⟨all h.inUse inUse, all h.fits fits, ?_⟩
      rw [keys, List.map_append]
      refine List.nodup_append.mpr ⟨h.distinct, by simp, fun a member b single => ?_⟩
      obtain rfl := List.mem_singleton.mp single
      exact fun same => absent (same ▸ member)
    · next q found =>
      split
      · next kinds =>
        obtain ⟨-, rfl⟩ := kinds
        have same : ∀ x ∈ (s.updateRequest p fun q => { q with kind := .remove, priority := 3 }).pe.keys,
            x ∈ s.pe.keys ∨ x = (p, .remove) := by
          intro x member
          obtain ⟨y, changed, rfl⟩ := mem_keys.mp member
          obtain ⟨r, queued, rfl⟩ := List.mem_map.mp changed
          dsimp only
          split
          · next here => exact .inr (by rw [← here])
          · exact .inl (mem_keys.mpr ⟨r, queued, rfl⟩)
        have slots : (s.updateRequest p fun q => { q with kind := .remove, priority := 3 }).pe.keys.map Prod.fst =
            s.pe.keys.map Prod.fst := by
          simp only [State.updateRequest, State.setRequests, PairingEngine.keys, List.map_map]
          refine List.map_congr_left fun r _ => ?_
          simp only [Function.comp_apply]
          split <;> rfl
        refine ⟨fun x member => ?_, fun x member => ?_, slots ▸ h.distinct⟩
        · rcases same x member with old | rfl
          · exact h.inUse x old
          · exact inUse
        · rcases same x member with old | rfl
          · exact h.fits x old
          · exact fits
      · exact h
  · exact h

/-! ## Completions -/

theorem regrade {s : State} (h : s.KeysFit) (i : ModuleIndex) (p : SlotId) : (s.regrade i p).KeysFit := by
  have record : ∀ {t : State} (r : ModuleRecord), t.KeysFit → (t.setRecord i r).KeysFit :=
    fun _ k => k.of_eq rfl rfl rfl
  unfold State.regrade
  dsimp only
  split
  · exact h
  · split
    · exact record _ h
    · split
      · unfold State.regradeRecovered
        dsimp only
        split
        · split
          · exact record _ (record _ h)
          · split
            · exact record _ h
            all_goals exact (record _ (record _ h)).withdraw p
        · exact record _ h
      · split
        · exact (record _ h).raiseRequest _ _ _
        all_goals
          unfold State.regradeWorse
          dsimp only
          split
          · exact (record _ h).raiseRequest _ _ _
          · split
            · exact (record _ (record _ h)).raiseRequest _ _ _
            · exact record _ h

theorem resolve {s : State} (h : s.KeysFit) (i : ModuleIndex) : (s.resolve i).KeysFit := by
  have graded : (s.setRecord i ((s.record i).withGrade (s.mu.active.orig.get (s.record i).originClass))).KeysFit :=
    h.of_eq rfl rfl rfl
  unfold State.resolve State.afterResolution
  split
  · split
    · exact graded.of_eq rfl rfl rfl
    · exact graded
  · exact graded.regrade i _
  · exact graded

/-- The references recomputed leave the slots and the requests. -/
theorem recompute_slots (s : State) (k : Fin 8) : (s.recompute k).sm.slots = s.sm.slots := by
  unfold State.recompute
  dsimp only
  split <;> rfl

theorem recompute {s : State} (h : s.KeysFit) (k : Fin 8) : (s.recompute k).KeysFit :=
  h.of_eq (by simp) (recompute_slots s k) (by simp)

theorem completeEvaluation {s : State} (h : s.KeysFit) (e : Evaluation) : (s.completeEvaluation e).KeysFit := by
  obtain ⟨t, outcome, completed⟩ := s.completeEvaluation_outcome e
  rw [completed]
  refine of_eq (s := t) ?_ rfl rfl rfl
  cases outcome with
  | applied =>
    unfold State.applyCompletion
    dsimp only
    have told : ∀ {u : State} (x : Option Nat) (l : Location), u.KeysFit → (u.tellStringMap e x l).KeysFit := by
      intro u x l k
      unfold State.tellStringMap
      split
      · split
        · exact k.recompute _
        · exact k
      · exact k
    refine told _ _ ?_
    split
    · exact h.of_eq rfl rfl rfl
    · split
      · exact resolve (s := s.setRecord e.module.index _) (h.of_eq rfl rfl rfl) _
      · exact h.of_eq rfl rfl rfl
  | declined => exact h.of_eq rfl rfl rfl

theorem completeChoice {s : State} (h : s.KeysFit) (c : Choice) : (s.completeChoice c).KeysFit := by
  obtain ⟨t, outcome, completed⟩ := s.completeChoice_outcome c
  rw [completed]
  refine of_eq (s := t) ?_ rfl rfl rfl
  cases outcome with
  | discarded => exact h.of_eq (by simp [State.discardChoice]) (by simp) (by simp)
  | noCandidate => exact h.of_eq (by simp [State.noCandidate]) (by simp) (by simp [State.noCandidate])
  | applied q w =>
    have ordered : (s.applyChoice c w).KeysFit := by
      refine h.withdrawn (p := c.slot) (by simp [State.applyChoice, State.createOrder]) (fun r differs => ?_)
        (by simp [State.applyChoice])
      change (((s.assignIncoming w c.order).claimOutgoing w c.order).setSlot c.slot _).slot r = _
      rw [State.slot_setSlot, if_neg (Ne.symm differs)]
      simp [State.slot]
    unfold State.afterChoice
    dsimp only
    split
    · refine recompute ?_ _
      split
      · exact ordered.of_eq (by simp) (by simp) (by simp)
      · exact ordered
    · split
      · exact ordered.of_eq (by simp) (by simp) (by simp)
      · exact ordered

/-- A slot that takes a module has its request withdrawn (R122). -/
theorem occupy {s : State} (h : s.KeysFit) (p : SlotId) (i : ModuleIndex) : (s.occupy p i).KeysFit := by
  refine recompute (h.withdrawn (p := p) (State.withdraw_keys (s.setSlot p _) p).1 (fun r differs => ?_) rfl) _
  change (s.setSlot p _).slot r = _
  rw [State.slot_setSlot, if_neg (Ne.symm differs)]

/-! ## The end of an order -/

/-- A RESERVED slot, which fits no request, released to its outcome (R118). -/
theorem releaseSlot {s : State} (h : s.KeysFit) (p : SlotId) (o : OrderIndex) (x : SlotRecord) :
    (s.releaseSlot p o x).KeysFit := by
  unfold State.releaseSlot
  split
  · next reserved =>
    split
    · exact h.setSlot (fun k => by rw [reserved]; cases k <;> rfl) x
    · exact h
  all_goals exact h

theorem endReported {s : State} (h : s.KeysFit) (i : OrderIndex) (o : Order) (done : Bool) :
    (s.endReported i o done).KeysFit := by
  cases done with
  | true =>
    have modules : ((s.claimModule o.work.incoming [.assigned] fun r => r.placed o.slot).claimModule o.work.outgoing
        [.outbound] ModuleRecord.freed).KeysFit := h.of_eq (by simp) (by simp) (by simp)
    change (s.endDone i o).KeysFit
    unfold State.endDone
    dsimp only
    split
    · exact (modules.releaseSlot _ _ _).recompute _
    · exact (modules.releaseSlot _ _ _).raiseRequest _ _ _
  | false =>
    have modules : ((s.returnToPool o.work.incoming).claimModule o.work.outgoing [.outbound] fun r =>
        r.returned o.slot).KeysFit := h.of_eq (by simp) (by simp) (by simp)
    change (s.endRefused i o).KeysFit
    unfold State.endRefused
    dsimp only
    refine raiseRequest ?_ _ _ _
    split
    · exact (modules.releaseSlot _ _ _).recompute _
    · exact modules.releaseSlot _ _ _

theorem endExpired {s : State} (h : s.KeysFit) (i : OrderIndex) (o : Order) : (s.endExpired i o).KeysFit := by
  have modules : ((s.claimModule o.work.incoming [.assigned] ModuleRecord.heldBack).claimModule o.work.outgoing
      [.outbound] ModuleRecord.heldBack).KeysFit := h.of_eq (by simp) (by simp) (by simp)
  exact of_eq (modules.releaseSlot o.slot i .unknown) rfl rfl rfl

/-! ## Commits -/

/-- The geometry applied (R109): slots of requests in use before and after do not change. -/
theorem geometry {s t : State} (h : s.KeysFit) {old new : BankSettings} (bank : s.mu.active.bank = old)
    (bank' : t.mu.active.bank = new) (keys : t.pe.keys = s.pe.keys.filter fun k => Machine.inUse new k.1)
    (sm : t.sm = (s.applyGeometry old new).sm) : t.KeysFit := by
  have listed : ∀ k ∈ t.pe.keys, k ∈ s.pe.keys ∧ Machine.inUse new k.1 = true := by
    intro k member
    rw [keys] at member
    simpa using List.mem_filter.mp member
  refine ⟨fun k member => ?_, fun k member => ?_, ?_⟩
  · rw [State.slotInUse, bank']
    exact (listed k member).2
  · obtain ⟨queued, -⟩ := listed k member
    have before : Machine.inUse old k.1 = true := bank ▸ h.inUse k queued
    have slot : t.slot k.1 = s.slot k.1 := by
      rw [State.slot, sm]
      simp [State.applyGeometry, before, State.slot, get_tabulate]
    rw [slot]
    exact h.fits k queued
  · rw [keys]
    exact (List.filter_sublist.map _).nodup h.distinct

end State.KeysFit

/-- What a commit's effects leave of requests and slots: those of the geometry applied when BANK is committed, else those
before (R109, R194). -/
theorem State.commitEffects_slots (s : State) (mask : BitVec 5) (old : Tables) :
    (s.commitEffects mask old).pe.keys =
        (if names mask .bank then s.pe.keys.filter fun k => inUse s.mu.active.bank k.1 else s.pe.keys) ∧
      (s.commitEffects mask old).sm = if names mask .bank then (s.applyGeometry old.bank s.mu.active.bank).sm else s.sm := by
  refine State.commitEffects_stages (P := fun t => t.pe.keys = s.pe.keys ∧ t.sm = s.sm)
    (Q := fun t => t.pe.keys = (if names mask .bank then s.pe.keys.filter fun k => inUse s.mu.active.bank k.1
      else s.pe.keys) ∧ t.sm = if names mask .bank then (s.applyGeometry old.bank s.mu.active.bank).sm else s.sm)
    ⟨rfl, rfl⟩ (fun _ => by simp) (fun t _ sm _ h named => ?_) (fun t h named => by simpa [named] using h)
    (fun t h => by simpa using h) (fun t h => by simpa using h) (fun t h => by simpa using h)
  rw [if_pos named, if_pos named, ← h.1]
  refine ⟨?_, by simp [State.applyGeometry, State.string, State.slot, sm]⟩
  simp only [State.applyGeometry, PairingEngine.keys, List.filter_map]
  rfl

theorem State.KeysFit.settleIfSafe {s : State} (h : s.KeysFit) : s.settleIfSafe.KeysFit := by
  have outcome := s.settleIfSafe_outcome
  generalize s.settleIfSafe = t at outcome
  cases outcome with
  | waits => exact h
  | refused f => exact h.of_eq rfl rfl rfl
  | taken mask =>
    let v := (s.setPendingCommit none).setActive (mergedTables mask s.mu.active s.mu.shadow)
    obtain ⟨keys, sm⟩ := v.commitEffects_slots mask s.mu.active
    have active : (v.commitEffects mask s.mu.active).mu.active = mergedTables mask s.mu.active s.mu.shadow := by simp [v]
    refine State.KeysFit.of_eq (s := v.commitEffects mask s.mu.active) ?_ rfl rfl rfl
    by_cases named : names mask .bank = true
    · rw [if_pos named] at keys sm
      exact h.geometry rfl (congrArg Tables.bank active) keys sm
    · rw [if_neg named] at keys sm
      have bank : (mergedTables mask s.mu.active s.mu.shadow).bank = s.mu.active.bank := if_neg named
      refine h.of_sublist (keys ▸ List.Sublist.refl _) (fun k _ => ?_) ((congrArg Tables.bank active).trans bank)
      rw [State.slot, sm]
      rfl

theorem Change.keysFit {s t : State} (h : s.KeysFit) (change : Change s t) : t.KeysFit := by
  cases change with
  | none => exact h
  | verdict i => exact h.of_eq (by simp) (by simp) (by simp)
  | arrive r tag c b =>
    exact h.of_eq (by simp) (by simp) (ManagementUnit.active_of_core (State.arriveAt_inner _ b tag c).2.2.2)
  | depart r tag b => exact h.of_eq (by simp) (by simp) (by simp)
  | evaluation e => exact (h.completeEvaluation e).settleIfSafe
  | choice c => exact h.completeChoice c
  | choiceSettles c => exact (h.completeChoice c).settleIfSafe
  | expiry i o t =>
    have ended : ((s.reachTime t).endExpired i o).KeysFit := State.KeysFit.endExpired (s := s.reachTime t) (h.of_eq rfl rfl rfl) i o
    exact ended.of_eq (by simp) (by simp) (by simp)
  | safePoint => exact h.settleIfSafe

theorem CommandChange.keysFit {s t : State} (h : s.KeysFit) (change : CommandChange s t) : t.KeysFit := by
  cases change with
  | commit mask => exact State.KeysFit.settleIfSafe (h.of_eq rfl rfl rfl)
  | emptied p slot =>
    refine (h.setSlot (fun k => ?_) .empty).raiseRequest _ _ _
    rcases slot with slot | slot <;> rw [slot] <;> cases k <;> rfl
  | raised p => exact h.raiseRequest _ _ _
  | vacated p m =>
    refine State.KeysFit.recompute (State.KeysFit.raiseRequest ?_ _ _ _) _
    exact h.withdrawn (p := p) (by simp) (fun r differs => by
      rw [State.slot_setSlot, if_neg (Ne.symm differs)]
      simp [State.slot]) (by simp)
  | taken p i =>
    unfold State.takeFor
    dsimp only
    refine State.KeysFit.occupy ?_ p i
    split <;> exact h.of_eq (by simp) (by simp) (by simp)
  | adopted p i tag => exact State.KeysFit.occupy (h.of_eq (by simp) (by simp) (by simp)) p i
  | ended i o t done => exact (h.endReported i o done).of_eq (by simp) (by simp) (by simp)
  | woken p => exact h.of_eq (s.updateRequest_keys p Request.woken_key).1 (by simp) (by simp)
  | retired p m => exact State.KeysFit.raiseRequest (h.of_eq (by simp) (by simp) (by simp)) _ _ _
  | _ => exact h.of_eq (by simp) (by simp) (by simp)

theorem State.KeysFit.select {s : State} (h : s.KeysFit) (p : Policy) : (s.select p).KeysFit := by
  by_cases due : s.selectionConditions
  · obtain ⟨q, o, -, -, selected⟩ := select_due due p
    rw [selected]
    exact h.of_eq ((s.setOrder o (.reservedForChoice q.slot)).updateRequest_keys q.slot
      (f := fun q => { q with status := .selected }) fun _ => ⟨rfl, rfl⟩).1 rfl rfl
  · rwa [select_not_due due]

theorem CommandEffect.keysFit {s t : State} (h : s.KeysFit) (effect : CommandEffect s t) : t.KeysFit := by
  cases effect with
  | changed t change => exact (change.keysFit h).select _
  | blocked p =>
    exact h.withdrawn (p := p) (by simp) (fun r differs => by
      change (s.setSlot p .blocked).slot r = _
      rw [State.slot_setSlot, if_neg (Ne.symm differs)]) rfl
  | cleared => exact State.KeysFit.settleIfSafe (.of_none rfl)
  | _ => exact h.of_eq rfl rfl rfl

theorem Event.keysFit {s t : State} (h : s.KeysFit) (event : Event s t) : t.KeysFit := by
  cases event with
  | released straps => exact .of_none rfl
  | received c => exact h.of_eq (by simp) (by simp) (ManagementUnit.active_of_still (s.receive_inner c))
  | notice n => exact h.of_eq (by simp) (by simp) (ManagementUnit.active_of_core (s.admitNotice_inner n))
  | reply =>
    unfold State.admitReply
    split
    · split
      · exact h
      · exact h.of_eq rfl rfl rfl
    · exact h
  | selected u p change => exact (change.keysFit h).select p
  | ticked => exact h.of_eq rfl rfl rfl
  | command f rest a queue effect =>
    have taken : (s.setCommands rest).KeysFit := h.of_eq rfl rfl rfl
    exact (effect.keysFit taken).of_eq rfl rfl rfl
  | _ => exact h.of_eq (by simp) (by simp) (by simp)

/-- Settles O59, by the events of a step: a slot changes only with its requests withdrawn or where none fits it, and an
order on the ring ends with the next of its string put in its place. -/
theorem everyStepKeepsRequestsAndOrders : Obligations.EveryStepKeepsRequestsAndOrders := by
  unfold Obligations.EveryStepKeepsRequestsAndOrders
  refine ⟨fun s t => step_keeps (fun s l h => ?_) fun u v h event => ?_,
    fun s t => step_keeps (fun s l h => h.of_eq rfl rfl) fun _ _ => Event.ordersAgree⟩
  · exact (requestsFit_iff _).mpr (((requestsFit_iff s).mp h).of_eq rfl rfl rfl)
  · exact (requestsFit_iff v).mpr (event.keysFit ((requestsFit_iff u).mp h))

end Sys2Proof.Machine
end

section
/-! SUPPORT. What the operations leave of the Candidate Pool and the pool-wait list, and the order of their keys (R128). -/

namespace Sys2Proof.Machine

/-! ## The order of keys -/

theorem GoesBefore.trans {x y z : ModuleRecord} (h : GoesBefore x y) (k : GoesBefore y z) : GoesBefore x z := by
  rcases h with h | ⟨h, h' | h'⟩ <;> rcases k with k | ⟨k, k' | k'⟩
  · exact .inl (h.trans k)
  · exact .inl (k ▸ h)
  · exact .inl (k ▸ h)
  · exact .inl (h ▸ k)
  · exact absurd (h'.2.symm.trans k'.1) (by decide)
  · exact .inr ⟨h.trans k, .inl ⟨h'.1, k'.1.symm.trans h'.2⟩⟩
  · exact .inl (h ▸ k)
  · exact .inr ⟨h.trans k, .inl ⟨h'.1.trans k'.1, k'.2⟩⟩
  · exact .inr ⟨h.trans k, .inr ⟨h'.1.trans k'.1, h'.2.trans k'.2⟩⟩

theorem GoesBefore.irrefl (x : ModuleRecord) : ¬ GoesBefore x x := by
  rintro (h | ⟨-, h | h⟩)
  · exact Nat.lt_irrefl _ h
  · exact absurd (h.1.symm.trans h.2) (by decide)
  · exact Nat.lt_irrefl _ h.2

/-- Insertion after what goes before it or equals it keeps a list in order (R128). -/
theorem pairwise_insertOrdered {α : Type} {b : α → α → Bool} {R : α → α → Prop} (spec : ∀ x y, b x y = true ↔ R x y)
    (trans : ∀ x y z, R x y → R y z → R x z) (irrefl : ∀ x, ¬ R x x) (x : α) {l : List α}
    (h : l.Pairwise fun y z => ¬ R z y) : (insertOrdered b x l).Pairwise fun y z => ¬ R z y := by
  induction l with
  | nil => exact List.pairwise_singleton _ _
  | cons y ys ih =>
    obtain ⟨first, rest⟩ := List.pairwise_cons.mp h
    unfold insertOrdered
    split
    · next before =>
      have before := (spec x y).mp before
      refine List.pairwise_cons.mpr ⟨fun z member later => ?_, h⟩
      rcases List.mem_cons.mp member with rfl | member
      · exact irrefl x (trans x z x before later)
      · exact first z member (trans z x y later before)
    · next notBefore =>
      refine List.pairwise_cons.mpr ⟨fun z member => ?_, ih rest⟩
      rcases (mem_insertOrdered b x z ys).mp member with rfl | member
      · exact fun later => notBefore ((spec z y).mpr later)
      · exact first z member

/-- The list is in the order of the keys that the records of a state have (R128, R131). -/
def State.InKeyOrder (s : State) (l : List ModuleIndex) : Prop :=
  l.Pairwise fun i j => ¬ GoesBefore (s.record j) (s.record i)

theorem State.InKeyOrder.insertByKey {s : State} {l : List ModuleIndex} (h : s.InKeyOrder l) (i : ModuleIndex) :
    s.InKeyOrder (s.insertByKey i l) :=
  pairwise_insertOrdered (R := fun x y => GoesBefore (s.record x) (s.record y)) (fun _ _ => keyBefore_iff)
    (fun _ _ _ => GoesBefore.trans) (fun _ => GoesBefore.irrefl _) i h

/-- What a key is made of: resolved grade, provisional mark, arrival number (R128). -/
def ModuleRecord.key (r : ModuleRecord) : Option Grade × Bool × Nat := (r.resolved, r.provisional, r.arrival)

theorem GoesBefore.of_key {x y x' y' : ModuleRecord} (hx : x'.key = x.key) (hy : y'.key = y.key) :
    GoesBefore x' y' ↔ GoesBefore x y := by
  obtain ⟨resolved, rest⟩ := Prod.mk.inj hx
  obtain ⟨provisional, arrival⟩ := Prod.mk.inj rest
  obtain ⟨resolved', rest'⟩ := Prod.mk.inj hy
  obtain ⟨provisional', arrival'⟩ := Prod.mk.inj rest'
  unfold GoesBefore
  rw [resolved, provisional, arrival, resolved', provisional', arrival']

theorem State.InKeyOrder.of_keys {s t : State} {l : List ModuleIndex} (h : s.InKeyOrder l)
    (keys : ∀ i ∈ l, (t.record i).key = (s.record i).key) : t.InKeyOrder l :=
  List.Pairwise.imp_of_mem (fun {i j} hi hj => (not_congr (GoesBefore.of_key (keys j hj) (keys i hi))).mpr) h

/-! ## The lists -/

section
set_option linter.unusedSimpArgs false
set_option linter.unnecessarySeqFocus false

/-- The Candidate Pool and the pool-wait list. -/
def PairingEngine.lists (e : PairingEngine) : List ModuleIndex × List ModuleIndex := (e.pool, e.poolWait)

@[simp] theorem PairingEngine.lists_choice (e : PairingEngine) (c : Option Choice) :
    PairingEngine.lists { e with choice := c } = e.lists := rfl

@[simp] theorem PairingEngine.lists_requests (e : PairingEngine) (l : List Request) :
    PairingEngine.lists { e with requests := l } = e.lists := rfl

@[simp] theorem State.wakeAll_lists (s : State) : s.wakeAll.pe.lists = s.pe.lists := rfl

@[simp] theorem State.withdraw_lists (s : State) (p : SlotId) : (s.withdraw p).pe.lists = s.pe.lists := rfl

@[simp] theorem State.updateRequest_lists (s : State) (p : SlotId) (f : Request → Request) :
    (s.updateRequest p f).pe.lists = s.pe.lists := rfl

@[simp] theorem State.setSelectedStatus_lists (s : State) (c : Choice) (st : RequestStatus) :
    (s.setSelectedStatus c st).pe.lists = s.pe.lists := rfl

@[simp] theorem State.rereadPriorities_lists (s : State) : s.rereadPriorities.pe.lists = s.pe.lists := rfl

@[simp] theorem State.applyGeometry_lists (s : State) (old new : BankSettings) :
    (s.applyGeometry old new).pe.lists = s.pe.lists := rfl

@[simp] theorem State.raiseRequest_lists (s : State) (p : SlotId) (k : RequestKind) (st : RequestStatus) :
    (s.raiseRequest p k st).pe.lists = s.pe.lists := by
  unfold State.raiseRequest State.raiseFitting
  split
  · split
    · rfl
    · split <;> rfl
  · rfl

@[simp] theorem State.recompute_lists (s : State) (i : Fin 8) : (s.recompute i).pe.lists = s.pe.lists := by
  unfold State.recompute
  dsimp only
  split <;> rfl

@[simp] theorem State.select_lists (s : State) (p : Policy) : (s.select p).pe.lists = s.pe.lists := by
  by_cases due : s.selectionConditions
  · obtain ⟨q, o, -, -, selected⟩ := select_due due p
    rw [selected]
    rfl
  · rw [select_not_due due]

@[simp] theorem State.selectIfDue_lists (s : State) : s.selectIfDue.pe.lists = s.pe.lists := s.select_lists _

@[simp] theorem State.tick_lists (s : State) : s.tick.pe.lists = s.pe.lists := rfl

@[simp] theorem State.tellStringMap_lists (s : State) (e : Evaluation) (x : Option Nat) (l : Location) :
    (s.tellStringMap e x l).pe.lists = s.pe.lists := by
  unfold State.tellStringMap
  (repeat' split) <;> simp

end

/-! ## VERDICT claims -/

theorem State.takeSample_claims (s : State) (f : Frame) : (s.takeSample f).rp.verdictClaims = s.rp.verdictClaims := by
  unfold State.takeSample State.admitSample State.enqueueRecord
  split
  · split
    · simp
    · split
      · split <;> simp [State.count]
      · simp
  · rfl

theorem State.forward_claims (s : State) (f : Frame) : (s.forward f).rp.verdictClaims = s.rp.verdictClaims := by
  unfold State.forward
  split <;> rfl

theorem State.deliverCommand_claims (s : State) (f : Frame) :
    (s.deliverCommand f).rp.verdictClaims = s.rp.verdictClaims := by
  unfold State.deliverCommand
  split <;> rfl

theorem State.classify_claims (s : State) (f : Frame) : (s.classify f).rp.verdictClaims = s.rp.verdictClaims := by
  unfold State.classify
  split
  · rfl
  · exact s.deliverCommand_claims f
  · exact (State.deliverCommand_claims _ f).trans (s.forward_claims f)
  · exact (State.takeSample_claims _ f).trans (s.forward_claims f)
  · exact s.forward_claims f

theorem State.endFrame_claims (s : State) : s.endFrame.rp.verdictClaims = s.rp.verdictClaims := by
  unfold State.endFrame
  split
  · rfl
  · dsimp only
    split
    · exact State.classify_claims _ _
    · rfl

theorem State.linkLogic_claims (s : State) (c : Character) :
    (s.linkLogic c).rp.verdictClaims = s.rp.verdictClaims := by
  unfold State.linkLogic
  split
  · split <;> rfl
  · split
    · unfold State.confirmFill State.enterLocked
      dsimp only
      (repeat' split) <;> rfl
    · rfl
  · unfold State.lockedCharacter
    dsimp only
    split
    · unfold State.loseSync State.discardAssembly
      dsimp only
      split <;> rfl
    · unfold State.frameLogic
      split
      · exact State.endFrame_claims _
      · exact State.endFrame_claims _
      · rfl
      · rfl

/-- Reception raises and withdraws no VERDICT claim. -/
theorem State.receive_claims (s : State) (c : LineCharacter) :
    (s.receive c).rp.verdictClaims = s.rp.verdictClaims := by
  unfold State.receive
  split
  · rfl
  · split
    · rfl
    · exact State.linkLogic_claims (s.setRing { s.rp with awaitingHigh := Character.error _ }) _

end Sys2Proof.Machine
end

section
/-! SUPPORT. The pool and the module records in agreement (R127 to R132, R39, R42, R52), also between the parts of an
operation, where the records of a few modules are on their way. -/

namespace Sys2Proof.Machine

/-- GRADED pool-waiting: departed, no verdict pending, graded A to D (R39). -/
theorem ModuleRecord.poolWaiting_iff (r : ModuleRecord) : r.poolWaiting = true ↔
    r.state = .graded ∧ r.departed = true ∧ r.verdict = none ∧ poolable r.resolved = true := by
  unfold ModuleRecord.poolWaiting
  cases r.resolved with
  | none => simp [poolable]
  | some g => cases g <;> simp [poolable, and_assoc]

theorem ModuleRecord.poolWaiting_of_not_graded {r : ModuleRecord} (h : r.state ≠ .graded) : r.poolWaiting = false :=
  Bool.eq_false_iff.mpr fun waits => h (r.poolWaiting_iff.mp waits).1

theorem ModuleRecord.poolWaiting_of_verdict {r : ModuleRecord} (h : r.verdict ≠ none) : r.poolWaiting = false :=
  Bool.eq_false_iff.mpr fun waits => h (r.poolWaiting_iff.mp waits).2.2.1

/-- A record that is in no list and is as `PoolAgrees` wants it there. -/
structure ModuleRecord.Plain (r : ModuleRecord) : Prop where
  notPooled  : r.state ≠ .pooled
  notWaiting : r.poolWaiting = false
  noVerdict  : r.verdict = none
  departed   : r.departed = true → r.state = .graded
  assigned   : r.state = .assigned → poolable r.resolved = true

/-- A record of a state that no list is for. -/
theorem ModuleRecord.Plain.of_state {r : ModuleRecord} (notPooled : r.state ≠ .pooled) (notGraded : r.state ≠ .graded)
    (noVerdict : r.verdict = none) (departed : r.departed = false)
    (assigned : r.state = .assigned → poolable r.resolved = true) : r.Plain where
  notPooled := notPooled
  notWaiting := ModuleRecord.poolWaiting_of_not_graded notGraded
  noVerdict := noVerdict
  departed gone := by rw [departed] at gone; cases gone
  assigned := assigned

theorem ModuleRecord.Plain.freed (r : ModuleRecord) : r.freed.Plain := .of_state nofun nofun rfl rfl nofun

/-- Pool, pool-wait list and claims are exactly what the records but for those on their way (`away`) call for, and those
are in no list. -/
structure PoolListed (away : List ModuleIndex) (s : State) : Prop where
  members    : ∀ i, i ∈ s.pe.pool ↔ i ∉ away ∧ (s.record i).state = .pooled
  once       : s.pe.pool.Nodup
  room       : s.pe.pool.length ≤ 64
  inOrder    : s.InKeyOrder s.pe.pool
  waiting    : ∀ i, i ∈ s.pe.poolWait ↔ i ∉ away ∧ (s.record i).poolWaiting = true
  waitOnce   : s.pe.poolWait.Nodup
  waitOrder  : s.InKeyOrder s.pe.poolWait
  verdicts   : ∀ i, i ∉ away → (s.record i).verdict ≠ none → (s.record i).state = .graded
  claims     : ∀ i, i ∈ s.rp.verdictClaims ↔ i ∉ away ∧ (s.record i).verdict ≠ none
  claimsOnce : s.rp.verdictClaims.Nodup
  departed   : ∀ i, i ∉ away → (s.record i).departed = true → (s.record i).state = .graded
  graded     : ∀ i, i ∉ away → (s.record i).state = .pooled ∨ (s.record i).state = .assigned →
    poolable (s.record i).resolved = true

/-- Records wait for the pool only while it is full (R131). -/
def State.PoolFull (s : State) : Prop := s.pe.poolWait ≠ [] → s.pe.pool.length = 64

theorem poolAgrees_iff (s : State) : PoolAgrees s ↔ PoolListed [] s ∧ s.PoolFull where
  mp h :=
    ⟨⟨by simpa using h.members, h.once, h.room, h.inOrder, by simpa using h.waiting, h.waitOnce, h.waitOrder,
      fun i _ => h.verdicts i, by simpa using h.claims, h.claimsOnce, fun i _ => h.departed i,
      fun i _ => h.graded i⟩, h.full⟩
  mpr h := by
    obtain ⟨⟨members, once, room, inOrder, waiting, waitOnce, waitOrder, verdicts, claims, claimsOnce, departed,
      graded⟩, full⟩ := h
    exact ⟨by simpa using members, once, room, inOrder, by simpa using waiting, waitOnce, waitOrder, full,
      fun i => verdicts i List.not_mem_nil, by simpa using claims, claimsOnce, fun i => departed i List.not_mem_nil,
      fun i => graded i List.not_mem_nil⟩

/-- Two records alike for the lists, the second of them as `PoolAgrees` wants it. -/
structure ModuleRecord.Alike (r x : ModuleRecord) : Prop where
  pooled   : x.state = .pooled ↔ r.state = .pooled
  waiting  : x.poolWaiting = r.poolWaiting
  verdict  : x.verdict ≠ none ↔ r.verdict ≠ none
  key      : r.state = .pooled ∨ r.poolWaiting = true → x.key = r.key
  verdicts : x.verdict ≠ none → x.state = .graded
  departed : x.departed = true → x.state = .graded
  graded   : x.state = .pooled ∨ x.state = .assigned → poolable x.resolved = true

theorem ModuleRecord.Alike.of_plain {r x : ModuleRecord} (h : r.Plain) (k : x.Plain) : r.Alike x where
  pooled := iff_of_false k.notPooled h.notPooled
  waiting := k.notWaiting.trans h.notWaiting.symm
  verdict := by rw [k.noVerdict, h.noVerdict]
  key listed := by
    rcases listed with pooled | waiting
    · exact absurd pooled h.notPooled
    · rw [h.notWaiting] at waiting
      cases waiting
  verdicts some := absurd k.noVerdict some
  departed := k.departed
  graded := fun
    | .inl pooled => absurd pooled k.notPooled
    | .inr assigned => k.assigned assigned

/-- The fields of a record that the lists and their order depend on. -/
structure ModuleRecord.SameView (r x : ModuleRecord) : Prop where
  state    : x.state = r.state
  verdict  : x.verdict = r.verdict
  departed : x.departed = r.departed
  key      : x.key = r.key

theorem ModuleRecord.SameView.refl (r : ModuleRecord) : r.SameView r := ⟨rfl, rfl, rfl, rfl⟩

theorem ModuleRecord.SameView.trans {r x y : ModuleRecord} (h : r.SameView x) (k : x.SameView y) : r.SameView y :=
  ⟨k.state.trans h.state, k.verdict.trans h.verdict, k.departed.trans h.departed, k.key.trans h.key⟩

theorem ModuleRecord.SameView.poolWaiting {r x : ModuleRecord} (h : r.SameView x) : x.poolWaiting = r.poolWaiting := by
  have resolved : x.resolved = r.resolved := congrArg Prod.fst h.key
  rw [ModuleRecord.poolWaiting, h.state, h.departed, h.verdict, resolved, ModuleRecord.poolWaiting]

namespace PoolListed

variable {away : List ModuleIndex} {s t : State}

/-- What leaves the lists and every record alike keeps the agreement. -/
theorem of_alike (h : PoolListed away s) (lists : t.pe.lists = s.pe.lists)
    (claims : t.rp.verdictClaims = s.rp.verdictClaims)
    (alike : ∀ i, i ∉ away → (s.record i).Alike (t.record i)) : PoolListed away t := by
  obtain ⟨pool, wait⟩ := Prod.mk.inj lists
  refine ⟨fun i => ?_, pool ▸ h.once, pool ▸ h.room, ?_, fun i => ?_, wait ▸ h.waitOnce, ?_,
    fun i away => (alike i away).verdicts, fun i => ?_, claims ▸ h.claimsOnce, fun i away => (alike i away).departed,
    fun i away => (alike i away).graded⟩
  · rw [pool, h.members i]
    exact and_congr_right fun here => (alike i here).pooled.symm
  · rw [pool]
    refine h.inOrder.of_keys fun i member => ?_
    obtain ⟨here, pooled⟩ := (h.members i).mp member
    exact (alike i here).key (.inl pooled)
  · rw [wait, h.waiting i]
    exact and_congr_right fun here => by rw [(alike i here).waiting]
  · rw [wait]
    refine h.waitOrder.of_keys fun i member => ?_
    obtain ⟨here, waiting⟩ := (h.waiting i).mp member
    exact (alike i here).key (.inr waiting)
  · rw [claims, h.claims i]
    exact and_congr_right fun here => (alike i here).verdict.symm

/-- A record of which the lists depend on nothing that changed is alike. -/
theorem alike_of_view (h : PoolListed away s) {i : ModuleIndex} (here : i ∉ away) {x : ModuleRecord}
    (view : (s.record i).SameView x) : (s.record i).Alike x where
  pooled := by rw [view.state]
  waiting := view.poolWaiting
  verdict := by rw [view.verdict]
  key _ := view.key
  verdicts := by rw [view.verdict, view.state]; exact h.verdicts i here
  departed := by rw [view.departed, view.state]; exact h.departed i here
  graded := by rw [view.state, show x.resolved = (s.record i).resolved from congrArg Prod.fst view.key]; exact h.graded i here

theorem of_view (h : PoolListed away s) (lists : t.pe.lists = s.pe.lists)
    (claims : t.rp.verdictClaims = s.rp.verdictClaims) (view : ∀ i, (s.record i).SameView (t.record i)) :
    PoolListed away t :=
  h.of_alike lists claims fun i here => h.alike_of_view here (view i)

theorem of_eq (h : PoolListed away s) (lists : t.pe.lists = s.pe.lists)
    (claims : t.rp.verdictClaims = s.rp.verdictClaims) (mr : t.mr.records = s.mr.records) : PoolListed away t :=
  h.of_view lists claims fun i => by rw [State.record, State.record, mr]; exact .refl _

/-- One record changed to one alike. -/
theorem setRecord (h : PoolListed away s) {i : ModuleIndex} {r : ModuleRecord}
    (alike : i ∉ away → (s.record i).Alike r) : PoolListed away (s.setRecord i r) := by
  refine h.of_alike rfl rfl fun j here => ?_
  rw [State.record_setRecord]
  split
  · next same => exact same ▸ alike (same ▸ here)
  · exact h.alike_of_view here (.refl _)

/-- A record on its way may change. -/
theorem change (h : PoolListed away s) {i : ModuleIndex} (gone : i ∈ away) (r : ModuleRecord) :
    PoolListed away (s.setRecord i r) := h.setRecord fun here => absurd gone here

/-- Where a property fails of a record, it makes no difference to the property's others whether that one is on its way. -/
theorem away_iff_cons {Q : ModuleIndex → Prop} {i : ModuleIndex} (never : ¬ Q i) (j : ModuleIndex) :
    j ∉ away ∧ Q j ↔ j ∉ i :: away ∧ Q j := by
  simp only [List.mem_cons, not_or]
  exact ⟨fun ⟨here, holds⟩ => ⟨⟨fun same => never (same ▸ holds), here⟩, holds⟩, fun ⟨⟨_, here⟩, holds⟩ => ⟨here, holds⟩⟩

/-- Records that are in no list may set out. -/
theorem detach (h : PoolListed away s) {i : ModuleIndex} (plain : (s.record i).Plain) : PoolListed (i :: away) s := by
  refine { h with
    members := fun j => (h.members j).trans (away_iff_cons (Q := fun j => (s.record j).state = .pooled) plain.notPooled j)
    waiting := fun j => (h.waiting j).trans
      (away_iff_cons (Q := fun j => (s.record j).poolWaiting = true) (by simp [plain.notWaiting]) j)
    claims := fun j => (h.claims j).trans (away_iff_cons (Q := fun j => (s.record j).verdict ≠ none) (by simp [plain.noVerdict]) j)
    verdicts := fun j here => h.verdicts j fun gone => here (List.mem_cons_of_mem _ gone)
    departed := fun j here => h.departed j fun gone => here (List.mem_cons_of_mem _ gone)
    graded := fun j here => h.graded j fun gone => here (List.mem_cons_of_mem _ gone) }

/-- A record on its way has arrived: it stands now in the lists that are for it. -/
theorem land {i : ModuleIndex} {r : ModuleRecord} (h : PoolListed (i :: away) s) (here : i ∉ away)
    (record : ∀ j, t.record j = if i = j then r else s.record j)
    (pool : ∀ j, j ∈ t.pe.pool ↔ j ∈ s.pe.pool ∨ j = i ∧ r.state = .pooled) (once : t.pe.pool.Nodup)
    (room : t.pe.pool.length ≤ 64) (inOrder : t.InKeyOrder t.pe.pool)
    (wait : ∀ j, j ∈ t.pe.poolWait ↔ j ∈ s.pe.poolWait ∨ j = i ∧ r.poolWaiting = true) (waitOnce : t.pe.poolWait.Nodup)
    (waitOrder : t.InKeyOrder t.pe.poolWait)
    (claims : ∀ j, j ∈ t.rp.verdictClaims ↔ j ∈ s.rp.verdictClaims ∨ j = i ∧ r.verdict ≠ none)
    (claimsOnce : t.rp.verdictClaims.Nodup)
    (valid : (r.verdict ≠ none → r.state = .graded) ∧ (r.departed = true → r.state = .graded) ∧
      (r.state = .pooled ∨ r.state = .assigned → poolable r.resolved = true)) : PoolListed away t := by
  have listed : ∀ {Q : ModuleRecord → Prop} {l : ModuleIndex → Prop}, (∀ j, l j ↔ j ∉ i :: away ∧ Q (s.record j)) →
      ∀ j, (l j ∨ j = i ∧ Q r ↔ j ∉ away ∧ Q (t.record j)) := by
    intro Q l old j
    rw [old, record]
    by_cases same : i = j
    · subst same
      simp [here]
    · simp [same, Ne.symm same]
  have holds : ∀ {Q : ModuleRecord → Prop}, (∀ j, j ∉ i :: away → Q (s.record j)) → Q r →
      ∀ j, j ∉ away → Q (t.record j) := by
    intro Q old new j present
    rw [record]
    split
    · exact new
    · next differs => exact old j (by simp [Ne.symm differs, present])
  obtain ⟨verdicts, departed, graded⟩ := valid
  exact
    { members := fun j => (pool j).trans (listed (Q := fun r => r.state = .pooled) h.members j)
      once := once
      room := room
      inOrder := inOrder
      waiting := fun j => (wait j).trans (listed (Q := fun r => r.poolWaiting = true) h.waiting j)
      waitOnce := waitOnce
      waitOrder := waitOrder
      verdicts := holds (Q := fun r => r.verdict ≠ none → r.state = .graded) h.verdicts verdicts
      claims := fun j => (claims j).trans (listed (Q := fun r => r.verdict ≠ none) h.claims j)
      claimsOnce := claimsOnce
      departed := holds (Q := fun r => r.departed = true → r.state = .graded) h.departed departed
      graded := holds (Q := fun r => r.state = .pooled ∨ r.state = .assigned → poolable r.resolved = true) h.graded
        graded }

/-- A record on its way arrives as one that no list is for. -/
theorem arrive {i : ModuleIndex} (h : PoolListed (i :: away) s) (here : i ∉ away) {r : ModuleRecord} (plain : r.Plain) :
    PoolListed away (s.setRecord i r) := by
  have changed := h.change List.mem_cons_self r
  exact h.land here (State.record_setRecord s i · r) (by simp [plain.notPooled]) h.once h.room changed.inOrder
    (by simp [plain.notWaiting]) h.waitOnce changed.waitOrder (by simp [plain.noVerdict]) h.claimsOnce
    ⟨fun some => absurd plain.noVerdict some, plain.departed, fun
      | .inl pooled => absurd pooled plain.notPooled
      | .inr assigned => plain.assigned assigned⟩

/-- A record of a state that no list is for is in none. -/
theorem plain (h : PoolListed away s) {i : ModuleIndex} (here : i ∉ away) (notPooled : (s.record i).state ≠ .pooled)
    (notGraded : (s.record i).state ≠ .graded) : (s.record i).Plain where
  notPooled := notPooled
  notWaiting := ModuleRecord.poolWaiting_of_not_graded notGraded
  noVerdict := by
    by_contra some
    exact notGraded (h.verdicts i here some)
  departed := h.departed i here
  assigned state := h.graded i here (.inr state)

/-- A member leaves the pool and is on its way (R129). -/
theorem drop (h : PoolListed away s) {i : ModuleIndex} (pooled : (s.record i).state = .pooled) (here : i ∉ away) :
    PoolListed (i :: away) (s.dropFromPool i) := by
  have notGraded : (s.record i).state ≠ .graded := by rw [pooled]; decide
  have noVerdict : (s.record i).verdict = none := by
    by_contra some
    exact notGraded (h.verdicts i here some)
  have notWaiting : (s.record i).poolWaiting ≠ true := by simp [ModuleRecord.poolWaiting_of_not_graded notGraded]
  refine
    { members := fun j => ?_
      once := h.once.erase i
      room := (List.erase_sublist.length_le).trans h.room
      inOrder := List.Pairwise.sublist List.erase_sublist h.inOrder
      waiting := fun j => (h.waiting j).trans (away_iff_cons (Q := fun j => (s.record j).poolWaiting = true) notWaiting j)
      waitOnce := h.waitOnce
      waitOrder := h.waitOrder
      verdicts := fun j here => h.verdicts j fun gone => here (List.mem_cons_of_mem _ gone)
      claims := fun j => (h.claims j).trans (away_iff_cons (Q := fun j => (s.record j).verdict ≠ none) (by simp [noVerdict]) j)
      claimsOnce := h.claimsOnce
      departed := fun j here => h.departed j fun gone => here (List.mem_cons_of_mem _ gone)
      graded := fun j here => h.graded j fun gone => here (List.mem_cons_of_mem _ gone) }
  refine (h.once.mem_erase_iff).trans ?_
  rw [h.members j, List.mem_cons, not_or, and_assoc]
  rfl

/-- A record leaves the pool-wait list and is on its way (R132). -/
theorem unwait (h : PoolListed away s) {i : ModuleIndex} (waiting : (s.record i).poolWaiting = true) :
    PoolListed (i :: away) (s.leavePoolWait i) := by
  obtain ⟨graded, -, noVerdict, -⟩ := (ModuleRecord.poolWaiting_iff _).mp waiting
  have notPooled : (s.record i).state ≠ .pooled := by rw [graded]; decide
  refine
    { members := fun j => (h.members j).trans (away_iff_cons (Q := fun j => (s.record j).state = .pooled) notPooled j)
      once := h.once
      room := h.room
      inOrder := h.inOrder
      waiting := fun j => ?_
      waitOnce := h.waitOnce.erase i
      waitOrder := List.Pairwise.sublist List.erase_sublist h.waitOrder
      verdicts := fun j here => h.verdicts j fun gone => here (List.mem_cons_of_mem _ gone)
      claims := fun j => (h.claims j).trans (away_iff_cons (Q := fun j => (s.record j).verdict ≠ none) (by simp [noVerdict]) j)
      claimsOnce := h.claimsOnce
      departed := fun j here => h.departed j fun gone => here (List.mem_cons_of_mem _ gone)
      graded := fun j here => h.graded j fun gone => here (List.mem_cons_of_mem _ gone) }
  refine (h.waitOnce.mem_erase_iff).trans ?_
  rw [h.waiting j, List.mem_cons, not_or, and_assoc]
  rfl

/-- A record on its way enters the pool where there is room (R129). -/
theorem enter {i : ModuleIndex} (h : PoolListed (i :: away) s) (here : i ∉ away)
    (graded : poolable (s.record i).resolved = true) (noVerdict : (s.record i).verdict = none)
    (room : s.pe.pool.length < 64) : PoolListed away (s.enterPool i) := by
  have changed := h.change List.mem_cons_self (s.record i).pooled
  have absent : i ∉ s.pe.pool := fun member => ((h.members i).mp member).1 List.mem_cons_self
  have pool : (s.enterPool i).pe.pool = (s.setRecord i (s.record i).pooled).insertByKey i s.pe.pool := rfl
  refine h.land here (t := s.enterPool i) (State.record_setRecord s i · (s.record i).pooled) (fun j => ?_)
    (pool ▸ nodup_insertOrdered _ _ _ absent h.once) ?_ (changed.inOrder.insertByKey i) (fun j => ?_) h.waitOnce
    changed.waitOrder (fun j => ?_) h.claimsOnce ⟨fun some => absurd noVerdict some, (nomatch ·), fun _ => graded⟩
  · rw [pool, State.insertByKey, mem_insertOrdered, or_comm]
    simp [ModuleRecord.pooled]
  · rw [pool, State.insertByKey, length_insertOrdered]
    exact room
  · exact (or_iff_left fun ⟨_, waits⟩ => nomatch waits).symm
  · exact (or_iff_left fun ⟨_, pending⟩ => pending noVerdict).symm

theorem poolWaiting_waitsForPool {r : ModuleRecord} (graded : poolable r.resolved = true) :
    r.waitsForPool.poolWaiting = true := (ModuleRecord.poolWaiting_iff _).mpr ⟨rfl, rfl, rfl, graded⟩

/-- A record on its way enters the pool-wait list (R130). -/
theorem wait {i : ModuleIndex} (h : PoolListed (i :: away) s) (here : i ∉ away)
    (graded : poolable (s.record i).resolved = true) : PoolListed away (s.enterPoolWait i) := by
  have changed := h.change List.mem_cons_self (s.record i).waitsForPool
  have absent : i ∉ s.pe.poolWait := fun member => ((h.waiting i).mp member).1 List.mem_cons_self
  have list : (s.enterPoolWait i).pe.poolWait = (s.setRecord i (s.record i).waitsForPool).insertByKey i s.pe.poolWait :=
    rfl
  refine h.land here (t := s.enterPoolWait i) (State.record_setRecord s i · (s.record i).waitsForPool) (fun j => ?_)
    h.once h.room changed.inOrder (fun j => ?_) (list ▸ nodup_insertOrdered _ _ _ absent h.waitOnce)
    (changed.waitOrder.insertByKey i) (fun j => ?_) h.claimsOnce ⟨fun _ => rfl, fun _ => rfl, fun _ => graded⟩
  · exact (or_iff_left fun ⟨_, pooled⟩ => nomatch pooled).symm
  · rw [list, State.insertByKey, mem_insertOrdered, or_comm, poolWaiting_waitsForPool graded]
    simp
  · exact (or_iff_left fun ⟨_, pending⟩ => pending rfl).symm

/-- A GRADED record on its way has a verdict made and its claim raised (R92, R14). -/
theorem verdict {i : ModuleIndex} (h : PoolListed (i :: away) s) (here : i ∉ away) (graded : (s.record i).state = .graded)
    (k : VerdictKind) : PoolListed away (s.makeVerdict i k) := by
  have changed := h.change List.mem_cons_self { s.record i with
    verdict := some { kind := k, sequence := s.ge.verdictCounter } }
  have absent : i ∉ s.rp.verdictClaims := fun member => ((h.claims i).mp member).1 List.mem_cons_self
  refine h.land here (t := s.makeVerdict i k) (State.record_setRecord s i · _) (fun j => ?_) h.once h.room
    changed.inOrder (fun j => ?_) h.waitOnce changed.waitOrder (fun j => ?_) ?_
    ⟨fun _ => graded, fun _ => graded, fun listed => ?_⟩
  · exact (or_iff_left fun ⟨_, pooled⟩ => by rw [graded] at pooled; cases pooled).symm
  · refine (or_iff_left fun ⟨_, waits⟩ => ?_).symm
    cases ((ModuleRecord.poolWaiting_iff _).mp waits).2.2.1
  · change j ∈ s.rp.verdictClaims ++ [i] ↔ _
    simp
  · exact List.nodup_append.mpr ⟨h.claimsOnce, by simp, fun a member b single => by
      obtain rfl := List.mem_singleton.mp single
      exact fun same => absent (same ▸ member)⟩
  · replace listed : (s.record i).state = .pooled ∨ (s.record i).state = .assigned := listed
    rw [graded] at listed
    exact absurd listed (by decide)

/-- The claim of a pending verdict is taken, and its record is on its way (R14, R94). -/
theorem unclaim (h : PoolListed away s) {i : ModuleIndex} (pending : (s.record i).verdict ≠ none) (here : i ∉ away) :
    PoolListed (i :: away) (s.setRing { s.rp with verdictClaims := s.rp.verdictClaims.erase i }) := by
  have graded := h.verdicts i here pending
  have notPooled : (s.record i).state ≠ .pooled := by rw [graded]; decide
  have notWaiting : (s.record i).poolWaiting ≠ true := by simp [ModuleRecord.poolWaiting_of_verdict pending]
  refine { h with
    members := fun j => (h.members j).trans (away_iff_cons (Q := fun j => (s.record j).state = .pooled) notPooled j)
    waiting := fun j => (h.waiting j).trans (away_iff_cons (Q := fun j => (s.record j).poolWaiting = true) notWaiting j)
    verdicts := fun j here => h.verdicts j fun gone => here (List.mem_cons_of_mem _ gone)
    claims := fun j => ?_
    claimsOnce := h.claimsOnce.erase i
    departed := fun j here => h.departed j fun gone => here (List.mem_cons_of_mem _ gone)
    graded := fun j here => h.graded j fun gone => here (List.mem_cons_of_mem _ gone) }
  refine (h.claimsOnce.mem_erase_iff).trans ?_
  rw [h.claims j, List.mem_cons, not_or, and_assoc]
  rfl

end PoolListed

/-! ## Promotion and what becomes of a departed record -/

/-- The pool is as full as the pool-wait list needs, or lacks the one that a promotion gives it (R131). -/
theorem State.promote_listed {away : List ModuleIndex} {s : State} (h : PoolListed away s)
    (short : s.pe.poolWait ≠ [] → s.pe.pool.length = 63) : PoolListed away s.promote ∧ s.promote.PoolFull := by
  unfold State.promote
  split
  · next none => exact ⟨h, fun some => absurd none some⟩
  · next i rest list =>
    have length := short (by rw [list]; exact List.cons_ne_nil _ _)
    have listed : i ∈ s.pe.poolWait := by rw [list]; exact List.mem_cons_self
    obtain ⟨here, waits⟩ := (h.waiting i).mp listed
    have left : PoolListed (i :: away) (s.setPoolWait rest) := by
      have erased := h.unwait waits
      rwa [State.leavePoolWait, list, List.erase_cons_head] at erased
    obtain ⟨-, -, noVerdict, graded⟩ := (ModuleRecord.poolWaiting_iff _).mp waits
    refine ⟨left.enter here graded noVerdict (by change s.pe.pool.length < 64; omega), fun _ => ?_⟩
    change (State.insertByKey _ i s.pe.pool).length = 64
    rw [State.insertByKey, length_insertOrdered, length]

namespace PoolListed

variable {away : List ModuleIndex} {s : State}

/-- A record on its way enters the pool or waits for it (R52, R130). -/
theorem enterOrWait {i : ModuleIndex} (h : PoolListed (i :: away) s) (full : s.PoolFull) (here : i ∉ away)
    (graded : poolable (s.record i).resolved = true) (noVerdict : (s.record i).verdict = none) :
    PoolListed away (s.enterPoolOrWait i) ∧ (s.enterPoolOrWait i).PoolFull := by
  unfold State.enterPoolOrWait State.poolHasRoom Config.poolRoom
  split
  · next room =>
    have room : s.pe.pool.length < 64 := of_decide_eq_true room
    refine ⟨h.enter here graded noVerdict room, fun waits => ?_⟩
    exact absurd (full waits) (Nat.ne_of_lt room)
  · next crowded =>
    have crowded : ¬ s.pe.pool.length < 64 := by simpa using crowded
    exact ⟨h.wait here graded, fun _ => Nat.le_antisymm h.room (Nat.le_of_not_lt crowded)⟩

/-- What becomes of a departed GRADED record with no verdict pending (R52). -/
theorem goOn {i : ModuleIndex} (h : PoolListed (i :: away) s) (full : s.PoolFull) (here : i ∉ away)
    (noVerdict : (s.record i).verdict = none) : PoolListed away (s.goOn i) ∧ (s.goOn i).PoolFull := by
  unfold State.goOn
  split
  · next graded => exact h.enterOrWait full here graded noVerdict
  · exact ⟨h.arrive here (.freed _), full⟩

end PoolListed

end Sys2Proof.Machine
end

section
/-! SUPPORT. Each operation keeps the pool and the records in agreement, and so does every event. -/

namespace Sys2Proof.Machine

/-- A record that leaves a state that no list is for, to another such state. -/
theorem ModuleRecord.Plain.moved {r x : ModuleRecord} (h : r.Plain) (notGraded : r.state ≠ .graded)
    (verdict : x.verdict = r.verdict) (departed : x.departed = r.departed)
    (state : x.state ≠ .pooled ∧ x.state ≠ .graded ∧ x.state ≠ .assigned) : x.Plain := by
  obtain ⟨notPooled, notGraded', notAssigned⟩ := state
  refine .of_state notPooled notGraded' (verdict.trans h.noVerdict) ?_ fun assigned => absurd assigned notAssigned
  rw [departed]
  exact Bool.eq_false_iff.mpr fun gone => notGraded (h.departed gone)

/-- The states of a module in service (R81). -/
def ModuleState.serving (st : ModuleState) : Prop := st = .inService ∨ st = .watch ∨ st = .outbound

/-- A claim on a module of states that no list is for, to another such state. -/
theorem PoolListed.claim {away : List ModuleIndex} {s : State} (h : PoolListed away s) {m : ModuleRef}
    {l : List ModuleState} {f : ModuleRecord → ModuleRecord} (here : m.index ∉ away)
    (states : ∀ st ∈ l, st ≠ .pooled ∧ st ≠ .graded)
    (plain : ∀ r : ModuleRecord, r.Plain → r.state ∈ l → (f r).Plain) : PoolListed away (s.claim m l f) := by
  by_cases found : s.standsIn m l
  · rw [State.claim_applied found]
    have state := found.2
    obtain ⟨notPooled, notGraded⟩ := states _ state
    have before := h.plain here notPooled notGraded
    exact h.setRecord fun _ => .of_plain before (plain _ before state)
  · rw [State.claim_declined found]
    exact h

/-- Lists and records agree but for the records on their way, and records wait only for a full pool. -/
structure PoolRight (away : List ModuleIndex) (s : State) : Prop where
  listed : PoolListed away s
  full   : s.PoolFull

theorem poolAgrees_iff_right (s : State) : PoolAgrees s ↔ PoolRight [] s :=
  (poolAgrees_iff s).trans ⟨fun ⟨listed, full⟩ => ⟨listed, full⟩, fun ⟨listed, full⟩ => ⟨listed, full⟩⟩

namespace PoolRight

variable {away : List ModuleIndex} {s t : State}

theorem of_alike (h : PoolRight away s) (lists : t.pe.lists = s.pe.lists)
    (claims : t.rp.verdictClaims = s.rp.verdictClaims)
    (alike : ∀ i, i ∉ away → (s.record i).Alike (t.record i)) : PoolRight away t := by
  refine ⟨h.listed.of_alike lists claims alike, ?_⟩
  obtain ⟨pool, wait⟩ := Prod.mk.inj lists
  rw [State.PoolFull, pool, wait]
  exact h.full

theorem of_view (h : PoolRight away s) (lists : t.pe.lists = s.pe.lists)
    (claims : t.rp.verdictClaims = s.rp.verdictClaims) (view : ∀ i, (s.record i).SameView (t.record i)) :
    PoolRight away t := h.of_alike lists claims fun i here => h.listed.alike_of_view here (view i)

theorem of_eq (h : PoolRight away s) (lists : t.pe.lists = s.pe.lists)
    (claims : t.rp.verdictClaims = s.rp.verdictClaims) (mr : t.mr.records = s.mr.records) : PoolRight away t :=
  h.of_view lists claims fun i => by rw [State.record, State.record, mr]; exact .refl _

theorem setRecord (h : PoolRight away s) {i : ModuleIndex} {r : ModuleRecord}
    (alike : i ∉ away → (s.record i).Alike r) : PoolRight away (s.setRecord i r) :=
  ⟨h.listed.setRecord alike, h.full⟩

theorem change (h : PoolRight away s) {i : ModuleIndex} (gone : i ∈ away) (r : ModuleRecord) :
    PoolRight away (s.setRecord i r) := ⟨h.listed.change gone r, h.full⟩

theorem detach (h : PoolRight away s) {i : ModuleIndex} (plain : (s.record i).Plain) : PoolRight (i :: away) s :=
  ⟨h.listed.detach plain, h.full⟩

theorem arrive {i : ModuleIndex} (h : PoolRight (i :: away) s) (here : i ∉ away) {r : ModuleRecord} (plain : r.Plain) :
    PoolRight away (s.setRecord i r) := ⟨h.listed.arrive here plain, h.full⟩

theorem verdict {i : ModuleIndex} (h : PoolRight (i :: away) s) (here : i ∉ away) (graded : (s.record i).state = .graded)
    (k : VerdictKind) : PoolRight away (s.makeVerdict i k) := ⟨h.listed.verdict here graded k, h.full⟩

theorem goOn {i : ModuleIndex} (h : PoolRight (i :: away) s) (here : i ∉ away) (noVerdict : (s.record i).verdict = none) :
    PoolRight away (s.goOn i) := by
  obtain ⟨listed, full⟩ := h.listed.goOn h.full here noVerdict
  exact ⟨listed, full⟩

theorem unwait (h : PoolRight away s) {i : ModuleIndex} (waiting : (s.record i).poolWaiting = true) :
    PoolRight (i :: away) (s.leavePoolWait i) :=
  ⟨h.listed.unwait waiting, fun some => h.full fun none => some (by
    change s.pe.poolWait.erase i = []
    rw [none]
    rfl)⟩

/-- Once a member left a full pool, the pool is one short. -/
theorem short (h : PoolRight away s) {i : ModuleIndex} (pooled : (s.record i).state = .pooled) (here : i ∉ away) :
    (s.dropFromPool i).pe.poolWait ≠ [] → (s.dropFromPool i).pe.pool.length = 63 := by
  intro waits
  have member := (h.listed.members i).mpr ⟨here, pooled⟩
  have length : (s.pe.pool.erase i).length = s.pe.pool.length - 1 := List.length_erase_of_mem member
  exact length.trans (by rw [h.full waits])

/-- A member leaves the pool, and the first waiting record takes its place (R131). -/
theorem leave (h : PoolRight away s) {i : ModuleIndex} (pooled : (s.record i).state = .pooled) (here : i ∉ away) :
    PoolRight (i :: away) (s.leavePool i) := by
  obtain ⟨listed, full⟩ := State.promote_listed (h.listed.drop pooled here) (h.short pooled here)
  exact ⟨listed, full⟩

/-- A member's record changes to one that no list is for, and it leaves the pool with the promotion (R131). -/
theorem leaveAs (h : PoolRight away s) {i : ModuleIndex} (pooled : (s.record i).state = .pooled) (here : i ∉ away)
    {r : ModuleRecord} (plain : r.Plain) : PoolRight away ((s.setRecord i r).leavePool i) := by
  obtain ⟨listed, full⟩ := State.promote_listed (s := (s.dropFromPool i).setRecord i r)
    ((h.listed.drop pooled here).arrive here plain) (h.short pooled here)
  exact ⟨listed, full⟩

/-- A waiting record changes to one that no list is for, and leaves the pool-wait list (R132). -/
theorem unwaitAs (h : PoolRight away s) {i : ModuleIndex} (waiting : (s.record i).poolWaiting = true) (here : i ∉ away)
    {r : ModuleRecord} (plain : r.Plain) : PoolRight away ((s.setRecord i r).leavePoolWait i) :=
  PoolRight.arrive (s := s.leavePoolWait i) (h.unwait waiting) here plain

/-- A claim on a module of states that no list is for, to another such state. -/
theorem claim (h : PoolRight away s) {m : ModuleRef} {l : List ModuleState} {f : ModuleRecord → ModuleRecord}
    (here : m.index ∉ away) (states : ∀ st ∈ l, st ≠ .pooled ∧ st ≠ .graded)
    (plain : ∀ r : ModuleRecord, r.Plain → r.state ∈ l → (f r).Plain) : PoolRight away (s.claim m l f) := by
  refine ⟨h.listed.claim here states plain, ?_⟩
  rw [State.PoolFull, show (s.claim m l f).pe = s.pe by simp]
  exact h.full

theorem claimModule (h : PoolRight [] s) {m : Option ModuleRef} {l : List ModuleState} {f : ModuleRecord → ModuleRecord}
    (states : ∀ st ∈ l, st ≠ .pooled ∧ st ≠ .graded) (plain : ∀ r : ModuleRecord, r.Plain → r.state ∈ l → (f r).Plain) :
    PoolRight [] (s.claimModule m l f) := by
  unfold State.claimModule
  split
  · exact h.claim List.not_mem_nil states plain
  · exact h

/-- A claim that leaves all the lists depend on. -/
theorem claimView (h : PoolRight away s) {m : ModuleRef} {l : List ModuleState} {f : ModuleRecord → ModuleRecord}
    (view : ∀ r : ModuleRecord, r.SameView (f r)) : PoolRight away (s.claim m l f) := by
  unfold State.claim
  split
  · exact h.setRecord fun here => h.listed.alike_of_view here (view _)
  · exact h

theorem foldl {α : Type} {f : State → α → State} (each : ∀ s x, PoolRight away s → PoolRight away (f s x)) (l : List α)
    (h : PoolRight away s) : PoolRight away (l.foldl f s) := by
  induction l generalizing s with
  | nil => exact h
  | cons x l ih => exact ih (each s x h)

/-! ## Departure and arrival -/

theorem abandon (h : PoolRight [] s) {i : ModuleIndex} (notPooled : (s.record i).state ≠ .pooled)
    (notGraded : (s.record i).state ≠ .graded) : PoolRight [] (s.abandon i) := by
  have away := h.detach (h.listed.plain List.not_mem_nil notPooled notGraded)
  have ended : PoolRight [i] ((s.setTimer i none).setRecord i (s.record i).abandoned) :=
    (away.change List.mem_cons_self _).of_eq rfl rfl rfl
  exact ended.verdict List.not_mem_nil (by rw [State.record_setRecord_same]; rfl) .abandoned

theorem departGraded (h : PoolRight [] s) {i : ModuleIndex} (graded : (s.record i).state = .graded)
    (inBay : (s.record i).departed = false) : PoolRight [] (s.departGraded i) := by
  have notPooled : (s.record i).state ≠ .pooled := by rw [graded]; decide
  have notAssigned : (s.record i).state ≠ .assigned := by rw [graded]; decide
  have notWaiting : (s.record i).poolWaiting = false :=
    Bool.eq_false_iff.mpr fun waits => by
      rw [((ModuleRecord.poolWaiting_iff _).mp waits).2.1] at inBay
      cases inBay
  unfold State.departGraded
  dsimp only
  split
  · next sent =>
    have noVerdict := Option.isNone_iff_eq_none.mp sent
    have plain : (s.record i).Plain := ⟨notPooled, notWaiting, noVerdict, fun _ => graded,
      fun assigned => absurd assigned notAssigned⟩
    exact ((h.detach plain).change List.mem_cons_self _).goOn List.not_mem_nil
      (by rw [State.record_setRecord_same]; exact noVerdict)
  · next pending =>
    have pending : (s.record i).verdict ≠ none := by simpa using pending
    refine h.setRecord fun _ => ⟨Iff.rfl, ?_, Iff.rfl, fun _ => rfl, fun _ => graded, fun _ => graded, ?_⟩
    · rw [ModuleRecord.poolWaiting_of_verdict pending]
      exact ModuleRecord.poolWaiting_of_verdict pending
    · exact fun listed => listed.elim (fun pooled => absurd pooled notPooled) fun assigned => absurd assigned notAssigned

theorem departModule (h : PoolRight [] s) (m : ModuleRef) : PoolRight [] (s.departModule m) := by
  unfold State.departModule
  split
  · next found =>
    have state := (State.finds_iff.mp found).2
    exact h.abandon (fun pooled => by simp [pooled] at state) fun graded => by simp [graded] at state
  · split
    · next found =>
      obtain ⟨found, inBay⟩ := Bool.and_eq_true_iff.mp found
      exact h.departGraded (by simpa using (State.finds_iff.mp found).2) (by simpa using inBay)
    · exact h

theorem departFrom (h : PoolRight [] s) (b : Bay) (m : ModuleRef) : PoolRight [] (s.departFrom b m) :=
  departModule (h.of_eq (by simp) (by simp) (by simp)) m

theorem departOccupant (h : PoolRight [] s) (b : Bay) : PoolRight [] (s.departOccupant b) := by
  unfold State.departOccupant
  split
  · exact h.departFrom b _
  · exact h

theorem testing {r : ModuleRecord} (h : r.Plain) (settling : r.state ∈ [ModuleState.settling]) :
    ({ r with state := .testing } : ModuleRecord).Plain :=
  h.moved (by rw [List.mem_singleton.mp settling]; decide) rfl rfl ⟨nofun, nofun, nofun⟩

theorem startSettle (h : PoolRight away s) {m : ModuleRef} (here : m.index ∉ away) :
    PoolRight away (s.startSettle m) := by
  unfold State.startSettle
  dsimp only
  split
  · exact claim (s := s.setTimer m.index none) (h.of_eq rfl rfl rfl) here (by simp) fun _ => testing
  · exact h.of_eq rfl rfl rfl

theorem completeArrival {i : ModuleIndex} (h : PoolRight [i] s) (tag : Tag) (c : Fin 16) (b : Bay) :
    PoolRight [] (s.completeArrival i tag c b) := by
  have arrived : PoolRight [] (s.setRecord i ((s.record i).renewed.arrived tag c s.mr.arrivalCounter b)) :=
    h.arrive List.not_mem_nil (.of_state nofun nofun rfl rfl nofun)
  unfold State.completeArrival
  dsimp only
  refine startSettle ?_ List.not_mem_nil
  exact arrived.of_eq rfl rfl rfl

theorem releaseForRetest (h : PoolRight [] s) {i : ModuleIndex} (retestable : (s.record i).retestable = true) :
    PoolRight [i] (s.releaseForRetest i) := by
  unfold State.releaseForRetest
  split
  · next pooled => exact h.leave pooled List.not_mem_nil
  · next notPooled =>
    split
    · next waits => exact h.unwait waits
    · next notWaiting =>
      have sent : (s.record i).inBayVerdictSent = true := by
        simpa [ModuleRecord.retestable, notPooled, notWaiting] using retestable
      simp only [ModuleRecord.inBayVerdictSent, Bool.and_eq_true, decide_eq_true_eq, Option.isNone_iff_eq_none] at sent
      obtain ⟨⟨graded, -⟩, noVerdict⟩ := sent
      have away : PoolRight [i] s := h.detach ⟨notPooled, Bool.eq_false_iff.mpr notWaiting, noVerdict, fun _ => graded,
        fun assigned => by rw [graded] at assigned; cases assigned⟩
      split
      · exact away.of_eq (by simp) (by simp) (by simp)
      · exact away

theorem arriveTag (h : PoolRight [] s) (b : Bay) (tag : Tag) (c : Fin 16) : PoolRight [] (s.arriveTag b tag c) := by
  unfold State.arriveTag
  split
  · split
    · next retestable => exact (h.releaseForRetest retestable).completeArrival tag c b
    · exact h.of_eq rfl rfl rfl
  · split
    · next i lowest =>
      have free : (s.record i).state = .free := of_decide_eq_true (lowest_some lowest).1
      exact (h.detach (h.listed.plain List.not_mem_nil (by rw [free]; decide) (by rw [free]; decide))).completeArrival
        tag c b
    · exact h.of_eq rfl rfl rfl

theorem arriveAt (h : PoolRight [] s) (b : Bay) (tag : Tag) (c : Fin 16) : PoolRight [] (s.arriveAt b tag c) :=
  (h.departOccupant b).arriveTag b tag c

theorem departAt (h : PoolRight [] s) (b : Bay) (tag : Option Tag) : PoolRight [] (s.departAt b tag) := by
  unfold State.departAt
  split
  · exact h.of_eq rfl rfl rfl
  · split
    · exact h.departFrom b _
    · exact h.of_eq rfl rfl rfl

theorem measureBay (h : PoolRight [] s) (b : Bay) (k : Metric) (v : Nat) (w : Int) :
    PoolRight [] (s.measureBay b k v w) := by
  unfold State.measureBay
  split
  · exact h.of_eq rfl rfl rfl
  · split
    · split
      · exact h.startSettle List.not_mem_nil
      · exact h.of_eq rfl rfl rfl
    · split <;> exact h.of_eq rfl rfl rfl

theorem expireTimer (h : PoolRight [] s) (i : ModuleIndex) (x : SettleTimer) : PoolRight [] (s.expireTimer i x) :=
  claim (s := (s.reachTime x.expiresAt).setTimer i none) (h.of_eq rfl rfl rfl) List.not_mem_nil (by simp) fun _ => testing

/-- Reception changes no more of a record than its gap count. -/
theorem receive (h : PoolRight [] s) (c : LineCharacter) : PoolRight [] (s.receive c) := by
  have sample : ∀ (u : State) (f : Frame) i, (u.record i).SameView ((u.takeSample f).record i) := by
    intro u f i
    have event : ∀ (v : State) (m : ModuleRef), (v.record i).SameView ((v.gapEvent m).record i) := by
      intro v m
      unfold State.gapEvent State.claim
      split
      · rw [State.record_setRecord]
        split
        · next same => subst same; exact ⟨rfl, rfl, rfl, rfl⟩
        · exact .refl _
      · exact .refl _
    have events : ∀ (l : List ModuleRef) (v : State), (v.record i).SameView ((l.foldl State.gapEvent v).record i) := by
      intro l
      induction l with
      | nil => exact fun v => .refl _
      | cons m l ih => exact fun v => (event v m).trans (ih _)
    have checked : ∀ e q, (u.record i).SameView ((u.checkSequence e q).record i) := by
      intro e q
      unfold State.checkSequence
      dsimp only
      split
      · unfold State.gapEvents
        exact events _ (u.setLive e _)
      · exact .refl _
    unfold State.takeSample State.admitSample
    split
    · split
      · exact .refl _
      · next e _ _ q _ _ =>
        split
        · simpa [State.record] using checked e q
        · simpa [State.record] using checked e q
    · exact .refl _
  refine h.of_view (by simp) (s.receive_claims c) fun i => ?_
  rcases s.receive_sampled c with ⟨register, -⟩ | ⟨u, f, register, -, sampled, -⟩
  · rw [State.record, State.record, register]
    exact .refl _
  · rw [State.record, State.record, ← register, sampled]
    exact sample u f i

/-! ## Completions -/

theorem plain_serving {r x : ModuleRecord} (h : r.Plain) (serving : r.state.serving) (verdict : x.verdict = r.verdict)
    (departed : x.departed = r.departed) (state : x.state.serving) : x.Plain := by
  refine h.moved (fun graded => ?_) verdict departed ⟨?_, ?_, ?_⟩
  · rcases serving with h | h | h <;> rw [graded] at h <;> cases h
  all_goals rcases state with h | h | h <;> rw [h] <;> decide

/-- A record in service changed but for its verdict and departed flag. -/
theorem serve (h : PoolRight [] s) {i : ModuleIndex} (serving : (s.record i).state.serving) {x : ModuleRecord}
    (verdict : x.verdict = (s.record i).verdict) (departed : x.departed = (s.record i).departed)
    (state : x.state.serving) : PoolRight [] (s.setRecord i x) := by
  have plain : (s.record i).Plain := by
    refine h.listed.plain List.not_mem_nil ?_ ?_ <;> rcases serving with h | h | h <;> rw [h] <;> decide
  exact h.setRecord fun _ => .of_plain plain (plain_serving plain serving verdict departed state)

theorem regrade (h : PoolRight [] s) {i : ModuleIndex} (serving : (s.record i).state.serving) (p : SlotId) :
    PoolRight [] (s.regrade i p) := by
  have counted : ∀ n, PoolRight [] (s.setRecord i ((s.record i).withWatch n)) :=
    fun n => h.serve serving rfl rfl serving
  have moved : ∀ n {st : ModuleState}, st.serving →
      PoolRight [] ((s.setRecord i ((s.record i).withWatch n)).setRecord i
        (((s.setRecord i ((s.record i).withWatch n)).record i).inState st)) :=
    fun n st state => (counted n).serve (by rw [State.record_setRecord_same]; exact serving) rfl rfl state
  have quiet : ∀ {u v : State}, PoolRight [] u → v.pe.lists = u.pe.lists → v.rp = u.rp → v.mr = u.mr → PoolRight [] v :=
    fun k lists rp mr => k.of_eq lists (by rw [rp]) (by rw [mr])
  unfold State.regrade
  dsimp only
  split
  · exact h
  · split
    · exact counted _
    · split
      · unfold State.regradeRecovered
        dsimp only
        split
        · split
          · exact moved 0 (.inl rfl)
          · split
            · exact counted 0
            all_goals exact quiet (moved 0 (st := .inService) (.inl rfl)) (by simp) (by simp) (by simp)
        · exact counted 0
      · split
        · have rejected : PoolRight [] (s.setRecord i
              (((s.record i).withWatch (satInc 15 (s.record i).watchCount)).inState .watch)) :=
            h.serve serving rfl rfl (.inr (.inl rfl))
          exact quiet rejected (State.raiseRequest_lists _ _ _ _) (by simp) (by simp [State.regradeReject])
        all_goals
          unfold State.regradeWorse
          dsimp only
          split
          · exact quiet (counted _) (State.raiseRequest_lists _ _ _ _) (by simp) (by simp)
          · split
            · exact quiet (moved _ (.inr (.inl rfl))) (State.raiseRequest_lists _ _ _ _) (by simp) (by simp)
            · exact counted _

theorem endTest (h : PoolRight [] s) {i : ModuleIndex} (testing : (s.record i).state = .testing) :
    PoolRight [] (s.endTest i) := by
  have away := h.detach (h.listed.plain List.not_mem_nil (by rw [testing]; decide) (by rw [testing]; decide))
  exact (away.change List.mem_cons_self _).verdict List.not_mem_nil (by rw [State.record_setRecord_same]) .graded

/-- The states a completion claim expects (R81). -/
theorem expected_cases {st : ModuleState} {p : Place} (h : st ∈ p.expected) : st = .testing ∨ st.serving := by
  cases p with
  | bay => exact .inl (by simpa [Place.expected] using h)
  | service => exact .inr (by simpa [Place.expected, ModuleState.serving] using h)

theorem resolve (h : PoolRight [] s) {i : ModuleIndex} (state : (s.record i).state = .testing ∨ (s.record i).state.serving) :
    PoolRight [] (s.resolve i) := by
  have plain : (s.record i).Plain := by
    refine h.listed.plain List.not_mem_nil ?_ ?_ <;> rcases state with h | h | h | h <;> rw [h] <;> decide
  have notGraded : (s.record i).state ≠ .graded := by rcases state with h | h | h | h <;> rw [h] <;> decide
  have graded : PoolRight [] (s.setRecord i ((s.record i).withGrade (s.mu.active.orig.get (s.record i).originClass))) := by
    refine h.setRecord fun _ => .of_plain plain (plain.moved notGraded rfl rfl ?_)
    change (s.record i).state ≠ .pooled ∧ (s.record i).state ≠ .graded ∧ (s.record i).state ≠ .assigned
    rcases state with h | h | h | h <;> rw [h] <;> decide
  have same := State.record_setRecord_same s i ((s.record i).withGrade (s.mu.active.orig.get (s.record i).originClass))
  unfold State.resolve State.afterResolution
  split
  · next _ _ testing =>
    split
    · exact graded.endTest testing
    · exact graded
  · next location notTesting =>
    refine graded.regrade ?_ _
    rw [same]
    exact state.resolve_left fun testing => notTesting (by rw [same]; exact testing)
  · exact graded

theorem completeEvaluation (h : PoolRight [] s) (e : Evaluation) : PoolRight [] (s.completeEvaluation e) := by
  obtain ⟨t, outcome, completed⟩ := s.completeEvaluation_outcome e
  rw [completed]
  refine of_eq (s := t) ?_ rfl rfl rfl
  cases outcome with
  | applied found =>
    have state := expected_cases (State.finds_iff.mp found).2
    have taken : ∀ x, PoolRight [] (s.setRecord e.module.index ((s.record e.module.index).withEvidence e.metric x)) :=
      fun x => h.setRecord fun here => h.listed.alike_of_view here ⟨rfl, rfl, rfl, rfl⟩
    unfold State.applyCompletion
    dsimp only
    refine of_eq ?_ (State.tellStringMap_lists _ _ _ _) (by simp) (by simp)
    split
    · exact (taken _).of_eq rfl rfl rfl
    · split
      · exact (taken _).resolve (by rw [State.record_setRecord_same]; exact state)
      · exact taken _
  | declined => exact h.of_eq rfl rfl rfl

end PoolRight

end Sys2Proof.Machine
end

section
/-! SUPPORT. Choices, orders, commands and commits keep the pool and the records in agreement, and so does every step. -/

namespace Sys2Proof.Machine

/-- A member of the pool has no verdict pending, has not departed and is graded A to D. -/
theorem PoolListed.pooled_quiet {s : State} (h : PoolListed [] s) {i : ModuleIndex}
    (pooled : (s.record i).state = .pooled) :
    (s.record i).verdict = none ∧ (s.record i).departed = false ∧ poolable (s.record i).resolved = true := by
  have notGraded : (s.record i).state ≠ .graded := by rw [pooled]; decide
  refine ⟨?_, Bool.eq_false_iff.mpr fun gone => notGraded (h.departed i List.not_mem_nil gone),
    h.graded i List.not_mem_nil (.inl pooled)⟩
  by_contra some
  exact notGraded (h.verdicts i List.not_mem_nil some)

namespace PoolRight

variable {s : State}

/-! ## Choices -/

/-- The candidate leaves the pool, without the promotion (R162). -/
theorem assign (h : PoolRight [] s) {m : ModuleRef} (found : s.finds m [.pooled] = true) (o : OrderIndex) :
    PoolListed [] (s.assign m o) ∧ ((s.assign m o).pe.poolWait ≠ [] → (s.assign m o).pe.pool.length = 63) := by
  have pooled : (s.record m.index).state = .pooled := by simpa using (State.finds_iff.mp found).2
  obtain ⟨noVerdict, inBay, graded⟩ := h.listed.pooled_quiet pooled
  rw [State.assign, if_pos found]
  exact ⟨(h.listed.drop pooled List.not_mem_nil).arrive List.not_mem_nil
    (.of_state nofun nofun noVerdict inBay fun _ => graded), h.short pooled List.not_mem_nil⟩

theorem applyChoice_lists (s : State) (c : Choice) (w : OrderWork) :
    (s.applyChoice c w).pe.lists = (s.assignIncoming w c.order).pe.lists := by
  unfold State.applyChoice
  dsimp only
  rw [State.withdraw_lists]
  simp [State.createOrder, State.setOrder]

/-- The rest of an applied result: the outgoing module becomes OUTBOUND (R162). -/
theorem applyRest {c : Choice} {w : OrderWork} (h : PoolListed [] (s.assignIncoming w c.order)) :
    PoolListed [] (s.applyChoice c w) := by
  have claimed : PoolListed [] ((s.assignIncoming w c.order).claimOutgoing w c.order) := by
    unfold State.claimOutgoing
    split
    · refine h.claim List.not_mem_nil (by simp) fun r plain watch => ?_
      exact plain.moved (by rw [List.mem_singleton.mp watch]; decide) rfl rfl ⟨nofun, nofun, nofun⟩
    · exact h
  refine claimed.of_eq ?_ (by simp [State.applyChoice]) (by simp [State.applyChoice])
  rw [applyChoice_lists]
  simp

theorem applied (h : PoolRight [] s) {c : Choice} {w : OrderWork} (holds : s.choiceHolds c w = true) :
    PoolRight [] ((s.applyChoice c w).afterChoice c w) := by
  have promoted : PoolRight [] (if w.incoming.isSome then (s.applyChoice c w).promote else s.applyChoice c w) := by
    cases incoming : w.incoming with
    | none =>
      have same : s.assignIncoming w c.order = s := by rw [State.assignIncoming, incoming]
      refine ⟨applyRest (by rw [same]; exact h.listed), ?_⟩
      obtain ⟨pool, wait⟩ := Prod.mk.inj ((applyChoice_lists s c w).trans (by rw [same]))
      change (s.applyChoice c w).PoolFull
      rw [State.PoolFull, pool, wait]
      exact h.full
    | some m =>
      have found : s.finds m [.pooled] = true := by
        simp only [State.choiceHolds, incoming, Bool.and_eq_true] at holds
        exact holds.1.2
      have same : s.assignIncoming w c.order = s.assign m c.order := by rw [State.assignIncoming, incoming]
      obtain ⟨listed, short⟩ := h.assign found c.order
      obtain ⟨pool, wait⟩ := Prod.mk.inj ((applyChoice_lists s c w).trans (by rw [same]))
      obtain ⟨listed, full⟩ := State.promote_listed (applyRest (s := s) (c := c) (w := w) (by rw [same]; exact listed))
        (by rw [pool, wait]; exact short)
      exact ⟨listed, full⟩
  unfold State.afterChoice
  dsimp only
  split
  · exact promoted.of_eq (by simp) (by simp) (by simp)
  · exact promoted

theorem completeChoice (h : PoolRight [] s) (c : Choice) : PoolRight [] (s.completeChoice c) := by
  obtain ⟨t, outcome, completed⟩ := s.completeChoice_outcome c
  rw [completed]
  refine of_eq (s := t) ?_ rfl rfl rfl
  cases outcome with
  | discarded => exact h.of_eq (by simp [State.discardChoice]) (by simp) (by simp)
  | noCandidate => exact h.of_eq (by simp [State.noCandidate]) (by simp) (by simp)
  | applied q w _ _ holds => exact h.applied holds

/-! ## The end of an order -/

theorem enterOrWait {i : ModuleIndex} (h : PoolRight [i] s) (graded : poolable (s.record i).resolved = true)
    (noVerdict : (s.record i).verdict = none) : PoolRight [] (s.enterPoolOrWait i) := by
  obtain ⟨listed, full⟩ := h.listed.enterOrWait h.full List.not_mem_nil graded noVerdict
  exact ⟨listed, full⟩

theorem returnToPool (h : PoolRight [] s) (m : Option ModuleRef) : PoolRight [] (s.returnToPool m) := by
  unfold State.returnToPool
  split
  · next m =>
    split
    · next found =>
      have assigned : (s.record m.index).state = .assigned := by simpa using (State.finds_iff.mp found).2
      have plain := h.listed.plain (i := m.index) List.not_mem_nil (by rw [assigned]; decide) (by rw [assigned]; decide)
      exact (h.detach plain).enterOrWait (plain.assigned assigned) plain.noVerdict
    · exact h
  · exact h

theorem endReported (h : PoolRight [] s) (i : OrderIndex) (o : Order) (done : Bool) :
    PoolRight [] (s.endReported i o done) := by
  cases done with
  | true =>
    have modules : PoolRight [] ((s.claimModule o.work.incoming [.assigned] fun r => r.placed o.slot).claimModule
        o.work.outgoing [.outbound] ModuleRecord.freed) := by
      refine claimModule (claimModule h (by simp) fun r plain assigned => ?_) (by simp) fun r _ _ => .freed r
      exact plain.moved (by rw [List.mem_singleton.mp assigned]; decide) rfl rfl ⟨nofun, nofun, nofun⟩
    change PoolRight [] (s.endDone i o)
    unfold State.endDone
    dsimp only
    split <;> exact modules.of_eq (by simp) (by simp) (by simp)
  | false =>
    have modules : PoolRight [] ((s.returnToPool o.work.incoming).claimModule o.work.outgoing [.outbound] fun r =>
        r.returned o.slot) := by
      refine claimModule (h.returnToPool _) (by simp) fun r plain outbound => ?_
      exact plain.moved (by rw [List.mem_singleton.mp outbound]; decide) rfl rfl ⟨nofun, nofun, nofun⟩
    change PoolRight [] (s.endRefused i o)
    unfold State.endRefused
    dsimp only
    split <;> exact modules.of_eq (by simp) (by simp) (by simp)

theorem endExpired (h : PoolRight [] s) (i : OrderIndex) (o : Order) : PoolRight [] (s.endExpired i o) := by
  have held : ∀ {st : ModuleState}, st ≠ .graded → ∀ r : ModuleRecord, r.Plain → r.state ∈ [st] → r.heldBack.Plain :=
    fun notGraded r plain state =>
      plain.moved (by rw [List.mem_singleton.mp state]; exact notGraded) rfl rfl ⟨nofun, nofun, nofun⟩
  have modules : PoolRight [] ((s.claimModule o.work.incoming [.assigned] ModuleRecord.heldBack).claimModule
      o.work.outgoing [.outbound] ModuleRecord.heldBack) :=
    claimModule (claimModule h (by simp) (held (by decide))) (by simp) (held (by decide))
  exact modules.of_eq (by simp [State.endExpired]) (by simp [State.endExpired]) (by simp [State.endExpired])

/-! ## Inventory -/

theorem freed (h : PoolRight [] s) {m : ModuleRef} {l : List ModuleState}
    (states : ∀ st ∈ l, st ≠ .pooled ∧ st ≠ .graded) : PoolRight [] (s.claim m l ModuleRecord.freed) :=
  h.claim List.not_mem_nil states fun r _ _ => .freed r

theorem displace (h : PoolRight [] s) (p : SlotId) : PoolRight [] (s.displace p) := by
  unfold State.displace
  split
  · exact h.freed (by simp)
  all_goals exact h

theorem occupy (h : PoolRight [] s) (p : SlotId) (i : ModuleIndex) : PoolRight [] (s.occupy p i) :=
  h.of_eq (by rw [State.occupy, State.recompute_lists]; rfl) (by simp) (by simp)

/-- A record of the states SLOT-HOLDS takes is not the occupant it displaces (R121, R122). -/
theorem record_displace {i : ModuleIndex} (takable : (s.record i).takable = true) (p : SlotId) :
    (s.displace p).record i = s.record i := by
  unfold State.displace
  split
  · next m _ =>
    by_cases found : s.standsIn m [.inService, .watch]
    · rw [State.claim_applied found]
      refine State.record_setRecord_other _ _ _ _ fun same => ?_
      subst same
      have serving := found.2
      simp only [List.mem_cons, List.not_mem_nil, or_false] at serving
      rcases serving with state | state <;>
        simp [ModuleRecord.takable, ModuleRecord.poolWaiting, state] at takable
    · rw [State.claim_declined found]
  all_goals rfl

theorem takeFor (h : PoolRight [] s) (p : SlotId) {i : ModuleIndex} (takable : (s.record i).takable = true) :
    PoolRight [] (s.takeFor p i) := by
  have same := record_displace takable p
  have before := h.displace p
  unfold State.takeFor
  dsimp only
  refine occupy ?_ p i
  rw [← same]
  rw [← same] at takable
  split
  · next pooled =>
    obtain ⟨noVerdict, -, -⟩ := before.listed.pooled_quiet pooled
    exact before.leaveAs pooled List.not_mem_nil (.of_state nofun nofun noVerdict rfl nofun)
  · next graded =>
    have waits : ((s.displace p).record i).poolWaiting = true := by simpa [ModuleRecord.takable, graded] using takable
    obtain ⟨-, -, noVerdict, -⟩ := (ModuleRecord.poolWaiting_iff _).mp waits
    exact before.unwaitAs waits List.not_mem_nil (.of_state nofun nofun noVerdict rfl nofun)
  · next notPooled notGraded =>
    have plain := before.listed.plain (i := i) List.not_mem_nil notPooled notGraded
    have held : (((s.displace p).record i).heldIn p).Plain := .of_state nofun nofun plain.noVerdict rfl nofun
    exact before.setRecord fun _ => .of_plain plain held

theorem adoptFor (h : PoolRight [] s) (p : SlotId) {i : ModuleIndex} (lowest : (s.displace p).lowestFree = some i)
    (tag : Tag) : PoolRight [] (s.adoptFor p i tag) := by
  have free : ((s.displace p).record i).state = .free := of_decide_eq_true (lowest_some lowest).1
  have before := h.displace p
  have plain := before.listed.plain (i := i) List.not_mem_nil (by rw [free]; decide) (by rw [free]; decide)
  have adopted : (((s.displace p).record i).adopted tag p).Plain := .of_state nofun nofun rfl rfl nofun
  exact occupy (before.setRecord fun _ => .of_plain plain adopted) p i

theorem admitVerdict (h : PoolRight [] s) {i : ModuleIndex} {rest : List ModuleIndex}
    (claims : s.rp.verdictClaims = i :: rest) : PoolRight [] (s.admitVerdict i) := by
  have pending : (s.record i).verdict ≠ none :=
    ((h.listed.claims i).mp (by rw [claims]; exact List.mem_cons_self)).2
  have graded := h.listed.verdicts i List.not_mem_nil pending
  unfold State.admitVerdict
  dsimp only
  split
  · next none => exact absurd none pending
  · next v _ =>
    have away : PoolRight [i] ((s.setRing { s.rp with verdictClaims := s.rp.verdictClaims.erase i }).originate
        kindVerdict s.controllerDestination (verdictBody v (s.record i))) :=
      of_eq (s := s.setRing { s.rp with verdictClaims := s.rp.verdictClaims.erase i })
        ⟨h.listed.unclaim pending List.not_mem_nil, h.full⟩ rfl rfl rfl
    split
    · exact (away.change List.mem_cons_self _).goOn List.not_mem_nil (by rw [State.record_setRecord_same])
    · next inBay =>
      refine away.arrive List.not_mem_nil ⟨?_, ?_, rfl, fun gone => absurd gone inBay, fun assigned => ?_⟩
      · change (s.record i).state ≠ .pooled
        rw [graded]
        decide
      · exact Bool.eq_false_iff.mpr fun waits => inBay ((ModuleRecord.poolWaiting_iff _).mp waits).2.1
      · replace assigned : (s.record i).state = .assigned := assigned
        rw [graded] at assigned
        cases assigned

/-! ## Commits -/

theorem carryStations (h : PoolRight [] s) (old new : Vector Station 32) : PoolRight [] (s.carryStations old new) := by
  unfold State.carryStations
  dsimp only
  refine foldl (fun s m h => h.departModule m) _ (foldl (fun s x h => ?_) _ ?_)
  · exact h.claimView fun r => ⟨rfl, rfl, rfl, rfl⟩
  · exact h.of_eq rfl rfl rfl

theorem clearRuns (h : PoolRight [] s) : PoolRight [] s.clearRuns := by
  refine h.of_view rfl rfl fun i => ?_
  have record : s.clearRuns.record i = (s.record i).runsCleared := get_mapEntries _ _ _
  rw [record]
  exact ⟨rfl, rfl, rfl, rfl⟩

theorem settleIfSafe (h : PoolRight [] s) : PoolRight [] s.settleIfSafe := by
  have outcome := s.settleIfSafe_outcome
  generalize s.settleIfSafe = t at outcome
  cases outcome with
  | waits => exact h
  | refused f => exact h.of_eq rfl rfl rfl
  | taken mask =>
    have active : PoolRight [] ((s.setPendingCommit none).setActive (mergedTables mask s.mu.active s.mu.shadow)) :=
      h.of_eq rfl rfl rfl
    refine of_eq (s := State.commitEffects _ mask s.mu.active) (State.commitEffects_keeps active ?_ ?_ ?_ ?_ ?_) rfl rfl
      rfl
    · exact fun _ => active.carryStations _ _
    · exact fun t _ _ _ h _ => h.of_eq rfl rfl rfl
    · exact fun t h => h.clearRuns
    · exact fun t h => h.of_eq rfl rfl rfl
    · exact fun t h => h.of_eq rfl rfl rfl

/-- With every record FREE there is nothing to agree. -/
theorem of_empty (records : ∀ i, s.record i = .cleared 0) (lists : s.pe.lists = ([], []))
    (claims : s.rp.verdictClaims = []) : PoolRight [] s := by
  obtain ⟨pool, wait⟩ := Prod.mk.inj lists
  have plain : ∀ i, (s.record i).Plain := fun i => by
    rw [records i]
    exact .of_state nofun nofun rfl rfl nofun
  refine ⟨⟨fun i => ?_, ?_, ?_, ?_, fun i => ?_, ?_, ?_, fun i _ some => absurd (plain i).noVerdict some, fun i => ?_, ?_,
    fun i _ => (plain i).departed, fun i _ listed => ?_⟩, fun some => absurd wait some⟩
  · simp [pool, (plain i).notPooled]
  · simp [pool]
  · simp [pool]
  · simp [pool, State.InKeyOrder]
  · simp [wait, (plain i).notWaiting]
  · simp [wait]
  · simp [wait, State.InKeyOrder]
  · simp [claims, (plain i).noVerdict]
  · simp [claims]
  · exact listed.elim (fun pooled => absurd pooled (plain i).notPooled) (plain i).assigned

end PoolRight

theorem Change.poolRight {s t : State} (h : PoolRight [] s) (change : Change s t) : PoolRight [] t := by
  cases change with
  | none => exact h
  | verdict i rest claims => exact h.admitVerdict claims
  | arrive r tag c b => exact PoolRight.arriveAt (s := s.takeRecord) (h.of_eq rfl rfl rfl) b tag c
  | depart r tag b => exact PoolRight.departAt (s := s.takeRecord) (h.of_eq rfl rfl rfl) b tag
  | evaluation e => exact (h.completeEvaluation e).settleIfSafe
  | choice c => exact h.completeChoice c
  | choiceSettles c => exact (h.completeChoice c).settleIfSafe
  | expiry i o t =>
    have ended : PoolRight [] ((s.reachTime t).endExpired i o) :=
      PoolRight.endExpired (s := s.reachTime t) (h.of_eq rfl rfl rfl) i o
    exact ended.of_eq (by simp) (by simp) (by simp)
  | safePoint => exact h.settleIfSafe

theorem CommandChange.poolRight {s t : State} (h : PoolRight [] s) (change : CommandChange s t) : PoolRight [] t := by
  have left : ∀ {i : ModuleIndex}, (s.record i).state ≠ .pooled → (s.record i).state ≠ .graded → (s.record i).Plain :=
    fun notPooled notGraded => h.listed.plain List.not_mem_nil notPooled notGraded
  cases change with
  | commit mask => exact PoolRight.settleIfSafe (h.of_eq rfl rfl rfl)
  | vacated p m =>
    have freed := h.freed (m := m) (l := [.inService, .watch]) (by simp)
    exact freed.of_eq (by simp [State.emptyOccupied]) (by simp) (by simp [State.emptyOccupied])
  | taken p i _ _ takable => exact h.takeFor p takable
  | adopted p i tag _ _ lowest => exact h.adoptFor p lowest tag
  | pooled i held graded room =>
    have plain := left (i := i) (by rw [held]; decide) (by rw [held]; decide)
    have entered := (h.detach plain).enterOrWait graded plain.noVerdict
    rwa [State.enterPoolOrWait, if_pos room] at entered
  | heldGone i held =>
    exact h.setRecord fun _ => .of_plain (left (by rw [held]; decide) (by rw [held]; decide)) (.freed _)
  | pooledGone i member => exact h.leaveAs member List.not_mem_nil (.freed _)
  | waitingGone i waiting => exact h.unwaitAs waiting List.not_mem_nil (.freed _)
  | ended i o t done => exact (h.endReported i o done).of_eq (by simp) (by simp) (by simp)
  | retired p m =>
    have claimed : PoolRight [] (s.claim m [.inService, .watch] fun r => r.inState .watch) := by
      refine h.claim List.not_mem_nil (by simp) fun r plain serving => ?_
      exact plain.moved (fun graded => by simp [graded] at serving) rfl rfl ⟨nofun, nofun, nofun⟩
    exact claimed.of_eq (by simp [State.retireAt]) (by simp [State.retireAt]) (by simp [State.retireAt])
  | _ => exact h.of_eq (by simp) (by simp) (by simp)

theorem CommandEffect.poolRight {s t : State} (h : PoolRight [] s) (effect : CommandEffect s t) : PoolRight [] t := by
  cases effect with
  | changed t change => exact (change.poolRight h).of_eq (by simp) (by simp) (by simp)
  | cleared => exact PoolRight.settleIfSafe (.of_empty (fun i => get_replicate _ i) rfl rfl)
  | _ => exact h.of_eq rfl rfl rfl

theorem Event.poolRight {s t : State} (h : PoolRight [] s) (event : Event s t) : PoolRight [] t := by
  cases event with
  | released straps => exact .of_empty (fun i => get_replicate _ i) rfl rfl
  | received c => exact h.receive c
  | asserted => exact h.of_eq rfl rfl rfl
  | transitFreed => exact h.of_eq rfl rfl rfl
  | originateFreed => exact h.of_eq rfl rfl rfl
  | decided => exact h.of_eq rfl rfl rfl
  | reply =>
    refine h.of_eq (by simp) ?_ (by simp)
    unfold State.admitReply
    (repeat' split) <;> rfl
  | order => exact h.of_eq (by simp) rfl (by simp)
  | notice => exact h.of_eq (by simp) rfl (by simp)
  | ignored => exact h.of_eq rfl rfl rfl
  | ticked => exact h.of_eq rfl rfl rfl
  | selected u p change => exact (change.poolRight h).of_eq (by simp) (by simp) (by simp)
  | measuredBay r k v w b => exact PoolRight.measureBay (s := s.takeRecord) (h.of_eq rfl rfl rfl) b k v w
  | measuredSlot r k v w p =>
    unfold State.measureSlot
    split <;> exact h.of_eq rfl rfl rfl
  | settled i x => exact h.expireTimer i x
  | command f rest a queue effect =>
    have taken : PoolRight [] (s.setCommands rest) := h.of_eq rfl rfl rfl
    exact (effect.poolRight taken).of_eq rfl rfl rfl

/-- Settles O58, by the events of a step: a record is taken from its list before it changes and put in the list of the
state it comes to, and a place left in a full pool is given to the first record that waits. -/
theorem everyStepKeepsPool : Obligations.EveryStepKeepsPool := by
  unfold Obligations.EveryStepKeepsPool
  refine fun s t => step_keeps (fun s l h => ?_) fun u v h event => ?_
  · exact (poolAgrees_iff_right _).mpr (((poolAgrees_iff_right s).mp h).of_eq rfl rfl rfl)
  · exact (poolAgrees_iff_right v).mpr (event.poolRight ((poolAgrees_iff_right u).mp h))

end Sys2Proof.Machine
end

section
/-! SUPPORT. Where a module record says its module stands (R21, R114, R169), and the parts of the agreement between
bays, slots, orders and records, each with what leaves it. -/

namespace Sys2Proof.Machine

/-! ## Seats -/

/-- A place that a bay, a slot or an order names a module in. -/
inductive Seat where
  | bay (b : Bay)
  | slot (p : SlotId)
  | incoming (i : OrderIndex)
  | outgoing (i : OrderIndex)

/-- The slot a location names, if it names one (R35). -/
def Location.slot? : Location → Option SlotId
  | .slot p => some p
  | .absent | .bay _ => none

/-- The place a record says its module is in (R21, R114, R169). -/
def ModuleRecord.seat (r : ModuleRecord) : Option Seat :=
  match r.state with
  | .settling | .testing | .graded => if r.departed then none else r.location.bay?.map .bay
  | .inService | .watch => r.location.slot?.map .slot
  | .assigned => r.order.map .incoming
  | .outbound => r.order.map .outgoing
  | .free | .pooled | .held => none

/-- IN-SERVICE or WATCH (R114). -/
def ModuleRecord.serves (r : ModuleRecord) : Prop := r.state = .inService ∨ r.state = .watch

theorem Location.bay?_eq_some {l : Location} {b : Bay} : l.bay? = some b ↔ l = .bay b := by
  cases l <;> simp [Location.bay?]

theorem Location.slot?_eq_some {l : Location} {p : SlotId} : l.slot? = some p ↔ l = .slot p := by
  cases l <;> simp [Location.slot?]

theorem ModuleRecord.seat_bay_iff {r : ModuleRecord} {b : Bay} : r.seat = some (.bay b) ↔
    r.state ∈ [ModuleState.settling, .testing, .graded] ∧ r.departed = false ∧ r.location = .bay b := by
  unfold ModuleRecord.seat
  cases r.state <;> simp [Location.bay?_eq_some]

theorem ModuleRecord.seat_slot_iff {r : ModuleRecord} {p : SlotId} : r.seat = some (.slot p) ↔
    r.state ∈ [ModuleState.inService, .watch] ∧ r.location = .slot p := by
  unfold ModuleRecord.seat
  cases r.state <;> simp [Location.slot?_eq_some]

theorem ModuleRecord.seat_incoming_iff {r : ModuleRecord} {i : OrderIndex} : r.seat = some (.incoming i) ↔
    r.state ∈ [ModuleState.assigned] ∧ r.order = some i := by
  unfold ModuleRecord.seat
  cases r.state <;> simp

theorem ModuleRecord.seat_outgoing_iff {r : ModuleRecord} {i : OrderIndex} : r.seat = some (.outgoing i) ↔
    r.state ∈ [ModuleState.outbound] ∧ r.order = some i := by
  unfold ModuleRecord.seat
  cases r.state <;> simp

/-- The module named stands in a place. -/
structure State.Seats (s : State) (m : ModuleRef) (z : Seat) : Prop where
  generation : (s.record m.index).generation = m.generation
  seat       : (s.record m.index).seat = some z

theorem State.seats_bay_iff (s : State) (m : ModuleRef) (b : Bay) : s.Seats m (.bay b) ↔
    s.standsIn m [.settling, .testing, .graded] ∧ (s.record m.index).departed = false ∧
      (s.record m.index).location = .bay b := by
  refine ⟨fun ⟨generation, seat⟩ => ?_, fun ⟨⟨generation, state⟩, departed, location⟩ => ?_⟩
  · obtain ⟨state, departed, location⟩ := ModuleRecord.seat_bay_iff.mp seat
    exact ⟨⟨generation, state⟩, departed, location⟩
  · exact ⟨generation, ModuleRecord.seat_bay_iff.mpr ⟨state, departed, location⟩⟩

theorem State.seats_slot_iff (s : State) (m : ModuleRef) (p : SlotId) : s.Seats m (.slot p) ↔
    s.standsIn m [.inService, .watch] ∧ (s.record m.index).location = .slot p := by
  refine ⟨fun ⟨generation, seat⟩ => ?_, fun ⟨⟨generation, state⟩, location⟩ => ?_⟩
  · obtain ⟨state, location⟩ := ModuleRecord.seat_slot_iff.mp seat
    exact ⟨⟨generation, state⟩, location⟩
  · exact ⟨generation, ModuleRecord.seat_slot_iff.mpr ⟨state, location⟩⟩

theorem State.seats_incoming_iff (s : State) (m : ModuleRef) (i : OrderIndex) : s.Seats m (.incoming i) ↔
    s.standsIn m [.assigned] ∧ (s.record m.index).order = some i := by
  refine ⟨fun ⟨generation, seat⟩ => ?_, fun ⟨⟨generation, state⟩, order⟩ => ?_⟩
  · obtain ⟨state, order⟩ := ModuleRecord.seat_incoming_iff.mp seat
    exact ⟨⟨generation, state⟩, order⟩
  · exact ⟨generation, ModuleRecord.seat_incoming_iff.mpr ⟨state, order⟩⟩

theorem State.seats_outgoing_iff (s : State) (m : ModuleRef) (i : OrderIndex) : s.Seats m (.outgoing i) ↔
    s.standsIn m [.outbound] ∧ (s.record m.index).order = some i := by
  refine ⟨fun ⟨generation, seat⟩ => ?_, fun ⟨⟨generation, state⟩, order⟩ => ?_⟩
  · obtain ⟨state, order⟩ := ModuleRecord.seat_outgoing_iff.mp seat
    exact ⟨⟨generation, state⟩, order⟩
  · exact ⟨generation, ModuleRecord.seat_outgoing_iff.mpr ⟨state, order⟩⟩

/-! ## The parts of the agreement -/

/-- No two records that are not FREE share a tag (R40). -/
def State.TagsApart (s : State) : Prop :=
  ∀ i j, (s.record i).state ≠ .free → (s.record j).state ≠ .free → (s.record i).tag = (s.record j).tag → i = j

/-- The occupant of each bay stands in it (R21). -/
def State.BaysSeated (s : State) : Prop := ∀ b m, s.occupant b = some m → s.Seats m (.bay b)

/-- The module of each OCCUPIED slot stands in it, and each module in service has its slot (R114). -/
structure State.SlotsSeated (s : State) : Prop where
  seated  : ∀ p m, s.slot p = .occupied m → s.Seats m (.slot p)
  serving : ∀ i, (s.record i).serves → ∃ p, s.slot p = .occupied (s.refOf i)

/-- Each order has its slot, its modules and its number (R168 to R170). -/
structure State.OrdersSeated (s : State) : Prop where
  slots    : ∀ i o, s.order i = .order o → s.slot o.slot = .reserved i o.work.outgoing
  incoming : ∀ i o m, s.order i = .order o → o.work.incoming = some m → s.Seats m (.incoming i)
  outgoing : ∀ i o m, s.order i = .order o → o.work.outgoing = some m → s.Seats m (.outgoing i)
  reserved : ∀ p i m, s.slot p = .reserved i m → ∃ o, s.order i = .order o ∧ o.slot = p
  numbers  : ∀ i j o x, s.order i = .order o → s.order j = .order x → o.number = x.number → i = j

/-- The slots that hold something are in use (R108). -/
def State.HeldInUse (s : State) : Prop :=
  ∀ p, s.slotInUse p = false → (∀ m, s.slot p ≠ .occupied m) ∧ ∀ i m, s.slot p ≠ .reserved i m

/-- No two valid stations share an address (R19). -/
def StationsApart (t : Vector Station 32) : Prop :=
  ∀ j k, (t.get j).valid = true → (t.get k).valid = true → (t.get j).address = (t.get k).address → j = k

/-- The parts of the agreement of places. -/
structure State.Placed (s : State) : Prop where
  tags     : s.TagsApart
  bays     : s.BaysSeated
  slots    : s.SlotsSeated
  orders   : s.OrdersSeated
  inUse    : s.HeldInUse
  stations : StationsApart s.mu.active.stat

theorem placesAgree_iff (s : State) : PlacesAgree s ↔ s.Placed where
  mp h :=
    { tags := h.tags
      bays := fun b m occupant => (s.seats_bay_iff m b).mpr (h.bays b m occupant)
      slots := ⟨fun p m slot => (s.seats_slot_iff m p).mpr (h.slots p m slot), h.serving⟩
      orders := ⟨h.orders, fun i o m order work => (s.seats_incoming_iff m i).mpr (h.incoming i o m order work),
        fun i o m order work => (s.seats_outgoing_iff m i).mpr (h.outgoing i o m order work), h.reserved, h.numbers⟩
      inUse := h.inUse
      stations := h.stations }
  mpr h :=
    { tags := h.tags
      bays := fun b m occupant => (s.seats_bay_iff m b).mp (h.bays b m occupant)
      slots := fun p m slot => (s.seats_slot_iff m p).mp (h.slots.seated p m slot)
      serving := h.slots.serving
      orders := h.orders.slots
      incoming := fun i o m order work => (s.seats_incoming_iff m i).mp (h.orders.incoming i o m order work)
      outgoing := fun i o m order work => (s.seats_outgoing_iff m i).mp (h.orders.outgoing i o m order work)
      reserved := h.orders.reserved
      numbers := h.orders.numbers
      inUse := h.inUse
      stations := h.stations }

/-! ## What a change of records leaves -/

/-- A record that is not FREE was not FREE before, under the same tag. -/
def ModuleRecord.KeepsTag (r x : ModuleRecord) : Prop := x.state ≠ .free → r.state ≠ .free ∧ x.tag = r.tag

/-- A module in a bay stays there. -/
def ModuleRecord.KeepsBay (r x : ModuleRecord) : Prop :=
  ∀ b, r.seat = some (.bay b) → x.seat = some (.bay b) ∧ x.generation = r.generation

/-- A module in a slot or of an order stays there, and none comes into service. -/
structure ModuleRecord.KeepsWork (r x : ModuleRecord) : Prop where
  seat    : ∀ z, r.seat = some z → (∃ b, z = .bay b) ∨ x.seat = some z ∧ x.generation = r.generation
  serving : x.serves → r.serves ∧ x.generation = r.generation

/-- A module stays where it was, under its tag. -/
structure ModuleRecord.Stays (r x : ModuleRecord) : Prop where
  tag  : r.KeepsTag x
  bay  : r.KeepsBay x
  work : r.KeepsWork x

theorem ModuleRecord.KeepsTag.refl (r : ModuleRecord) : r.KeepsTag r := fun some => ⟨some, rfl⟩

theorem ModuleRecord.KeepsTag.trans {r x y : ModuleRecord} (h : r.KeepsTag x) (k : x.KeepsTag y) : r.KeepsTag y := by
  intro some
  obtain ⟨some, tag⟩ := k some
  obtain ⟨some, tag'⟩ := h some
  exact ⟨some, tag.trans tag'⟩

theorem ModuleRecord.KeepsBay.refl (r : ModuleRecord) : r.KeepsBay r := fun _ seat => ⟨seat, rfl⟩

theorem ModuleRecord.KeepsBay.trans {r x y : ModuleRecord} (h : r.KeepsBay x) (k : x.KeepsBay y) : r.KeepsBay y := by
  intro b seat
  obtain ⟨seat, generation⟩ := h b seat
  obtain ⟨seat, generation'⟩ := k b seat
  exact ⟨seat, generation'.trans generation⟩

theorem ModuleRecord.KeepsWork.refl (r : ModuleRecord) : r.KeepsWork r :=
  ⟨fun _ seat => .inr ⟨seat, rfl⟩, fun serves => ⟨serves, rfl⟩⟩

theorem ModuleRecord.KeepsWork.trans {r x y : ModuleRecord} (h : r.KeepsWork x) (k : x.KeepsWork y) :
    r.KeepsWork y := by
  refine ⟨fun z seat => ?_, fun serves => ?_⟩
  · rcases h.seat z seat with bay | ⟨seat, generation⟩
    · exact .inl bay
    · exact (k.seat z seat).imp_right fun ⟨seat, generation'⟩ => ⟨seat, generation'.trans generation⟩
  · obtain ⟨serves, generation⟩ := k.serving serves
    obtain ⟨serves, generation'⟩ := h.serving serves
    exact ⟨serves, generation.trans generation'⟩

theorem ModuleRecord.Stays.refl (r : ModuleRecord) : r.Stays r := ⟨.refl r, .refl r, .refl r⟩

theorem ModuleRecord.Stays.trans {r x y : ModuleRecord} (h : r.Stays x) (k : x.Stays y) : r.Stays y :=
  ⟨h.tag.trans k.tag, h.bay.trans k.bay, h.work.trans k.work⟩

/-- A module of no place comes into none: nothing names it before or after. -/
theorem ModuleRecord.Stays.of_unseated {r x : ModuleRecord} (tag : r.KeepsTag x) (seat : r.seat = none)
    (serving : ¬ x.serves) : r.Stays x where
  tag := tag
  bay _ some := by rw [seat] at some; cases some
  work := ⟨fun _ some => (by rw [seat] at some; cases some), fun serves => absurd serves serving⟩

/-- A record with place, generation and tag as they were. -/
theorem ModuleRecord.Stays.of_eq {r x : ModuleRecord} (tag : r.KeepsTag x) (generation : x.generation = r.generation)
    (seat : x.seat = r.seat) (serving : x.serves → r.serves) : r.Stays x where
  tag := tag
  bay _ some := ⟨seat.trans some, generation⟩
  work := ⟨fun _ some => .inr ⟨seat.trans some, generation⟩, fun serves => ⟨serving serves, generation⟩⟩

/-- Every record of the second state is related to that of the first. -/
def State.Each (R : ModuleRecord → ModuleRecord → Prop) (s t : State) : Prop := ∀ i, R (s.record i) (t.record i)

section
variable {R : ModuleRecord → ModuleRecord → Prop} {s t u : State}

theorem State.Each.of_eq (refl : ∀ r, R r r) (mr : t.mr.records = s.mr.records) : s.Each R t := fun i => by
  rw [State.record, State.record, mr]
  exact refl _

theorem State.Each.trans (trans : ∀ {r x y}, R r x → R x y → R r y) (h : s.Each R t) (k : t.Each R u) : s.Each R u :=
  fun i => trans (h i) (k i)

theorem State.Each.imp {Q : ModuleRecord → ModuleRecord → Prop} (h : s.Each R t) (imp : ∀ r x, R r x → Q r x) :
    s.Each Q t := fun i => imp _ _ (h i)

/-- The records of the second state are those of a third. -/
theorem State.Each.to_eq (h : s.Each R t) (mr : u.mr.records = t.mr.records) : s.Each R u := fun i => by
  rw [show u.record i = t.record i by rw [State.record, mr, ← State.record]]
  exact h i

theorem State.Each.setRecord (refl : ∀ r, R r r) {i : ModuleIndex} {x : ModuleRecord} (changed : R (s.record i) x) :
    s.Each R (s.setRecord i x) := fun j => by
  rw [State.record_setRecord]
  split
  · next same => exact same ▸ changed
  · exact refl _

theorem State.Each.claim (refl : ∀ r, R r r) (m : ModuleRef) {l : List ModuleState}
    {f : ModuleRecord → ModuleRecord} (changed : ∀ r : ModuleRecord, r.state ∈ l → R r (f r)) :
    s.Each R (s.claim m l f) := by
  by_cases found : s.standsIn m l
  · rw [State.claim_applied found]
    exact .setRecord refl (changed _ found.2)
  · rw [State.claim_declined found]
    exact fun i => refl _

theorem State.Each.claimModule (refl : ∀ r, R r r) (m : Option ModuleRef) {l : List ModuleState}
    {f : ModuleRecord → ModuleRecord} (changed : ∀ r : ModuleRecord, r.state ∈ l → R r (f r)) :
    s.Each R (s.claimModule m l f) := by
  unfold State.claimModule
  split
  · exact .claim refl _ changed
  · exact fun i => refl _

end

/-! ## The parts under a change of records -/

theorem State.TagsApart.of_keeps {s t : State} (h : s.TagsApart) (records : s.Each ModuleRecord.KeepsTag t) : t.TagsApart := by
  intro i j hi hj same
  obtain ⟨hi, tag⟩ := records i hi
  obtain ⟨hj, tag'⟩ := records j hj
  exact h i j hi hj (tag.symm.trans (same.trans tag'))

/-- A record may take a tag that no other record has. -/
theorem State.TagsApart.setRecord {s : State} (h : s.TagsApart) {i : ModuleIndex} {x : ModuleRecord}
    (new : ∀ j, j ≠ i → (s.record j).state ≠ .free → (s.record j).tag ≠ x.tag) : (s.setRecord i x).TagsApart := by
  intro j k hj hk same
  rw [State.record_setRecord] at hj hk same
  rw [State.record_setRecord] at same
  by_cases first : i = j <;> by_cases second : i = k
  · exact first.symm.trans second
  · rw [if_neg second] at hk
    rw [if_pos first, if_neg second] at same
    exact absurd same.symm (new k (Ne.symm second) hk)
  · rw [if_neg first] at hj
    rw [if_neg first, if_pos second] at same
    exact absurd same (new j (Ne.symm first) hj)
  · rw [if_neg first] at hj same
    rw [if_neg second] at hk same
    exact h j k hj hk same

theorem State.Seats.of_keepsBay {s t : State} {m : ModuleRef} {b : Bay} (h : s.Seats m (.bay b))
    (record : (s.record m.index).KeepsBay (t.record m.index)) : t.Seats m (.bay b) := by
  obtain ⟨seat, generation⟩ := record b h.seat
  exact ⟨generation.trans h.generation, seat⟩

theorem State.Seats.of_keepsWork {s t : State} {m : ModuleRef} {z : Seat} (h : s.Seats m z) (work : ∀ b, z ≠ .bay b)
    (record : (s.record m.index).KeepsWork (t.record m.index)) : t.Seats m z := by
  rcases record.seat z h.seat with ⟨b, bay⟩ | ⟨seat, generation⟩
  · exact absurd bay (work b)
  · exact ⟨generation.trans h.generation, seat⟩

theorem State.BaysSeated.of_keeps {s t : State} (h : s.BaysSeated) (occupants : ∀ b, t.occupant b = s.occupant b)
    (records : s.Each ModuleRecord.KeepsBay t) : t.BaysSeated :=
  fun b m occupant => (h b m (occupants b ▸ occupant)).of_keepsBay (records m.index)

theorem State.occupant_of_live {s t : State} (live : t.iu.live = s.iu.live) (b : Bay) : t.occupant b = s.occupant b := by
  rw [State.occupant, State.live, live, ← State.live, ← State.occupant]

/-- A slot is as it was, or holds no module and no promise before and after. -/
def State.SlotsAlike (s t : State) : Prop :=
  ∀ p, t.slot p = s.slot p ∨ holdsSomething (s.slot p) = false ∧ holdsSomething (t.slot p) = false

theorem State.SlotsAlike.of_eq {s t : State} (slots : t.sm.slots = s.sm.slots) : s.SlotsAlike t := fun p =>
  .inl (by rw [State.slot, slots, ← State.slot])

/-- A slot that holds something holds the same. -/
theorem State.SlotsAlike.held {s t : State} (h : s.SlotsAlike t) {p : SlotId}
    (held : holdsSomething (s.slot p) = true ∨ holdsSomething (t.slot p) = true) : t.slot p = s.slot p := by
  rcases h p with same | ⟨before, after⟩
  · exact same
  · rw [before, after] at held
    exact absurd held (by decide)

theorem State.SlotsSeated.of_keeps {s t : State} (h : s.SlotsSeated) (slots : s.SlotsAlike t)
    (records : s.Each ModuleRecord.KeepsWork t) : t.SlotsSeated := by
  refine ⟨fun p m occupied => ?_, fun i serves => ?_⟩
  · have same := slots.held (.inr (by rw [occupied]; rfl))
    exact (h.seated p m (same ▸ occupied)).of_keepsWork nofun (records m.index)
  · obtain ⟨serves, generation⟩ := (records i).serving serves
    obtain ⟨p, occupied⟩ := h.serving i serves
    have same := slots.held (.inl (by rw [occupied]; rfl))
    exact ⟨p, same.trans (occupied.trans (by rw [State.refOf, State.refOf, generation]))⟩

/-- What of an Order Table record outlives its stages: slot, number and work (R168). -/
def OrderRecord.core (r : OrderRecord) : Option (SlotId × Byte × OrderWork) := r.order?.map fun o => (o.slot, o.number, o.work)

theorem OrderRecord.order_of_core {r : OrderRecord} {o : Order} (h : r.core = (OrderRecord.order o).core) :
    ∃ x, r = .order x ∧ x.slot = o.slot ∧ x.number = o.number ∧ x.work = o.work := by
  cases r with
  | order x =>
    obtain ⟨slot, rest⟩ := Prod.mk.inj (Option.some.inj h)
    obtain ⟨number, work⟩ := Prod.mk.inj rest
    exact ⟨x, rfl, slot, number, work⟩
  | free => cases h
  | reservedForChoice p => cases h

/-- Every Order Table record holds an order of the same slot, number and work, or none before and after. -/
def State.OrdersAlike (s t : State) : Prop := ∀ j, (t.order j).core = (s.order j).core

theorem State.OrdersAlike.of_eq {s t : State} (table : t.ot.table = s.ot.table) : s.OrdersAlike t := fun j => by
  rw [State.order, table, ← State.order]

theorem State.OrdersSeated.of_keeps {s t : State} (h : s.OrdersSeated) (slots : s.SlotsAlike t)
    (orders : s.OrdersAlike t) (records : s.Each ModuleRecord.KeepsWork t) : t.OrdersSeated := by
  have before : ∀ {j o}, t.order j = .order o →
      ∃ x, s.order j = .order x ∧ x.slot = o.slot ∧ x.number = o.number ∧ x.work = o.work := fun {j o} order =>
    OrderRecord.order_of_core ((orders j).symm.trans (by rw [order]))
  refine ⟨fun j o order => ?_, fun j o m order work => ?_, fun j o m order work => ?_, fun p j m held => ?_,
    fun i j o x first second same => ?_⟩
  · obtain ⟨x, order', slot, -, work⟩ := before order
    have placed := h.slots j x order'
    rw [← slot, ← work, ← placed]
    exact slots.held (.inl (by rw [placed]; rfl))
  · obtain ⟨x, order', -, -, work'⟩ := before order
    exact (h.incoming j x m order' (by rw [work']; exact work)).of_keepsWork nofun (records m.index)
  · obtain ⟨x, order', -, -, work'⟩ := before order
    exact (h.outgoing j x m order' (by rw [work']; exact work)).of_keepsWork nofun (records m.index)
  · rw [slots.held (.inr (by rw [held]; rfl))] at held
    obtain ⟨x, order, slot⟩ := h.reserved p j m held
    obtain ⟨o, order', slot', -⟩ := OrderRecord.order_of_core ((orders j).trans (by rw [order]))
    exact ⟨o, order', slot'.trans slot⟩
  · obtain ⟨y, first', -, number, -⟩ := before first
    obtain ⟨z, second', -, number', -⟩ := before second
    exact h.numbers i j y z first' second' (number.trans (same.trans number'.symm))

theorem State.HeldInUse.of_eq {s t : State} (h : s.HeldInUse) (slots : s.SlotsAlike t)
    (bank : t.mu.active.bank = s.mu.active.bank) : t.HeldInUse := by
  intro p unused
  rw [State.slotInUse, bank] at unused
  obtain ⟨notOccupied, notReserved⟩ := h p unused
  refine ⟨fun m occupied => notOccupied m ?_, fun i m reserved => notReserved i m ?_⟩
  · exact (slots.held (.inr (by rw [occupied]; rfl))).symm.trans occupied
  · exact (slots.held (.inr (by rw [reserved]; rfl))).symm.trans reserved

/-- What leaves bays, slots, orders and active tables, and every module where it was, keeps the places in agreement. -/
theorem State.Placed.of_stays {s t : State} (h : s.Placed) (occupants : ∀ b, t.occupant b = s.occupant b)
    (slots : s.SlotsAlike t) (orders : s.OrdersAlike t) (active : t.mu.active = s.mu.active)
    (records : s.Each ModuleRecord.Stays t) : t.Placed where
  tags := h.tags.of_keeps (records.imp fun _ _ => ModuleRecord.Stays.tag)
  bays := h.bays.of_keeps occupants (records.imp fun _ _ => ModuleRecord.Stays.bay)
  slots := h.slots.of_keeps slots (records.imp fun _ _ => ModuleRecord.Stays.work)
  orders := h.orders.of_keeps slots orders (records.imp fun _ _ => ModuleRecord.Stays.work)
  inUse := h.inUse.of_eq slots (by rw [active])
  stations := by rw [active]; exact h.stations

theorem State.Placed.of_eq {s t : State} (h : s.Placed) (live : t.iu.live = s.iu.live)
    (slots : t.sm.slots = s.sm.slots) (table : t.ot.table = s.ot.table) (active : t.mu.active = s.mu.active)
    (mr : t.mr.records = s.mr.records) : t.Placed :=
  h.of_stays (State.occupant_of_live live) (.of_eq slots) (.of_eq table) active (.of_eq .refl mr)

end Sys2Proof.Machine
end

section
/-! SUPPORT. The operations that leave every module where it was (R52, R62, R82, R88 to R101, R131). -/

namespace Sys2Proof.Machine

/-! ## Records of no place -/

theorem ModuleRecord.seat_of_departed {r : ModuleRecord} (graded : r.state = .graded) (departed : r.departed = true) :
    r.seat = none := by
  unfold ModuleRecord.seat
  rw [graded, departed]
  rfl

theorem ModuleRecord.seat_of_waiting {r : ModuleRecord} (waits : r.poolWaiting = true) : r.seat = none := by
  obtain ⟨graded, departed, -, -⟩ := (ModuleRecord.poolWaiting_iff r).mp waits
  exact ModuleRecord.seat_of_departed graded departed

theorem ModuleRecord.seat_of_pooled {r : ModuleRecord} (pooled : r.state = .pooled) : r.seat = none := by
  unfold ModuleRecord.seat
  rw [pooled]

theorem ModuleRecord.seat_of_held {r : ModuleRecord} (held : r.state = .held) : r.seat = none := by
  unfold ModuleRecord.seat
  rw [held]

theorem ModuleRecord.seat_of_free {r : ModuleRecord} (free : r.state = .free) : r.seat = none := by
  unfold ModuleRecord.seat
  rw [free]

theorem ModuleRecord.not_serves {r : ModuleRecord} {st : ModuleState} (state : r.state = st) (inService : st ≠ .inService)
    (watch : st ≠ .watch) : ¬ r.serves := by
  rintro (h | h)
  · exact inService (state.symm.trans h)
  · exact watch (state.symm.trans h)

theorem ModuleRecord.stays_pooled {r : ModuleRecord} (seat : r.seat = none) (here : r.state ≠ .free) :
    r.Stays r.pooled :=
  .of_unseated (fun _ => ⟨here, rfl⟩) seat (ModuleRecord.not_serves (st := .pooled) rfl nofun nofun)

theorem ModuleRecord.stays_waiting {r : ModuleRecord} (seat : r.seat = none) (here : r.state ≠ .free) :
    r.Stays r.waitsForPool :=
  .of_unseated (fun _ => ⟨here, rfl⟩) seat (ModuleRecord.not_serves (st := .graded) rfl nofun nofun)

theorem ModuleRecord.stays_freed {r : ModuleRecord} (seat : r.seat = none) : r.Stays r.freed :=
  .of_unseated (fun some => absurd rfl some) seat (ModuleRecord.not_serves (st := .free) rfl nofun nofun)

/-! ## The pool -/

section
variable {R : ModuleRecord → ModuleRecord → Prop} {s : State}

theorem State.Each.enterPool (refl : ∀ r, R r r) {i : ModuleIndex} (changed : R (s.record i) (s.record i).pooled) :
    s.Each R (s.enterPool i) := (State.Each.setRecord refl changed).to_eq rfl

theorem State.Each.enterPoolWait (refl : ∀ r, R r r) {i : ModuleIndex}
    (changed : R (s.record i) (s.record i).waitsForPool) : s.Each R (s.enterPoolWait i) :=
  (State.Each.setRecord refl changed).to_eq rfl

theorem State.Each.enterPoolOrWait (refl : ∀ r, R r r) {i : ModuleIndex}
    (pooled : R (s.record i) (s.record i).pooled) (waits : R (s.record i) (s.record i).waitsForPool) :
    s.Each R (s.enterPoolOrWait i) := by
  unfold State.enterPoolOrWait
  split
  · exact .enterPool refl pooled
  · exact .enterPoolWait refl waits

theorem State.Each.goOn (refl : ∀ r, R r r) {i : ModuleIndex} (pooled : R (s.record i) (s.record i).pooled)
    (waits : R (s.record i) (s.record i).waitsForPool) (freed : R (s.record i) (s.record i).freed) :
    s.Each R (s.goOn i) := by
  unfold State.goOn
  split
  · exact .enterPoolOrWait refl pooled waits
  · exact .setRecord refl freed

end

/-- The records on the pool-wait list wait (R131). -/
def State.WaitersWait (s : State) : Prop := ∀ j ∈ s.pe.poolWait, (s.record j).poolWaiting = true

theorem PoolListed.waitersWait {away : List ModuleIndex} {s : State} (h : PoolListed away s) : s.WaitersWait :=
  fun j listed => ((h.waiting j).mp listed).2

/-- A promotion leaves every module where it was (R131). -/
theorem State.WaitersWait.promote {s : State} (h : s.WaitersWait) : s.Each ModuleRecord.Stays s.promote := by
  unfold State.promote
  split
  · exact .of_eq .refl rfl
  · next i rest list =>
    have waits := h i (by rw [list]; exact List.mem_cons_self)
    have graded := ((ModuleRecord.poolWaiting_iff _).mp waits).1
    exact .enterPool (s := s.setPoolWait rest) .refl (ModuleRecord.stays_pooled
      (ModuleRecord.seat_of_waiting waits) (by change (s.record i).state ≠ _; rw [graded]; decide))

theorem State.WaitersWait.leavePool {s : State} (h : s.WaitersWait) (i : ModuleIndex) :
    s.Each ModuleRecord.Stays (s.leavePool i) := State.WaitersWait.promote (s := s.dropFromPool i) h

/-! ## Verdicts, timers, reception -/

theorem Stays.admitVerdict {s : State} (h : PoolListed [] s) {i : ModuleIndex} {rest : List ModuleIndex}
    (claims : s.rp.verdictClaims = i :: rest) : s.Each ModuleRecord.Stays (s.admitVerdict i) := by
  have pending : (s.record i).verdict ≠ none := ((h.claims i).mp (by rw [claims]; exact List.mem_cons_self)).2
  have graded := h.verdicts i List.not_mem_nil pending
  have here : (s.record i).state ≠ .free := by rw [graded]; decide
  unfold State.admitVerdict
  dsimp only
  split
  · exact .of_eq .refl rfl
  · next v _ =>
    have sent : s.Each ModuleRecord.Stays (((s.setRing { s.rp with verdictClaims := s.rp.verdictClaims.erase i }).originate
        kindVerdict s.controllerDestination (verdictBody v (s.record i))).setRecord i
          { s.record i with verdict := none }) :=
      .setRecord (s := State.originate _ _ _ _) .refl (.of_eq (fun some => ⟨some, rfl⟩) rfl rfl id)
    split
    · next departed =>
      refine sent.trans .trans (.goOn .refl ?_ ?_ ?_) <;> rw [State.record_setRecord_same]
      · exact ModuleRecord.stays_pooled (ModuleRecord.seat_of_departed graded departed) here
      · exact ModuleRecord.stays_waiting (ModuleRecord.seat_of_departed graded departed) here
      · exact ModuleRecord.stays_freed (ModuleRecord.seat_of_departed graded departed)
    · exact sent

/-- From SETTLING to TESTING a module stays in its bay (R61, R62). -/
theorem ModuleRecord.stays_testing {r : ModuleRecord} (settling : r.state ∈ [ModuleState.settling]) :
    r.Stays { r with state := .testing } := by
  have settling := List.mem_singleton.mp settling
  refine .of_eq (fun _ => ⟨by rw [settling]; decide, rfl⟩) rfl ?_ fun serves => absurd serves ?_
  · unfold ModuleRecord.seat
    rw [settling]
  · exact ModuleRecord.not_serves (st := .testing) rfl nofun nofun

theorem Stays.startSettle (s : State) (m : ModuleRef) : s.Each ModuleRecord.Stays (s.startSettle m) := by
  unfold State.startSettle
  dsimp only
  split
  · exact State.Each.claim (s := s.setTimer m.index none) .refl m fun _ => ModuleRecord.stays_testing
  · exact .of_eq .refl rfl

theorem Stays.expireTimer (s : State) (i : ModuleIndex) (x : SettleTimer) :
    s.Each ModuleRecord.Stays (s.expireTimer i x) :=
  State.Each.claim (s := (s.reachTime x.expiresAt).setTimer i none) .refl _ fun _ => ModuleRecord.stays_testing

theorem Stays.measureBay (s : State) (b : Bay) (k : Metric) (v : Nat) (w : Int) :
    s.Each ModuleRecord.Stays (s.measureBay b k v w) := by
  unfold State.measureBay
  split
  · exact .of_eq .refl rfl
  · split
    · split
      · exact Stays.startSettle s _
      · exact .of_eq .refl rfl
    · split <;> exact .of_eq .refl rfl

theorem Stays.gapEvent (s : State) (m : ModuleRef) : s.Each ModuleRecord.Stays (s.gapEvent m) :=
  .claim .refl m fun _ _ => .of_eq (fun some => ⟨some, rfl⟩) rfl rfl id

theorem Stays.foldl {α : Type} {R : ModuleRecord → ModuleRecord → Prop} (refl : ∀ r, R r r)
    (trans : ∀ {r x y}, R r x → R x y → R r y) {f : State → α → State} (each : ∀ (s : State) x, s.Each R (f s x)) (l : List α)
    (s : State) : s.Each R (l.foldl f s) := by
  induction l generalizing s with
  | nil => exact fun i => refl _
  | cons x l ih => exact (each s x).trans trans (ih _)

/-- The occupants of bays that are the same for the stations' other live fields. -/
theorem State.occupant_setLive {s : State} {e : Fin 32} {x : StationLive} (bays : x.bays = (s.live e).bays) (b : Bay) :
    (s.setLive e x).occupant b = s.occupant b := by
  rw [State.occupant, State.live_setLive]
  split
  · next same => rw [bays, same, ← State.occupant]
  · rfl

theorem Stays.checkSequence (s : State) (e : Fin 32) (q : Byte) : s.Each ModuleRecord.Stays (s.checkSequence e q) ∧
    ∀ b, (s.checkSequence e q).occupant b = s.occupant b := by
  have event : ∀ (u : State) m, u.Each ModuleRecord.Stays (u.gapEvent m) := fun u m =>
    .claim .refl m fun _ _ => .of_eq (fun some => ⟨some, rfl⟩) rfl rfl id
  unfold State.checkSequence
  dsimp only
  split
  · refine ⟨Stays.foldl .refl .trans event _ (s.setLive e _), fun b => ?_⟩
    have counted := State.occupant_setLive (s := s) (e := e) (x := { s.live e with
      lastSequence := some q
      lostCount := satAdd 255 (s.live e).lostCount (lostAmount (s.live e).lastSequence q) }) rfl b
    exact (State.occupant_of_live (by simp) b).trans counted
  · exact ⟨.of_eq .refl rfl, State.occupant_setLive rfl⟩

theorem Stays.loseOne (s : State) (e : Fin 32) : s.Each ModuleRecord.Stays (s.loseOne e) ∧
    ∀ b, (s.loseOne e).occupant b = s.occupant b := ⟨.of_eq .refl rfl, State.occupant_setLive rfl⟩

theorem Stays.takeSample (s : State) (f : Frame) :
    s.Each ModuleRecord.Stays (s.takeSample f) ∧ ∀ b, (s.takeSample f).occupant b = s.occupant b := by
  unfold State.takeSample State.admitSample
  split
  · split
    · exact Stays.loseOne s _
    · next e _ _ q _ _ =>
      obtain ⟨records, occupants⟩ := Stays.checkSequence s e q
      split
      · refine ⟨records.to_eq (by simp), fun b => (State.occupant_of_live ?_ b).trans (occupants b)⟩
        unfold State.enqueueRecord
        split <;> rfl
      · obtain ⟨records', occupants'⟩ := Stays.loseOne (s.checkSequence e q) e
        exact ⟨records.trans .trans records', fun b => (occupants' b).trans (occupants b)⟩
  · exact ⟨.of_eq .refl rfl, fun b => rfl⟩

theorem Stays.receive (s : State) (c : LineCharacter) :
    s.Each ModuleRecord.Stays (s.receive c) ∧ ∀ b, (s.receive c).occupant b = s.occupant b := by
  rcases s.receive_sampled c with ⟨register, intake⟩ | ⟨u, f, register, intake, register', intake'⟩
  · exact ⟨.of_eq .refl (by rw [register]), State.occupant_of_live (by rw [intake])⟩
  · obtain ⟨records, occupants⟩ := Stays.takeSample u f
    refine ⟨(State.Each.of_eq .refl (by rw [register])).trans .trans (records.to_eq (by rw [register'])), fun b => ?_⟩
    exact (State.occupant_of_live (by rw [intake']) b).trans ((occupants b).trans (State.occupant_of_live (by rw [intake]) b))

/-! ## Completions -/

/-- In service in the same slot. -/
theorem ModuleRecord.stays_serving {r x : ModuleRecord} (serves : r.serves) (serves' : x.serves) (tag : x.tag = r.tag)
    (generation : x.generation = r.generation) (location : x.location = r.location) : r.Stays x := by
  refine .of_eq (fun _ => ⟨?_, tag⟩) generation ?_ fun _ => serves
  · rcases serves with state | state <;> rw [state] <;> decide
  · unfold ModuleRecord.seat
    rcases serves with state | state <;> rcases serves' with state' | state' <;> rw [state, state', location]

/-- From TESTING to GRADED a module stays in its bay (R92). -/
theorem ModuleRecord.stays_graded {r x : ModuleRecord} (testing : r.state = .testing) (graded : x.state = .graded)
    (departed : x.departed = false) (tag : x.tag = r.tag) (generation : x.generation = r.generation)
    (location : x.location = r.location) : r.Stays x := by
  have bay : ∀ b, r.seat = some (.bay b) → x.seat = some (.bay b) ∧ x.generation = r.generation := by
    intro b seat
    obtain ⟨-, -, place⟩ := ModuleRecord.seat_bay_iff.mp seat
    exact ⟨ModuleRecord.seat_bay_iff.mpr ⟨by rw [graded]; decide, departed, location.trans place⟩, generation⟩
  refine ⟨fun _ => ⟨by rw [testing]; decide, tag⟩, bay, fun z seat => .inl ?_, fun serves => ?_⟩
  · unfold ModuleRecord.seat at seat
    rw [testing] at seat
    dsimp only at seat
    split at seat
    · cases seat
    · obtain ⟨b, -, rfl⟩ := Option.map_eq_some_iff.mp seat
      exact ⟨b, rfl⟩
  · exact absurd serves (ModuleRecord.not_serves graded nofun nofun)

theorem Stays.withWatch (r : ModuleRecord) (n : Nat) : r.Stays (r.withWatch n) :=
  .of_eq (fun some => ⟨some, rfl⟩) rfl rfl id

theorem Stays.counted (s : State) (i : ModuleIndex) (n : Nat) :
    s.Each ModuleRecord.Stays (s.setRecord i ((s.record i).withWatch n)) := .setRecord .refl (Stays.withWatch _ n)

theorem Stays.moved {s : State} {i : ModuleIndex} (serves : (s.record i).serves) (n : Nat) {st : ModuleState}
    (serving : st = .inService ∨ st = .watch) : s.Each ModuleRecord.Stays
      ((s.setRecord i ((s.record i).withWatch n)).setRecord i
        (((s.setRecord i ((s.record i).withWatch n)).record i).inState st)) := by
  refine (Stays.counted s i n).trans .trans (.setRecord .refl ?_)
  rw [State.record_setRecord_same]
  exact ModuleRecord.stays_serving serves serving rfl rfl rfl

theorem Stays.regrade {s : State} {i : ModuleIndex} (serving : (s.record i).state.serving) (p : SlotId) :
    s.Each ModuleRecord.Stays (s.regrade i p) := by
  unfold State.regrade
  dsimp only
  split
  · exact .of_eq .refl rfl
  · split
    · exact Stays.counted s i _
    · next notOutbound =>
      have serves : (s.record i).serves := by
        rcases serving with state | state | state
        · exact .inl state
        · exact .inr state
        · exact absurd state notOutbound
      split
      · unfold State.regradeRecovered
        dsimp only
        split
        · split
          · exact Stays.moved serves 0 (.inl rfl)
          · split
            · exact Stays.counted s i 0
            all_goals exact (Stays.moved serves 0 (st := .inService) (.inl rfl)).to_eq (by simp)
        · exact Stays.counted s i 0
      · split
        · refine State.Each.to_eq (t := s.setRecord i
            (((s.record i).withWatch (satInc 15 (s.record i).watchCount)).inState .watch)) (.setRecord .refl ?_)
            (by simp [State.regradeReject])
          exact ModuleRecord.stays_serving serves (.inr rfl) rfl rfl rfl
        all_goals
          unfold State.regradeWorse
          dsimp only
          split
          · exact (Stays.counted s i (satInc 15 (s.record i).watchCount)).to_eq (by simp)
          · split
            · exact (Stays.moved serves (satInc 15 (s.record i).watchCount) (st := .watch) (.inr rfl)).to_eq (by simp)
            · exact Stays.counted s i _

theorem Stays.resolve {s : State} {i : ModuleIndex}
    (state : (s.record i).state = .testing ∨ (s.record i).state.serving) : s.Each ModuleRecord.Stays (s.resolve i) := by
  have graded : s.Each ModuleRecord.Stays
      (s.setRecord i ((s.record i).withGrade (s.mu.active.orig.get (s.record i).originClass))) :=
    .setRecord .refl (.of_eq (fun some => ⟨some, rfl⟩) rfl rfl id)
  have same := State.record_setRecord_same s i ((s.record i).withGrade (s.mu.active.orig.get (s.record i).originClass))
  unfold State.resolve State.afterResolution
  split
  · next _ _ testing =>
    split
    · refine graded.trans .trans (State.Each.trans (t := State.setRecord _ i _) .trans (.setRecord .refl ?_)
        ((State.Each.setRecord .refl ?_).to_eq rfl))
      · exact ModuleRecord.stays_graded testing rfl rfl rfl rfl rfl
      · exact .of_eq (fun some => ⟨some, rfl⟩) rfl rfl id
    · exact graded
  · next location notTesting =>
    refine graded.trans .trans (Stays.regrade ?_ _)
    rw [same]
    exact state.resolve_left fun testing => notTesting (by rw [same]; exact testing)
  · exact graded

theorem Stays.completeEvaluation (s : State) (e : Evaluation) :
    s.Each ModuleRecord.Stays (s.completeEvaluation e) := by
  obtain ⟨t, outcome, completed⟩ := s.completeEvaluation_outcome e
  rw [completed]
  refine State.Each.to_eq (t := t) ?_ rfl
  cases outcome with
  | applied found =>
    have state := PoolRight.expected_cases (State.finds_iff.mp found).2
    have taken : ∀ x, s.Each ModuleRecord.Stays
        (s.setRecord e.module.index ((s.record e.module.index).withEvidence e.metric x)) :=
      fun x => .setRecord .refl (.of_eq (fun some => ⟨some, rfl⟩) rfl rfl id)
    have told : ∀ u : State, s.Each ModuleRecord.Stays u → ∀ x l, s.Each ModuleRecord.Stays (u.tellStringMap e x l) :=
      fun u h x l => h.to_eq (by simp)
    unfold State.applyCompletion
    dsimp only
    refine told _ ?_ _ _
    split
    · exact (taken _).to_eq rfl
    · split
      · exact (taken _).trans .trans (Stays.resolve (by rw [State.record_setRecord_same]; exact state))
      · exact taken _
  | declined => exact .of_eq .refl rfl

theorem completeEvaluation_slots (s : State) (e : Evaluation) : (s.completeEvaluation e).sm.slots = s.sm.slots := by
  obtain ⟨t, outcome, completed⟩ := s.completeEvaluation_outcome e
  rw [completed]
  change t.sm.slots = s.sm.slots
  cases outcome with
  | applied =>
    unfold State.applyCompletion State.tellStringMap
    dsimp only
    have before : ∀ u : State, u.sm = s.sm → ∀ k, (u.recompute k).sm.slots = s.sm.slots := fun u same k =>
      (State.KeysFit.recompute_slots u k).trans (by rw [same])
    split
    · split
      · refine before _ ?_ _
        (repeat' split) <;> simp
      · (repeat' split) <;> simp
    · (repeat' split) <;> simp
  | declined => rfl

end Sys2Proof.Machine
end

section
/-! SUPPORT. Bays: departures, arrivals and the carrying of live fields keep the places in agreement (R31, R44 to R53). -/

namespace Sys2Proof.Machine

/-! ## Modules that leave their bays -/

/-- A module that is not in a slot and of no order may leave its bay, under its tag. -/
structure ModuleRecord.Departs (r x : ModuleRecord) : Prop where
  tag  : r.KeepsTag x
  work : r.KeepsWork x

theorem ModuleRecord.Departs.refl (r : ModuleRecord) : r.Departs r := ⟨.refl r, .refl r⟩

theorem ModuleRecord.Departs.trans {r x y : ModuleRecord} (h : r.Departs x) (k : x.Departs y) : r.Departs y :=
  ⟨h.tag.trans k.tag, h.work.trans k.work⟩

theorem ModuleRecord.Stays.departs {r x : ModuleRecord} (h : r.Stays x) : r.Departs x := ⟨h.tag, h.work⟩

/-- The states of a bay's occupant (R42). -/
abbrev bayStates : List ModuleState := [.settling, .testing, .graded]

theorem ModuleRecord.seat_of_bayState {r : ModuleRecord} (state : r.state ∈ bayStates) {z : Seat}
    (seat : r.seat = some z) : ∃ b, z = .bay b := by
  have located : (if r.departed then none else r.location.bay?.map Seat.bay) = some z := by
    unfold ModuleRecord.seat at seat
    simp only [bayStates, List.mem_cons, List.not_mem_nil, or_false] at state
    rcases state with state | state | state <;> rw [state] at seat <;> exact seat
  split at located
  · cases located
  · obtain ⟨b, -, rfl⟩ := Option.map_eq_some_iff.mp located
    exact ⟨b, rfl⟩

theorem ModuleRecord.KeepsWork.of_bayState {r x : ModuleRecord} (seat : r.seat = none ∨ r.state ∈ bayStates)
    (serving : ¬ x.serves) : r.KeepsWork x where
  seat z some := .inl (seat.elim (fun none => by rw [none] at some; cases some) fun state =>
    ModuleRecord.seat_of_bayState state some)
  serving serves := absurd serves serving

theorem ModuleRecord.departs_of_bayState {r x : ModuleRecord} (state : r.state ∈ bayStates) (tag : x.tag = r.tag)
    (serving : ¬ x.serves) : r.Departs x where
  tag _ := ⟨by
    simp only [bayStates, List.mem_cons, List.not_mem_nil, or_false] at state
    rcases state with state | state | state <;> rw [state] <;> decide, tag⟩
  work := .of_bayState (.inr state) serving

/-- Every record but one is as it was. -/
def State.Others (i : ModuleIndex) (s t : State) : Prop := ∀ j, j ≠ i → t.record j = s.record j

theorem State.Others.refl (i : ModuleIndex) (s : State) : s.Others i s := fun _ _ => rfl

theorem State.Others.trans {i : ModuleIndex} {s t u : State} (h : State.Others i s t) (k : State.Others i t u) :
    State.Others i s u := fun j other => (k j other).trans (h j other)

theorem State.Others.setRecord (s : State) (i : ModuleIndex) (x : ModuleRecord) : State.Others i s (s.setRecord i x) :=
  fun j other => State.record_setRecord_other s i j x (Ne.symm other)

theorem State.Others.of_eq {i : ModuleIndex} {s t : State} (mr : t.mr.records = s.mr.records) : State.Others i s t :=
  fun j _ => by rw [State.record, mr, ← State.record]

theorem State.Others.goOn (s : State) (i : ModuleIndex) : State.Others i s (s.goOn i) := by
  unfold State.goOn State.enterPoolOrWait
  split
  · split
    · exact (State.Others.setRecord s i _).trans (.of_eq rfl)
    · exact (State.Others.setRecord s i _).trans (.of_eq rfl)
  · exact State.Others.setRecord s i _

theorem Stays.makeVerdict (s : State) (i : ModuleIndex) (k : VerdictKind) :
    s.Each ModuleRecord.Stays (s.makeVerdict i k) :=
  (State.Each.setRecord (i := i) (x := { s.record i with verdict := some { kind := k, sequence := s.ge.verdictCounter } })
    .refl (.of_eq (fun some => ⟨some, rfl⟩) rfl rfl id)).to_eq rfl

/-- A departure changes the record of the module that departs alone, and takes it from its bay (R50 to R52). -/
theorem departModule_records (s : State) (m : ModuleRef) :
    State.Others m.index s (s.departModule m) ∧ s.Each ModuleRecord.Departs (s.departModule m) := by
  unfold State.departModule
  split
  · next found =>
    have state : (s.record m.index).state ∈ bayStates :=
      List.mem_of_mem_dropLast (l := bayStates) (State.finds_iff.mp found).2
    have ended : s.Each ModuleRecord.Departs ((s.setTimer m.index none).setRecord m.index (s.record m.index).abandoned) :=
      State.Each.setRecord (s := s.setTimer m.index none) .refl
        (ModuleRecord.departs_of_bayState state rfl (ModuleRecord.not_serves (st := .graded) rfl nofun nofun))
    refine ⟨(State.Others.setRecord (s.setTimer m.index none) m.index _).trans
      ((State.Others.setRecord _ m.index _).trans (.of_eq rfl)), ended.trans .trans ?_⟩
    exact (Stays.makeVerdict _ m.index .abandoned).imp fun _ _ => ModuleRecord.Stays.departs
  · split
    · next found =>
      have graded : (s.record m.index).state = .graded := by
        simpa using (State.finds_iff.mp (Bool.and_eq_true_iff.mp found).1).2
      have left : (s.record m.index).Departs (s.record m.index).leavesBay :=
        ModuleRecord.departs_of_bayState (by rw [graded]; decide) rfl
          (ModuleRecord.not_serves (st := .graded) graded nofun nofun)
      have seat : (s.record m.index).leavesBay.seat = none := ModuleRecord.seat_of_departed graded rfl
      have here : (s.record m.index).leavesBay.state ≠ .free := by
        change (s.record m.index).state ≠ _
        rw [graded]
        decide
      unfold State.departGraded
      dsimp only
      split
      · refine ⟨(State.Others.setRecord s m.index _).trans (.goOn _ _), (State.Each.setRecord .refl left).trans .trans
          (.goOn .refl ?_ ?_ ?_)⟩ <;> rw [State.record_setRecord_same]
        · exact (ModuleRecord.stays_pooled seat here).departs
        · exact (ModuleRecord.stays_waiting seat here).departs
        · exact (ModuleRecord.stays_freed seat).departs
      · exact ⟨.setRecord s m.index _, .setRecord .refl left⟩
    · exact ⟨.refl _ _, .of_eq .refl rfl⟩

/-- What leaves slots, orders and active tables while modules leave bays keeps the places in agreement, if the bays are. -/
theorem State.Placed.of_departs {s t : State} (h : s.Placed) (bays : t.BaysSeated)
    (slots : s.SlotsAlike t) (orders : s.OrdersAlike t) (active : t.mu.active = s.mu.active)
    (records : s.Each ModuleRecord.Departs t) : t.Placed where
  tags := h.tags.of_keeps (records.imp fun _ _ => ModuleRecord.Departs.tag)
  bays := bays
  slots := h.slots.of_keeps slots (records.imp fun _ _ => ModuleRecord.Departs.work)
  orders := h.orders.of_keeps slots orders (records.imp fun _ _ => ModuleRecord.Departs.work)
  inUse := h.inUse.of_eq slots (by rw [active])
  stations := by rw [active]; exact h.stations

/-! ## Bays that name no module on its way -/

/-- The occupant of each bay stands in it, and is not the module of a record. -/
def State.BaysBut (i : ModuleIndex) (s : State) : Prop :=
  ∀ b m, s.occupant b = some m → m.index ≠ i ∧ s.Seats m (.bay b)

theorem State.BaysBut.seated {i : ModuleIndex} {s : State} (h : s.BaysBut i) : s.BaysSeated :=
  fun b m occupant => (h b m occupant).2

/-- A record of no bay is no bay's. -/
theorem State.BaysSeated.but {s : State} (h : s.BaysSeated) {i : ModuleIndex} (seat : ∀ b, (s.record i).seat ≠ some (.bay b)) :
    s.BaysBut i := fun b m occupant => ⟨fun same => seat b (same ▸ (h b m occupant).seat), h b m occupant⟩

theorem State.Seats.of_record {s t : State} {m : ModuleRef} {z : Seat} (h : s.Seats m z)
    (record : t.record m.index = s.record m.index) : t.Seats m z := ⟨record ▸ h.generation, record ▸ h.seat⟩

theorem State.BaysBut.of_others {i : ModuleIndex} {s t : State} (h : s.BaysBut i)
    (occupants : ∀ b, t.occupant b = s.occupant b) (others : State.Others i s t) : t.BaysBut i := by
  intro b m occupant
  obtain ⟨other, seats⟩ := h b m (occupants b ▸ occupant)
  exact ⟨other, seats.of_record (others _ other)⟩

theorem State.BaysBut.of_keeps {i : ModuleIndex} {s t : State} (h : s.BaysBut i)
    (occupants : ∀ b, t.occupant b = s.occupant b) (records : s.Each ModuleRecord.KeepsBay t) : t.BaysBut i := by
  intro b m occupant
  obtain ⟨other, seats⟩ := h b m (occupants b ▸ occupant)
  exact ⟨other, seats.of_keepsBay (records m.index)⟩

theorem State.occupant_clearBay (s : State) (b c : Bay) (m : ModuleRef) :
    (s.clearBay b m).occupant c = if b = c ∧ s.occupant b = some m then none else s.occupant c := by
  unfold State.clearBay
  split
  · next held =>
    rw [State.occupant_setOccupant]
    by_cases same : b = c
    · rw [if_pos same, if_pos ⟨same, held⟩]
    · rw [if_neg same, if_neg fun h => same h.1]
  · next empty => rw [if_neg fun h => empty h.2]

/-- Once its bay is cleared a module is in none (R21). -/
theorem State.BaysSeated.clearBay {s : State} (h : s.BaysSeated) {b : Bay} {m : ModuleRef}
    (bay : ∀ c n, s.occupant c = some n → n.index = m.index → b = c ∧ n = m) : (s.clearBay b m).BaysBut m.index := by
  intro c n occupant
  rw [State.occupant_clearBay] at occupant
  split at occupant
  · cases occupant
  · next other =>
    refine ⟨fun same => other ?_, (h c n occupant).of_record (by simp [State.record])⟩
    obtain ⟨rfl, rfl⟩ := bay c n occupant same
    exact ⟨rfl, occupant⟩

/-- A module is the occupant of one bay only (R21). -/
theorem State.BaysSeated.one {s : State} (h : s.BaysSeated) {b c : Bay} {m n : ModuleRef} (first : s.occupant b = some m)
    (second : s.occupant c = some n) (same : n.index = m.index) : b = c ∧ n = m := by
  have seats := h b m first
  have seats' := h c n second
  have bay : Seat.bay b = .bay c := Option.some.inj (seats.seat.symm.trans (by rw [← same]; exact seats'.seat))
  refine ⟨Seat.bay.inj bay, ?_⟩
  obtain ⟨i, g⟩ := m
  obtain ⟨j, k⟩ := n
  obtain rfl : j = i := same
  exact congrArg (ModuleRef.mk j) (seats'.generation.symm.trans seats.generation)

theorem State.Placed.departFrom {s : State} (h : s.Placed) {b : Bay} {m : ModuleRef} (occupant : s.occupant b = some m) :
    (s.departFrom b m).Placed := by
  have cleared := h.bays.clearBay (b := b) (m := m) fun c n second same => h.bays.one occupant second same
  obtain ⟨others, departs⟩ := departModule_records (s.clearBay b m) m
  have left : ((s.clearBay b m).departModule m).BaysBut m.index :=
    cleared.of_others (State.occupant_of_live (by simp)) others
  refine h.of_departs left.seated (.of_eq (by simp)) (.of_eq (by simp)) (by simp) ?_
  exact State.Each.trans (t := s.clearBay b m) .trans (.of_eq .refl (by simp)) departs

theorem State.Placed.departOccupant {s : State} (h : s.Placed) (b : Bay) : (s.departOccupant b).Placed := by
  unfold State.departOccupant
  split
  · next m occupant => exact h.departFrom occupant
  · exact h

theorem State.Placed.departAt {s : State} (h : s.Placed) (b : Bay) (tag : Option Tag) : (s.departAt b tag).Placed := by
  unfold State.departAt
  split
  · exact h.of_eq rfl rfl rfl rfl rfl
  · next m occupant =>
    split
    · exact h.departFrom occupant
    · exact h.of_eq rfl rfl rfl rfl rfl

/-! ## Arrivals -/

/-- The record found for a tag is not FREE and has it (R40). -/
theorem State.findTag_holds {s : State} {tag : Tag} {i : ModuleIndex} (h : s.findTag tag = some i) :
    (s.record i).state ≠ .free ∧ (s.record i).tag = tag := by
  simpa [State.record] using (lowest_some h).1

theorem State.findTag_absent {s : State} {tag : Tag} (h : s.findTag tag = none) (j : ModuleIndex)
    (here : (s.record j).state ≠ .free) : (s.record j).tag ≠ tag := by
  have absent := lowest_none.mp h j
  change (decide ((s.record j).state ≠ .free) && decide ((s.record j).tag = tag)) = false at absent
  simpa [here] using absent

/-- An arrival in a record that no bay names: its module is in the bay alone (R48). -/
theorem State.Placed.completeArrival {s : State} (h : s.Placed) {i : ModuleIndex} (away : s.BaysBut i)
    (seat : (s.record i).seat = none ∨ (s.record i).state ∈ bayStates) {tag : Tag}
    (new : ∀ j, j ≠ i → (s.record j).state ≠ .free → (s.record j).tag ≠ tag) (c : Fin 16) (b : Bay) :
    (s.completeArrival i tag c b).Placed := by
  let x := (s.record i).renewed.arrived tag c s.mr.arrivalCounter b
  have work : s.Each ModuleRecord.KeepsWork (s.setRecord i x) :=
    .setRecord .refl (.of_bayState seat (ModuleRecord.not_serves (st := .settling) rfl nofun nofun))
  unfold State.completeArrival
  dsimp only
  generalize settled : ({ s.setRecord i x with mr := { (s.setRecord i x).mr with
    arrivalCounter := satInc Config.arrivalMax (s.setRecord i x).mr.arrivalCounter } } : State) = u
  have record : ∀ j, u.record j = (s.setRecord i x).record j := by subst settled; exact fun _ => rfl
  have same : u.record i = x := by rw [record, State.record_setRecord_same]
  have records : s.Each ModuleRecord.KeepsWork (u.setBay b (u.refOf i)) := fun j => by
    change (s.record j).KeepsWork (u.record j)
    rw [record]
    exact work j
  have sm : u.sm = s.sm := by subst settled; rfl
  have ot : u.ot = s.ot := by subst settled; rfl
  have mu : u.mu = s.mu := by subst settled; rfl
  have arrived : (u.setBay b (u.refOf i)).Placed := by
    refine ⟨fun j k => ?_, fun d m occupant => ?_, h.slots.of_keeps (.of_eq (congrArg StringMap.slots sm)) records,
      h.orders.of_keeps (.of_eq (congrArg StringMap.slots sm)) (.of_eq (congrArg OrderTracker.table ot)) records,
      h.inUse.of_eq (.of_eq (congrArg StringMap.slots sm)) (congrArg (fun mu => mu.active.bank) mu), ?_⟩
    · change (u.record j).state ≠ _ → (u.record k).state ≠ _ → (u.record j).tag = (u.record k).tag → j = k
      rw [record, record]
      exact h.tags.setRecord new j k
    · rw [State.setBay, State.occupant_setOccupant] at occupant
      split at occupant
      · next here =>
        obtain rfl := Option.some.inj occupant
        refine ⟨rfl, ?_⟩
        change (u.record i).seat = some (.bay d)
        rw [same, ← here]
        rfl
      · have before : s.occupant d = some m := by subst settled; exact occupant
        obtain ⟨other, seats⟩ := away d m before
        exact seats.of_record ((record _).trans (State.record_setRecord_other s i _ x (Ne.symm other)))
    · change StationsApart u.mu.active.stat
      rw [mu]
      exact h.stations
  exact arrived.of_stays (State.occupant_of_live (by simp)) (.of_eq (by simp)) (.of_eq (by simp)) (by simp) (Stays.startSettle _ _)

/-- A promotion makes no record anything but POOLED. -/
theorem State.record_promote (s : State) (j : ModuleIndex) :
    s.promote.record j = s.record j ∨ (s.promote.record j).state = .pooled := by
  unfold State.promote
  split
  · exact .inl rfl
  · next i rest _ =>
    have record : ((s.setPoolWait rest).enterPool i).record j = (s.setRecord i (s.record i).pooled).record j := rfl
    rw [record, State.record_setRecord]
    split
    · exact .inr rfl
    · exact .inl rfl

/-- A module released for retest is in no bay, and no other module moved (R46). -/
theorem State.Placed.releaseForRetest {s : State} (h : s.Placed) (waiters : s.WaitersWait) {i : ModuleIndex}
    (retestable : (s.record i).retestable = true) :
    (s.releaseForRetest i).Placed ∧ (s.releaseForRetest i).BaysBut i ∧
      (((s.releaseForRetest i).record i).seat = none ∨ ((s.releaseForRetest i).record i).state ∈ bayStates) ∧
      s.Each ModuleRecord.Stays (s.releaseForRetest i) := by
  have away : (s.record i).seat = none → s.BaysBut i := fun seat => h.bays.but fun b => by rw [seat]; nofun
  unfold State.releaseForRetest
  split
  · next pooled =>
    have seat := ModuleRecord.seat_of_pooled pooled
    have stays := waiters.leavePool i
    have live : (s.leavePool i).iu.live = s.iu.live := by simp
    refine ⟨h.of_stays (State.occupant_of_live live) (.of_eq (by simp)) (.of_eq (by simp)) (by simp) stays,
      (away seat).of_keeps (State.occupant_of_live live) (stays.imp fun _ _ => ModuleRecord.Stays.bay), .inl ?_, stays⟩
    rcases (s.dropFromPool i).record_promote i with same | pooled'
    · exact (congrArg ModuleRecord.seat same).trans seat
    · exact ModuleRecord.seat_of_pooled pooled'
  · next notPooled =>
    split
    · next waits =>
      have seat := ModuleRecord.seat_of_waiting waits
      exact ⟨h.of_eq rfl rfl rfl rfl rfl, (away seat).of_others (fun _ => rfl) (.of_eq rfl), .inl seat, .of_eq .refl rfl⟩
    · next notWaiting =>
      have sent : (s.record i).inBayVerdictSent = true := by
        simpa [ModuleRecord.retestable, notPooled, notWaiting] using retestable
      simp only [ModuleRecord.inBayVerdictSent, Bool.and_eq_true, decide_eq_true_eq] at sent
      obtain ⟨⟨graded, -⟩, -⟩ := sent
      have state : (s.record i).state ∈ bayStates := by rw [graded]; decide
      split
      · next old location =>
        have cleared : (s.clearBay old (s.refOf i)).BaysBut i := by
          refine h.bays.clearBay (m := s.refOf i) fun c n occupant same => ?_
          have seats := h.bays c n occupant
          obtain ⟨-, -, place⟩ := ModuleRecord.seat_bay_iff.mp seats.seat
          obtain ⟨k, g⟩ := n
          obtain rfl : k = i := same
          rw [Location.bay?_eq_some, place] at location
          exact ⟨(Location.bay.inj location).symm, congrArg (ModuleRef.mk k) seats.generation.symm⟩
        have records : (s.clearBay old (s.refOf i)).mr.records = s.mr.records := by simp
        have record : (s.clearBay old (s.refOf i)).record i = s.record i := by rw [State.record, records, ← State.record]
        exact ⟨h.of_departs cleared.seated (.of_eq (by simp)) (.of_eq (by simp)) (by simp) (.of_eq .refl records), cleared,
          .inr (by rw [record]; exact state), .of_eq .refl records⟩
      · next absent =>
        refine ⟨h, h.bays.but fun b seat => ?_, .inr state, .of_eq .refl rfl⟩
        rw [(ModuleRecord.seat_bay_iff.mp seat).2.2] at absent
        cases absent

theorem State.Placed.arriveTag {s : State} (h : s.Placed) (waiters : s.WaitersWait) (b : Bay) (tag : Tag) (c : Fin 16) :
    (s.arriveTag b tag c).Placed := by
  unfold State.arriveTag
  split
  · next i found =>
    obtain ⟨here, held⟩ := State.findTag_holds found
    have new : ∀ j, j ≠ i → (s.record j).state ≠ .free → (s.record j).tag ≠ tag := fun j other here' same =>
      other (h.tags j i here' here (same.trans held.symm))
    split
    · next retestable =>
      obtain ⟨placed, away, seat, stays⟩ := h.releaseForRetest waiters retestable
      refine placed.completeArrival away seat (fun j other here' => ?_) c b
      obtain ⟨before, tag⟩ := (stays j).tag here'
      rw [tag]
      exact new j other before
    · exact h.of_eq rfl rfl rfl rfl rfl
  · next absent =>
    split
    · next i lowest =>
      have free : (s.record i).state = .free := of_decide_eq_true (lowest_some lowest).1
      have seat := ModuleRecord.seat_of_free free
      exact h.completeArrival (h.bays.but fun b => by rw [seat]; nofun) (.inl seat)
        (fun j _ here => State.findTag_absent absent j here) c b
    · exact h.of_eq rfl rfl rfl rfl rfl

end Sys2Proof.Machine
end

section
/-! SUPPORT. A commit carries bays by address and keeps the places in agreement (R19, R31, R108, R109, R194). -/

namespace Sys2Proof.Machine

/-! ## Validation -/

/-- What a commit valid at its safe point says of the slots that go out of use and of the stations (R19, R108, R193). -/
theorem validate_none {s : State} {mask : BitVec 5} (valid : s.validate mask = none) :
    (names mask .bank = true → s.geometryFailure (mergedTables mask s.mu.active s.mu.shadow).bank = none) ∧
      ((names mask .stat || names mask .bank) = true →
        stationsFailure (mergedTables mask s.mu.active s.mu.shadow).stat
          (mergedTables mask s.mu.active s.mu.shadow).bank = none) := by
  have both : ∀ {x y : Option CommitFailure}, orElseFailure x y = none → x = none ∧ y = none := by
    intro x y h
    cases x with
    | none => exact ⟨rfl, h⟩
    | some f => cases h
  obtain ⟨geometry, rest⟩ := both valid
  obtain ⟨stations, -⟩ := both rest
  exact ⟨fun named => by rwa [if_pos named] at geometry, fun named => by rwa [if_pos named] at stations⟩

theorem mem_allSlots (p : SlotId) : p ∈ allSlots := by
  obtain ⟨i, k⟩ := p
  simp [allSlots, positions]

/-- With no geometry failure no slot that holds something goes out of use (R108). -/
theorem State.inUse_of_geometry {s : State} {new : BankSettings} (h : s.geometryFailure new = none) {p : SlotId}
    (used : s.slotInUse p = true) (held : holdsSomething (s.slot p) = true) : inUse new p = true := by
  have none := List.find?_eq_none.mp (Option.map_eq_none_iff.mp h) p (mem_allSlots p)
  simpa [used, held] using none

/-- With no station failure no two valid entries share an address (R19). -/
theorem stationsApart_of_valid {t : Vector Station 32} {b : BankSettings} (h : stationsFailure t b = none) :
    StationsApart t := by
  have lower : ∀ i j : Fin 32, j < i → (t.get i).valid = true → (t.get j).valid = true →
      (t.get j).address ≠ (t.get i).address := by
    intro i j before valid valid' same
    have passes := List.findSome?_eq_none_iff.mp h i (List.mem_finRange i)
    have listed : t.get j ∈ lowerEntries t i := by
      refine List.mem_take_iff_getElem.mpr ⟨j.val, ?_, rfl⟩
      simpa using before
    have shared : ((lowerEntries t i).any fun x => x.valid && decide (x.address = (t.get i).address)) = true :=
      List.any_eq_true.mpr ⟨t.get j, listed, by simp [valid', same]⟩
    simp [stationFailure, valid, shared] at passes
  intro j k validJ validK same
  rcases lt_trichotomy j k with before | equal | after
  · exact absurd same (lower k j before validK validJ)
  · exact equal
  · exact absurd same.symm (lower j k after validJ validK)

/-! ## Carried bays -/

/-- The entry of an address is valid and has it (R18). -/
theorem findStation_some {t : Vector Station 32} {a : Byte} {e : Fin 32} (h : findStation t a = some e) :
    (t.get e).valid = true ∧ (t.get e).address = a := by
  simpa using (lowest_some h).1

theorem findStation_of_apart {t : Vector Station 32} (apart : StationsApart t) {e : Fin 32} (valid : (t.get e).valid = true) :
    findStation t (t.get e).address = some e := by
  cases found : findStation t (t.get e).address with
  | none =>
    have absent := lowest_none.mp found e
    simp [valid] at absent
  | some k =>
    obtain ⟨valid', same⟩ := findStation_some found
    rw [apart k e valid' valid same]

/-- The occupant that a bay starts with after a Station Table commit was that of a kept bay (R31). -/
theorem carried_kept {old new : Vector Station 32} {live : Vector StationLive 32} (apart : StationsApart new) {e : Fin 32}
    {c : Fin 4} {m : ModuleRef} (occupant : (carriedLive old live (new.get e)).bays.get c = some m) :
    ∃ j, (live.get j).bays.get c = some m ∧ keptAt old new j c = some e := by
  have empty : StationLive.cleared.bays.get c = none := get_replicate _ c
  unfold carriedLive at occupant
  split at occupant
  · next valid =>
    split at occupant
    · rw [empty] at occupant
      cases occupant
    · next j found =>
      rw [get_tabulate] at occupant
      split at occupant
      · next kept =>
        obtain ⟨valid', same⟩ := findStation_some found
        refine ⟨j, occupant, ?_⟩
        rw [keptAt, if_pos valid', same, findStation_of_apart apart valid]
        exact if_pos kept
      · cases occupant
  · rw [empty] at occupant
    cases occupant

theorem mem_allBays (b : Bay) : b ∈ allBays := by
  obtain ⟨e, c⟩ := b
  simp [allBays]

/-- A record moved to a bay. -/
def ModuleRecord.atBay (r : ModuleRecord) (b : Bay) : ModuleRecord := { r with location := .bay b }

/-- The claims of a Station Table commit rewrite a module's location when one of them is for it, and leave it when none
is (R31). -/
theorem record_moveOccupants {m : ModuleRef} {b : Bay} (l : List (ModuleRef × Bay)) {s : State}
    (own : ∀ x ∈ l, x.1.index = m.index → x = (m, b)) (stands : s.standsIn m bayStates) :
    (l.foldl State.moveOccupant s).record m.index =
      if (m, b) ∈ l then (s.record m.index).atBay b else s.record m.index := by
  induction l generalizing s with
  | nil => rfl
  | cons x l ih =>
    have rest : ∀ y ∈ l, y.1.index = m.index → y = (m, b) := fun y listed => own y (List.mem_cons_of_mem _ listed)
    rw [List.foldl_cons]
    by_cases same : x.1.index = m.index
    · obtain rfl := own x List.mem_cons_self same
      have record : (s.moveOccupant (m, b)).record m.index = (s.record m.index).atBay b := by
        rw [State.moveOccupant, State.claim_applied stands, State.record_setRecord_same]
        rfl
      have stands' : (s.moveOccupant (m, b)).standsIn m bayStates := by
        rw [State.standsIn, record]
        exact stands
      rw [ih rest stands', record, if_pos List.mem_cons_self]
      split <;> rfl
    · have record : (s.moveOccupant x).record m.index = s.record m.index := by
        unfold State.moveOccupant State.claim
        split
        · exact State.record_setRecord_other _ _ _ _ same
        · rfl
      have differs : x ≠ (m, b) := fun equal => same (by rw [equal])
      have stands' : (s.moveOccupant x).standsIn m bayStates := by
        rw [State.standsIn, record]
        exact stands
      rw [ih rest stands', record]
      simp [differs.symm]

/-- The departures of other modules leave a record as it was (R31, R53). -/
theorem record_departModules {i : ModuleIndex} (l : List ModuleRef) {s : State} (others : ∀ m ∈ l, m.index ≠ i) :
    (l.foldl State.departModule s).record i = s.record i := by
  induction l generalizing s with
  | nil => rfl
  | cons m l ih =>
    rw [List.foldl_cons, ih fun n listed => others n (List.mem_cons_of_mem _ listed)]
    exact (departModule_records s m).1 i (Ne.symm (others m List.mem_cons_self))

theorem Departs.moveOccupant (s : State) (x : ModuleRef × Bay) : s.Each ModuleRecord.Departs (s.moveOccupant x) := by
  refine .claim .refl _ fun r state => ModuleRecord.departs_of_bayState state rfl ?_
  rintro (serves | serves)
  · replace serves : r.state = .inService := serves
    simp [serves] at state
  · replace serves : r.state = .watch := serves
    simp [serves] at state

theorem Departs.carryStations (s : State) (old new : Vector Station 32) :
    s.Each ModuleRecord.Departs (s.carryStations old new) := by
  unfold State.carryStations
  dsimp only
  refine State.Each.trans .trans ?_ (Stays.foldl .refl .trans (fun s m => (departModule_records s m).2) _ _)
  refine State.Each.trans .trans ?_ (Stays.foldl .refl .trans Departs.moveOccupant _ _)
  exact .of_eq .refl rfl

/-- After a Station Table commit the occupant of each bay stands in it (R31). -/
theorem State.BaysSeated.carryStations {s : State} (h : s.BaysSeated) {old new : Vector Station 32}
    (apart : StationsApart new) : (s.carryStations old new).BaysSeated := by
  intro b m occupant
  have live : (s.carryStations old new).iu.live = mapEntries (carriedLive old s.iu.live) new := by
    have folds : ∀ {α : Type} (f : State → α → State), (∀ u x, (f u x).iu = u.iu) → ∀ (l : List α) (u : State),
        (l.foldl f u).iu = u.iu := by
      intro α f same l
      induction l with
      | nil => exact fun u => rfl
      | cons x l ih => exact fun u => (ih _).trans (same u x)
    unfold State.carryStations
    dsimp only
    rw [folds State.departModule (by simp), folds State.moveOccupant (by simp [State.moveOccupant])]
  rw [State.occupant, State.live, live, get_mapEntries] at occupant
  obtain ⟨j, before, kept⟩ := carried_kept apart occupant
  have seats := h { entry := j, channel := b.channel } m before
  obtain ⟨state, departed, location⟩ := ModuleRecord.seat_bay_iff.mp seats.seat
  have own : ∀ {c : Bay} {n : ModuleRef}, (s.iu.live.get c.entry).bays.get c.channel = some n → n.index = m.index →
      c = { entry := j, channel := b.channel } ∧ n = m := fun {c n} other same => by
    obtain ⟨bay, module⟩ := h.one (b := { entry := j, channel := b.channel }) (c := c) before other same
    exact ⟨bay.symm, module⟩
  have moves : ∀ x ∈ movedOccupants old new s.iu.live, x.1.index = m.index → x = (m, b) := by
    intro x listed same
    obtain ⟨c, -, found⟩ := List.mem_filterMap.mp listed
    split at found
    · next i n kept' held =>
      split at found
      · cases found
      · obtain rfl := Option.some.inj found
        obtain ⟨rfl, rfl⟩ := own held same
        obtain rfl := Option.some.inj (kept'.symm.trans kept)
        rfl
    · cases found
  have departs : ∀ n ∈ departing old new s.iu.live, n.index ≠ m.index := by
    intro n listed same
    obtain ⟨c, -, found⟩ := List.mem_filterMap.mp listed
    split at found
    · cases found
    · next notKept =>
      obtain ⟨rfl, rfl⟩ := own found same
      rw [kept] at notKept
      exact notKept rfl
  have record : (s.carryStations old new).record m.index =
      if (m, b) ∈ movedOccupants old new s.iu.live then (s.record m.index).atBay b else s.record m.index := by
    unfold State.carryStations
    dsimp only
    rw [record_departModules _ departs]
    exact record_moveOccupants _ moves ⟨seats.generation, state⟩
  have placed : (s.carryStations old new).record m.index = (s.record m.index).atBay b := by
    rw [record]
    split
    · rfl
    · next stays =>
      have here : b.entry = j := by
        by_contra elsewhere
        refine stays (List.mem_filterMap.mpr ⟨{ entry := j, channel := b.channel }, mem_allBays _, ?_⟩)
        simp [kept, before, elsewhere]
      have same : (⟨j, b.channel⟩ : Bay) = b := by rw [← here]
      rw [same] at location
      rw [ModuleRecord.atBay, ← location]
  refine ⟨by rw [placed]; exact seats.generation, ?_⟩
  rw [placed]
  exact ModuleRecord.seat_bay_iff.mpr ⟨state, departed, rfl⟩

/-! ## A commit taken -/

/-- The geometry applied changes no slot that holds something (R108, R109). -/
theorem slotsAlike_geometry {s t : State} (h : s.HeldInUse) {new : BankSettings}
    (geometry : s.geometryFailure new = none) (sm : t.sm = (s.applyGeometry s.mu.active.bank new).sm) :
    s.SlotsAlike t ∧ (t.mu.active.bank = new → t.HeldInUse) := by
  have slot : ∀ p, t.slot p = if inUse new p && !s.slotInUse p then .unknown else s.slot p := by
    intro p
    rw [State.slot, sm]
    simp [State.applyGeometry, get_tabulate, State.slot, State.slotInUse]
  have idle : ∀ p, s.slotInUse p = false → holdsSomething (s.slot p) = false := by
    intro p unused
    obtain ⟨notOccupied, notReserved⟩ := h p unused
    cases state : s.slot p with
    | occupied m => exact absurd state (notOccupied m)
    | reserved i m => exact absurd state (notReserved i m)
    | _ => rfl
  have alike : s.SlotsAlike t := by
    intro p
    rw [slot]
    split
    · next comes =>
      exact .inr ⟨idle p (by simpa using (Bool.and_eq_true_iff.mp comes).2), rfl⟩
    · exact .inl rfl
  refine ⟨alike, fun bank p unused => ?_⟩
  have empty : holdsSomething (t.slot p) = false := by
    by_contra held
    have held : holdsSomething (t.slot p) = true := by simpa using held
    rw [alike.held (.inr held)] at held
    have used : s.slotInUse p = true := by
      by_contra unused
      rw [idle p (by simpa using unused)] at held
      cases held
    have stays := State.inUse_of_geometry geometry used held
    rw [State.slotInUse, bank, stays] at unused
    cases unused
  exact ⟨fun m occupied => (by rw [occupied] at empty; cases empty), fun i m reserved => (by
    rw [reserved] at empty; cases empty)⟩

theorem Departs.commitEffects (s : State) (mask : BitVec 5) (old : Tables) :
    s.Each ModuleRecord.Departs (s.commitEffects mask old) := by
  refine State.commitEffects_keeps (P := fun t => s.Each ModuleRecord.Departs t) (.of_eq .refl rfl)
    (fun _ => Departs.carryStations s _ _) (fun t _ _ _ h _ => h.to_eq rfl) (fun t h => h.trans .trans fun i => ?_)
    (fun t h => h.to_eq rfl) (fun t h => h.to_eq rfl)
  have record : t.clearRuns.record i = (t.record i).runsCleared := get_mapEntries _ _ _
  rw [record]
  exact ModuleRecord.Stays.departs (.of_eq (fun some => ⟨some, rfl⟩) rfl rfl id)

theorem State.BaysSeated.commitEffects {s : State} (h : s.BaysSeated) {mask : BitVec 5} (old : Tables)
    (apart : names mask .stat = true → StationsApart s.mu.active.stat) : (s.commitEffects mask old).BaysSeated := by
  refine State.commitEffects_keeps h (fun named => h.carryStations (apart named))
    (fun t _ _ _ h _ => h.of_keeps (fun _ => rfl) (.of_eq .refl rfl)) (fun t h => h.of_keeps (fun _ => rfl) fun i => ?_)
    (fun t h => h.of_keeps (fun _ => rfl) (.of_eq .refl rfl)) (fun t h => h.of_keeps (fun _ => rfl) (.of_eq .refl rfl))
  have record : t.clearRuns.record i = (t.record i).runsCleared := get_mapEntries _ _ _
  rw [record]
  exact ModuleRecord.Stays.bay (.of_eq (fun some => ⟨some, rfl⟩) rfl rfl id)

theorem State.Placed.settleIfSafe {s : State} (h : s.Placed) : s.settleIfSafe.Placed := by
  have outcome := s.settleIfSafe_outcome
  generalize s.settleIfSafe = t at outcome
  cases outcome with
  | waits => exact h
  | refused f => exact h.of_eq rfl rfl rfl rfl rfl
  | taken mask _ _ _ valid =>
    let new := mergedTables mask s.mu.active s.mu.shadow
    let v := (s.setPendingCommit none).setActive new
    obtain ⟨geometry, stations⟩ := validate_none valid
    have apart : StationsApart new.stat := by
      by_cases named : names mask .stat = true
      · exact stationsApart_of_valid (stations (by simp [named]))
      · have same : new.stat = s.mu.active.stat := if_neg named
        rw [same]
        exact h.stations
    obtain ⟨-, sm⟩ := v.commitEffects_slots mask s.mu.active
    have active : (v.commitEffects mask s.mu.active).mu.active = new := by simp [v, new]
    have bays : (v.commitEffects mask s.mu.active).BaysSeated :=
      State.BaysSeated.commitEffects (s := v) (h.bays.of_keeps (fun _ => rfl) (.of_eq .refl rfl)) _ fun _ => apart
    have departs : s.Each ModuleRecord.Departs (v.commitEffects mask s.mu.active) :=
      fun i => Departs.commitEffects v mask s.mu.active i
    have slots : s.SlotsAlike (v.commitEffects mask s.mu.active) ∧ (v.commitEffects mask s.mu.active).HeldInUse := by
      by_cases named : names mask .bank = true
      · rw [if_pos named] at sm
        obtain ⟨alike, inUse⟩ := slotsAlike_geometry h.inUse (geometry named) sm
        exact ⟨alike, inUse (by rw [active])⟩
      · rw [if_neg named] at sm
        have alike : s.SlotsAlike (v.commitEffects mask s.mu.active) := .of_eq (congrArg StringMap.slots sm)
        have bank : new.bank = s.mu.active.bank := if_neg named
        exact ⟨alike, h.inUse.of_eq alike (by rw [active, bank])⟩
    obtain ⟨alike, inUse⟩ := slots
    have taken : (v.commitEffects mask s.mu.active).Placed :=
      { tags := h.tags.of_keeps (departs.imp fun _ _ => ModuleRecord.Departs.tag)
        bays := bays
        slots := h.slots.of_keeps alike (departs.imp fun _ _ => ModuleRecord.Departs.work)
        orders := h.orders.of_keeps alike (.of_eq (by simp [v])) (departs.imp fun _ _ => ModuleRecord.Departs.work)
        inUse := inUse
        stations := by rw [active]; exact apart }
    exact taken.of_eq rfl rfl rfl rfl rfl

end Sys2Proof.Machine
end

section
/-! SUPPORT. Changes of one slot with the order and the modules it concerns (R118, R162, R176, R181), and the numbers of
orders (R170). -/

namespace Sys2Proof.Machine

/-! ## One slot, its order and its modules -/

/-- The second state is the first with one slot changed, the modules of some records, and the order of one Order Table
record if one is named, so that slot, modules and order agree again. -/
structure State.Reseats (s t : State) (k : Option OrderIndex) (p : SlotId) (away : List ModuleIndex) : Prop where
  occupants : ∀ b, t.occupant b = s.occupant b
  active    : t.mu.active = s.mu.active
  used      : s.slotInUse p = true
  slots     : ∀ q, q ≠ p → t.slot q = s.slot q
  orders    : ∀ j, k ≠ some j → (t.order j).core = (s.order j).core
  bays      : s.Each ModuleRecord.KeepsBay t
  work      : ∀ i, i ∉ away → (s.record i).KeepsWork (t.record i)
  occupied  : ∀ m, s.slot p = .occupied m → m.index ∈ away
  held      : ∀ j m, s.slot p = .reserved j m → k = some j
  own       : ∀ j o, k = some j → s.order j = .order o → o.slot = p
  inSlot    : ∀ i ∈ away, ∀ q, (s.record i).seat = some (.slot q) → q = p
  inOrder   : ∀ i ∈ away, ∀ j, (s.record i).seat = some (.incoming j) ∨ (s.record i).seat = some (.outgoing j) →
    k = some j
  seated    : ∀ m, t.slot p = .occupied m → t.Seats m (.slot p)
  serving   : ∀ i ∈ away, (t.record i).serves → t.slot p = .occupied (t.refOf i)
  made      : ∀ j o, k = some j → t.order j = .order o → o.slot = p ∧ t.slot p = .reserved j o.work.outgoing ∧
    (∀ m, o.work.incoming = some m → t.Seats m (.incoming j)) ∧
    (∀ m, o.work.outgoing = some m → t.Seats m (.outgoing j)) ∧
    ∀ i x, k ≠ some i → s.order i = .order x → x.number ≠ o.number
  reserved  : ∀ j m, t.slot p = .reserved j m → k = some j ∧ ∃ o, t.order j = .order o

namespace State.Reseats

variable {s t : State} {k : Option OrderIndex} {p : SlotId} {away : List ModuleIndex}

theorem slotsSeated (r : s.Reseats t k p away) (h : s.SlotsSeated) : t.SlotsSeated := by
  refine ⟨fun q m occupied => ?_, fun i serves => ?_⟩
  · by_cases here : q = p
    · subst here
      exact r.seated m occupied
    · rw [r.slots q here] at occupied
      have seats := h.seated q m occupied
      exact seats.of_keepsWork nofun (r.work _ fun gone => here (r.inSlot _ gone q seats.seat))
  · by_cases gone : i ∈ away
    · exact ⟨p, r.serving i gone serves⟩
    · obtain ⟨serves, generation⟩ := (r.work i gone).serving serves
      obtain ⟨q, occupied⟩ := h.serving i serves
      have elsewhere : q ≠ p := fun here => gone (r.occupied (s.refOf i) (here ▸ occupied))
      exact ⟨q, (r.slots q elsewhere).trans (occupied.trans (by rw [State.refOf, State.refOf, generation]))⟩

/-- An order of another record is that of the first state, elsewhere than in the slot. -/
theorem other (r : s.Reseats t k p away) (h : s.OrdersSeated) {j : OrderIndex} {o : Order} (differs : k ≠ some j)
    (order : t.order j = .order o) :
    ∃ x, s.order j = .order x ∧ x.slot = o.slot ∧ x.number = o.number ∧ x.work = o.work ∧ o.slot ≠ p := by
  obtain ⟨x, before, slot, number, work⟩ := OrderRecord.order_of_core ((r.orders j differs).symm.trans (by rw [order]))
  refine ⟨x, before, slot, number, work, fun here => ?_⟩
  exact differs (r.held j _ (by rw [← here, ← slot]; exact h.slots j x before))

theorem ordersSeated (r : s.Reseats t k p away) (h : s.OrdersSeated) : t.OrdersSeated := by
  refine ⟨fun j o order => ?_, fun j o m order work => ?_, fun j o m order work => ?_, fun q j m held => ?_,
    fun i j o x first second same => ?_⟩
  · by_cases named : k = some j
    · obtain ⟨slot, reserved, -⟩ := r.made j o named order
      rw [slot, reserved]
    · obtain ⟨x, before, slot, -, work, elsewhere⟩ := r.other h named order
      rw [r.slots _ elsewhere, ← slot, h.slots j x before, work]
  · by_cases named : k = some j
    · obtain ⟨-, -, incoming, -⟩ := r.made j o named order
      exact incoming m work
    · obtain ⟨x, before, -, -, work', -⟩ := r.other h named order
      have seats := h.incoming j x m before (by rw [work']; exact work)
      exact seats.of_keepsWork nofun (r.work _ fun gone => named (r.inOrder _ gone j (.inl seats.seat)))
  · by_cases named : k = some j
    · obtain ⟨-, -, -, outgoing, -⟩ := r.made j o named order
      exact outgoing m work
    · obtain ⟨x, before, -, -, work', -⟩ := r.other h named order
      have seats := h.outgoing j x m before (by rw [work']; exact work)
      exact seats.of_keepsWork nofun (r.work _ fun gone => named (r.inOrder _ gone j (.inr seats.seat)))
  · by_cases here : q = p
    · subst here
      obtain ⟨named, o, order⟩ := r.reserved j m held
      exact ⟨o, order, (r.made j o named order).1⟩
    · rw [r.slots q here] at held
      obtain ⟨x, before, slot⟩ := h.reserved q j m held
      have differs : k ≠ some j := fun named => here (slot.symm.trans (r.own j x named before))
      obtain ⟨o, order, slot', -⟩ := OrderRecord.order_of_core ((r.orders j differs).trans (by rw [before]))
      exact ⟨o, order, slot'.trans slot⟩
  · by_cases named : k = some i <;> by_cases named' : k = some j
    · exact Option.some.inj (named.symm.trans named')
    · obtain ⟨-, -, -, -, fresh⟩ := r.made i o named first
      obtain ⟨y, before, -, number, -⟩ := r.other h named' second
      exact absurd (number.trans same.symm) (fresh j y named' before)
    · obtain ⟨-, -, -, -, fresh⟩ := r.made j x named' second
      obtain ⟨y, before, -, number, -⟩ := r.other h named first
      exact absurd (number.trans same) (fresh i y named before)
    · obtain ⟨y, before, -, number, -⟩ := r.other h named first
      obtain ⟨z, before', -, number', -⟩ := r.other h named' second
      exact h.numbers i j y z before before' (number.trans (same.trans number'.symm))

theorem heldInUse (r : s.Reseats t k p away) (h : s.HeldInUse) : t.HeldInUse := by
  intro q unused
  rw [State.slotInUse, r.active, ← State.slotInUse] at unused
  have elsewhere : q ≠ p := fun here => by rw [here, r.used] at unused; cases unused
  rw [r.slots q elsewhere]
  exact h q unused

theorem placed (r : s.Reseats t k p away) (h : s.Placed) (tags : t.TagsApart) : t.Placed where
  tags := tags
  bays := h.bays.of_keeps r.occupants r.bays
  slots := r.slotsSeated h.slots
  orders := r.ordersSeated h.orders
  inUse := r.heldInUse h.inUse
  stations := by rw [r.active]; exact h.stations

end State.Reseats

/-! ## Numbers -/

theorem State.numberTaken_iff (s : State) (n : Byte) :
    s.numberTaken n = true ↔ n ∈ (s.ot.table.toList.filterMap OrderRecord.order?).map Order.number ++ s.ot.expired := by
  have numbered : ∀ r : OrderRecord, OrderRecord.numbered n r = true ↔ ∃ o, r.order? = some o ∧ o.number = n := by
    intro r
    cases r <;> simp [OrderRecord.numbered, OrderRecord.order?]
  simp only [State.numberTaken, Bool.or_eq_true, List.any_eq_true, List.mem_append, List.mem_map, List.mem_filterMap,
    List.contains_iff_mem, numbered]
  exact or_congr_left ⟨fun ⟨r, listed, o, order, same⟩ => ⟨o, ⟨r, listed, order⟩, same⟩,
    fun ⟨o, ⟨r, listed, order⟩, same⟩ => ⟨r, listed, o, order, same⟩⟩

/-- From a value on, the first free number is reached before the values run out (R170). -/
theorem State.firstNumber_free {s : State} {n : Byte} {d fuel : Nat} (near : d < fuel)
    (free : s.numberTaken (n + BitVec.ofNat 8 d) = false) : s.numberTaken (s.firstNumber fuel n) = false := by
  induction fuel generalizing n d with
  | zero => exact absurd near (Nat.not_lt_zero d)
  | succ fuel ih =>
    unfold State.firstNumber
    split
    · next taken =>
      cases d with
      | zero =>
        rw [show n + BitVec.ofNat 8 0 = n by bv_omega, taken] at free
        cases free
      | succ d =>
        refine ih (d := d) (by omega) ?_
        rwa [show n + 1 + BitVec.ofNat 8 d = n + BitVec.ofNat 8 (d + 1) by
          rw [BitVec.add_assoc]; congr 1; bv_omega]
    · next notTaken => simpa using notTaken

/-- With fewer than 256 numbers taken, the next number is free (R170). -/
theorem State.nextNumber_free {s : State} (expired : s.ot.expired.length ≤ 8) : s.numberTaken s.nextNumber = false := by
  let taken := (s.ot.table.toList.filterMap OrderRecord.order?).map Order.number ++ s.ot.expired
  have few : taken.length ≤ 16 := by
    have table := List.length_filterMap_le OrderRecord.order? s.ot.table.toList
    simp only [taken, List.length_append, List.length_map, Vector.length_toList] at table ⊢
    omega
  obtain ⟨n, -, free⟩ : ∃ n ∈ (Finset.univ : Finset Byte), n ∉ taken.toFinset := by
    refine Finset.exists_mem_notMem_of_card_lt_card ?_
    have card : taken.toFinset.card ≤ 16 := taken.toFinset_card_le.trans few
    have all : (Finset.univ : Finset Byte).card = 256 := by rw [Finset.card_univ, ← FinEnum.card_eq_fintypeCard]; rfl
    omega
  have notTaken : s.numberTaken n = false := by
    refine Bool.eq_false_iff.mpr fun some => free ?_
    exact List.mem_toFinset.mpr ((s.numberTaken_iff n).mp some)
  refine State.firstNumber_free (d := (n - s.ot.numberCounter).toNat) (BitVec.isLt _) ?_
  rwa [BitVec.ofNat_toNat, BitVec.setWidth_eq, show s.ot.numberCounter + (n - s.ot.numberCounter) = n by bv_omega]

/-- The next number is that of no order (R170). -/
theorem State.nextNumber_fresh {s : State} (expired : s.ot.expired.length ≤ 8) {j : OrderIndex} {x : Order}
    (order : s.order j = .order x) : x.number ≠ s.nextNumber := by
  intro same
  have free := State.nextNumber_free expired
  rw [← same] at free
  refine absurd ((s.numberTaken_iff x.number).mpr ?_) (by rw [free]; decide)
  refine List.mem_append.mpr (.inl (List.mem_map.mpr ⟨x, List.mem_filterMap.mpr ⟨s.order j, ?_, by rw [order]; rfl⟩, rfl⟩))
  exact Vector.mem_toList_iff.mpr (Vector.getElem_mem _)

end Sys2Proof.Machine
end

section
/-! SUPPORT. Choices, ends of orders and inventory keep the places in agreement (R120, R122, R162, R176 to R181). -/

namespace Sys2Proof.Machine

/-! ## The modules of an order -/

/-- The records of the modules an order names (R162). -/
def OrderWork.modules (w : OrderWork) : List ModuleIndex :=
  (w.incoming.toList ++ w.outgoing.toList).map ModuleRef.index

theorem OrderWork.mem_modules {w : OrderWork} {i : ModuleIndex} : i ∈ w.modules ↔
    (∃ m, w.incoming = some m ∧ m.index = i) ∨ ∃ m, w.outgoing = some m ∧ m.index = i := by
  simp [OrderWork.modules]

/-- The records of an order's modules are changed, and no other. -/
structure State.Touches (s t : State) (w : OrderWork) (f g : ModuleRecord → ModuleRecord) : Prop where
  incoming : ∀ m, w.incoming = some m → t.record m.index = f (s.record m.index)
  outgoing : ∀ m, w.outgoing = some m → t.record m.index = g (s.record m.index)
  others   : ∀ j, j ∉ w.modules → t.record j = s.record j

theorem State.claimModule_some {s : State} {m : ModuleRef} {l : List ModuleState} (stands : s.standsIn m l)
    (f : ModuleRecord → ModuleRecord) : s.claimModule (some m) l f = s.setRecord m.index (f (s.record m.index)) :=
  State.claim_applied stands f

/-- After the incoming module, the outgoing one. -/
theorem State.Touches.of_claim {s a : State} {w : OrderWork} {f g : ModuleRecord → ModuleRecord} {l : List ModuleState}
    (incoming : ∀ m, w.incoming = some m → a.record m.index = f (s.record m.index))
    (others : ∀ j, (∀ m, w.incoming = some m → m.index ≠ j) → a.record j = s.record j)
    (apart : ∀ m n, w.incoming = some m → w.outgoing = some n → m.index ≠ n.index)
    (stands : ∀ m, w.outgoing = some m → s.standsIn m l) : s.Touches (a.claimModule w.outgoing l g) w f g := by
  cases out : w.outgoing with
  | none =>
    refine ⟨incoming, fun m some => (by rw [out] at some; cases some), fun j away => others j fun m some same => ?_⟩
    exact away (OrderWork.mem_modules.mpr (.inl ⟨m, some, same⟩))
  | some n =>
    have same : a.record n.index = s.record n.index := others _ fun m some => apart m n some out
    have stands' : a.standsIn n l := by
      rw [State.standsIn, same]
      exact stands n out
    rw [State.claimModule_some stands' g]
    refine ⟨fun m some => ?_, fun m some => ?_, fun j away => ?_⟩
    · rw [State.record_setRecord_other _ _ _ _ (Ne.symm (apart m n some out))]
      exact incoming m some
    · obtain rfl := Option.some.inj (out.symm.trans some)
      rw [State.record_setRecord_same, same]
    · have outgoing : n.index ≠ j := fun here => away (OrderWork.mem_modules.mpr (.inr ⟨n, out, here⟩))
      rw [State.record_setRecord_other _ _ _ _ outgoing]
      exact others j fun m some here => away (OrderWork.mem_modules.mpr (.inl ⟨m, some, here⟩))

/-- A record of no bay keeps the bays whatever it becomes. -/
theorem ModuleRecord.keepsBay_of_seat {r x : ModuleRecord} (seat : ∀ b, r.seat ≠ some (.bay b)) : r.KeepsBay x :=
  fun b some => absurd some (seat b)

/-- What each record of an order's modules keeps, every record keeps. -/
theorem State.Touches.each {s t : State} {w : OrderWork} {f g : ModuleRecord → ModuleRecord} (h : s.Touches t w f g)
    {R : ModuleRecord → ModuleRecord → Prop} (refl : ∀ r, R r r)
    (incoming : ∀ m, w.incoming = some m → R (s.record m.index) (f (s.record m.index)))
    (outgoing : ∀ m, w.outgoing = some m → R (s.record m.index) (g (s.record m.index))) : s.Each R t := by
  intro j
  by_cases away : j ∈ w.modules
  · rcases OrderWork.mem_modules.mp away with ⟨m, some, rfl⟩ | ⟨m, some, rfl⟩
    · rw [h.incoming m some]
      exact incoming m some
    · rw [h.outgoing m some]
      exact outgoing m some
  · rw [h.others j away]
    exact refl _

/-! ## The completion of a choice -/

/-- What a choice makes an order of and noted of its slot: the occupant goes out, or the slot is EMPTY (R145, R162). -/
theorem choice_noted {c : Choice} {x : Option ModuleRef} {w : OrderWork} (work : c.work x = some w)
    (fits : slotFits c.noted c.kind = true) :
    w.outgoing = none ∧ c.noted = .empty ∨ ∃ m, w.outgoing = some m ∧ c.noted = .occupied m := by
  have occupied : ∀ m, c.outgoing = some m → c.noted = .occupied m := by
    intro m some
    unfold Choice.outgoing at some
    split at some
    · next n noted => rw [noted, Option.some.inj some]
    all_goals cases some
  cases kind : c.kind with
  | fill =>
    rw [kind] at fits
    cases x with
    | none => simp [Choice.work, kind] at work
    | some m =>
      obtain rfl : OrderWork.insert m = w := by simpa [Choice.work, kind] using work
      exact .inl ⟨rfl, of_decide_eq_true fits⟩
  | replace =>
    cases x with
    | none => simp [Choice.work, kind] at work
    | some m =>
      cases out : c.outgoing with
      | none => simp [Choice.work, kind, out] at work
      | some n =>
        obtain rfl : OrderWork.swap m n = w := by simpa [Choice.work, kind, out] using work
        exact .inr ⟨n, rfl, occupied n out⟩
  | remove =>
    cases out : c.outgoing with
    | none => simp [Choice.work, kind, out] at work
    | some n =>
      obtain rfl : OrderWork.remove n = w := by simpa [Choice.work, kind, out] using work
      exact .inr ⟨n, rfl, occupied n out⟩

/-- What R161 checks of a result. -/
theorem choiceHolds_iff {s : State} {c : Choice} {w : OrderWork} (h : s.choiceHolds c w = true) :
    s.slot c.slot = c.noted ∧ slotFits c.noted c.kind = true ∧
      (∀ m, w.incoming = some m → s.standsIn m [.pooled]) ∧ ∀ m, w.outgoing = some m → s.standsIn m [.watch] := by
  simp only [State.choiceHolds, Bool.and_eq_true, decide_eq_true_eq] at h
  obtain ⟨⟨⟨slot, fits⟩, incoming⟩, outgoing⟩ := h
  refine ⟨slot, fits, fun m some => ?_, fun m some => ?_⟩
  · rw [some] at incoming
    exact State.finds_iff.mp incoming
  · rw [some] at outgoing
    exact State.finds_iff.mp outgoing

theorem State.Placed.applyChoice {s : State} (h : s.Placed) (expired : s.ot.expired.length ≤ 8) {c : Choice}
    {w : OrderWork} (used : s.slotInUse c.slot = true) (reserved : (s.order c.order).order? = none)
    {x : Option ModuleRef} (work : c.work x = some w) (holds : s.choiceHolds c w = true) : (s.applyChoice c w).Placed := by
  obtain ⟨slot, fits, incoming, outgoing⟩ := choiceHolds_iff holds
  have noted := choice_noted work fits
  rw [← slot] at noted
  have free : ∀ m, w.incoming = some m → (s.record m.index).seat = none := fun m some =>
    ModuleRecord.seat_of_pooled (List.mem_singleton.mp (incoming m some).2)
  have placed : ∀ m, w.outgoing = some m → s.slot c.slot = .occupied m := by
    intro m some
    rcases noted with ⟨none, -⟩ | ⟨n, some', occupied⟩
    · rw [none] at some
      cases some
    · rw [some'] at some
      rw [occupied, Option.some.inj some]
  have seats : ∀ m, w.outgoing = some m → (s.record m.index).seat = some (.slot c.slot) := fun m some =>
    (h.slots.seated _ m (placed m some)).seat
  have touched : s.Touches (s.applyChoice c w) w (fun r => r.ordered .assigned c.order)
      fun r => r.ordered .outbound c.order := by
    have claims : ((s.assignIncoming w c.order).claimOutgoing w c.order) =
        (s.assignIncoming w c.order).claimModule w.outgoing [.watch] fun r => r.ordered .outbound c.order := rfl
    have modules : s.Touches ((s.assignIncoming w c.order).claimOutgoing w c.order) w
        (fun r => r.ordered .assigned c.order) fun r => r.ordered .outbound c.order := by
      rw [claims]
      refine .of_claim (fun m some => ?_) (fun j away => ?_) (fun m n some some' same => ?_) outgoing
      · rw [State.assignIncoming, some]
        change (s.assign m c.order).record m.index = _
        rw [State.assign, if_pos (State.finds_iff.mpr (incoming m some))]
        exact State.record_setRecord_same s m.index _
      · unfold State.assignIncoming
        split
        · next m some =>
          unfold State.assign
          split
          · exact State.record_setRecord_other s m.index j _ (away m some)
          · rfl
        · rfl
      · have none := free m some
        rw [same, seats n some'] at none
        cases none
    exact ⟨modules.incoming, modules.outgoing, modules.others⟩
  have sm : ((s.assignIncoming w c.order).claimOutgoing w c.order).sm = s.sm := by simp
  have ot : ((s.assignIncoming w c.order).claimOutgoing w c.order).ot = s.ot := by simp
  have slots : ∀ q, (s.applyChoice c w).slot q = if c.slot = q then .reserved c.order w.outgoing else s.slot q := by
    intro q
    have set : (s.applyChoice c w).slot q = (((s.assignIncoming w c.order).claimOutgoing w c.order).setSlot c.slot
      (.reserved c.order w.outgoing)).slot q := rfl
    rw [set, State.slot_setSlot, State.slot, sm, ← State.slot]
  have orders : ∃ stage, ∀ j, (s.applyChoice c w).order j = if c.order = j then
      .order { stage := stage, slot := c.slot, number := s.nextNumber, work := w } else s.order j := by
    let u := ((s.assignIncoming w c.order).claimOutgoing w c.order).setSlot c.slot (.reserved c.order w.outgoing)
    refine ⟨if u.stringBusy c.slot.string then .deferred else .issuing, fun j => ?_⟩
    have number : u.nextNumber = s.nextNumber := by
      have taken : ∀ n, u.numberTaken n = s.numberTaken n := fun n => by
        rw [State.numberTaken, show u.ot = s.ot from ot, ← State.numberTaken]
      have first : ∀ fuel n, u.firstNumber fuel n = s.firstNumber fuel n := by
        intro fuel
        induction fuel with
        | zero => exact fun n => rfl
        | succ fuel ih => exact fun n => by rw [State.firstNumber, State.firstNumber, taken, ih]
      rw [State.nextNumber, State.nextNumber, first, show u.ot = s.ot from ot]
    have set : (s.applyChoice c w).order j = (u.setOrder c.order (.order
      { stage := if u.stringBusy c.slot.string then .deferred else .issuing
        slot := c.slot, number := u.nextNumber, work := w })).order j := rfl
    rw [set, State.order_setOrder, number, State.order, show u.ot = s.ot from ot, ← State.order]
  obtain ⟨stage, orders⟩ := orders
  have own : (s.applyChoice c w).slot c.slot = .reserved c.order w.outgoing := (slots _).trans (if_pos rfl)
  have reseats : s.Reseats (s.applyChoice c w) (some c.order) c.slot w.modules :=
    { occupants := State.occupant_of_live (by simp)
      active := by simp
      used := used
      slots := fun q other => (slots q).trans (if_neg (Ne.symm other))
      orders := fun j other => by rw [orders, if_neg fun same => other (congrArg some same)]
      bays := by
        refine touched.each .refl (fun m some => ModuleRecord.keepsBay_of_seat fun b => ?_) fun m some => ModuleRecord.keepsBay_of_seat fun b => ?_
        · rw [free m some]
          nofun
        · rw [seats m some]
          nofun
      work := fun i away => by rw [touched.others i away]; exact .refl _
      occupied := fun m occupied => by
        rcases noted with ⟨-, empty⟩ | ⟨n, some, occupied'⟩
        · rw [empty] at occupied
          cases occupied
        · rw [occupied'] at occupied
          exact OrderWork.mem_modules.mpr (.inr ⟨n, some, congrArg ModuleRef.index (SlotRecord.occupied.inj occupied)⟩)
      held := fun j m held => by
        rcases noted with ⟨-, empty⟩ | ⟨n, -, occupied⟩
        · rw [empty] at held
          cases held
        · rw [occupied] at held
          cases held
      own := fun j o same order => by
        obtain rfl := Option.some.inj same
        rw [order] at reserved
        cases reserved
      inSlot := fun i away q seat => by
        rcases OrderWork.mem_modules.mp away with ⟨m, some, rfl⟩ | ⟨m, some, rfl⟩
        · rw [free m some] at seat
          cases seat
        · rw [seats m some] at seat
          exact (Seat.slot.inj (Option.some.inj seat)).symm
      inOrder := fun i away j seat => by
        rcases OrderWork.mem_modules.mp away with ⟨m, some, rfl⟩ | ⟨m, some, rfl⟩
        · rw [free m some] at seat
          exact absurd seat (by simp)
        · rw [seats m some] at seat
          exact absurd seat (by simp)
      seated := fun m occupied => by rw [own] at occupied; cases occupied
      serving := fun i away serves => by
        rcases OrderWork.mem_modules.mp away with ⟨m, some, rfl⟩ | ⟨m, some, rfl⟩
        · rw [touched.incoming m some] at serves
          exact absurd serves (ModuleRecord.not_serves (st := .assigned) rfl nofun nofun)
        · rw [touched.outgoing m some] at serves
          exact absurd serves (ModuleRecord.not_serves (st := .outbound) rfl nofun nofun)
      made := fun j o same order => by
        obtain rfl := Option.some.inj same
        rw [orders, if_pos rfl] at order
        obtain rfl := OrderRecord.order.inj order
        refine ⟨rfl, own, fun m some => ⟨?_, ?_⟩, fun m some => ⟨?_, ?_⟩, fun i x _ order => State.nextNumber_fresh expired order⟩
        · rw [touched.incoming m some]
          exact (incoming m some).1
        · rw [touched.incoming m some]
          rfl
        · rw [touched.outgoing m some]
          exact (outgoing m some).1
        · rw [touched.outgoing m some]
          rfl
      reserved := fun j m held => by
        rw [own] at held
        obtain ⟨rfl, -⟩ := SlotRecord.reserved.inj held
        exact ⟨rfl, _, (orders _).trans (if_pos rfl)⟩ }
  refine reseats.placed h (h.tags.of_keeps (touched.each .refl (fun m some => ?_) fun m some => ?_))
  · exact fun _ => ⟨by rw [List.mem_singleton.mp (incoming m some).2]; decide, rfl⟩
  · exact fun _ => ⟨by rw [List.mem_singleton.mp (outgoing m some).2]; decide, rfl⟩

/-- After an applied result the lists hold what they should, but for a promotion (R162, R164). -/
theorem PoolRight.applied_listed {s : State} (h : PoolRight [] s) {c : Choice} {w : OrderWork}
    (holds : s.choiceHolds c w = true) : PoolListed [] (s.applyChoice c w) := by
  obtain ⟨-, -, incoming, -⟩ := choiceHolds_iff holds
  refine PoolRight.applyRest ?_
  unfold State.assignIncoming
  split
  · next m some => exact (h.assign (State.finds_iff.mpr (incoming m some)) c.order).1
  · exact h.listed

theorem recompute_placed {s : State} (h : s.Placed) (k : Fin 8) : (s.recompute k).Placed :=
  h.of_eq (by simp) (State.KeysFit.recompute_slots s k) (by simp) (by simp) (by simp)

theorem State.Placed.completeChoice {s : State} (h : s.Placed) (pool : PoolRight [] s) (requests : RequestsFit s)
    (orders : OrdersAgree s) (expired : s.ot.expired.length ≤ 8) {c : Choice} (choice : s.pe.choice = some c) :
    (s.completeChoice c).Placed := by
  have reserved : s.order c.order = .reservedForChoice c.slot := orders.reserved c choice
  have freed : ∀ t : State, t.iu = s.iu → t.sm = s.sm → t.ot.table = (s.freeOrderRecord c.order).ot.table → t.mu.active =
      s.mu.active → t.mr = s.mr → t.Placed := by
    intro t iu sm table active mr
    refine h.of_stays (State.occupant_of_live (by rw [iu])) (.of_eq (by rw [sm])) (fun j => ?_) active (.of_eq .refl (by rw [mr]))
    have order : t.order j = if c.order = j then .free else s.order j := by
      rw [State.order, table]
      exact State.order_setOrder s c.order j .free
    rw [order]
    split
    · next same => rw [← same, reserved]; rfl
    · rfl
  obtain ⟨t, outcome, completed⟩ := s.completeChoice_outcome c
  rw [completed]
  refine State.Placed.of_eq (s := t) ?_ rfl rfl rfl rfl rfl
  cases outcome with
  | discarded => exact freed _ rfl rfl rfl rfl rfl
  | noCandidate => exact freed _ rfl rfl rfl rfl rfl
  | applied q w request work holds =>
    have used : s.slotInUse c.slot = true := by
      have same := List.find?_some request
      simp only [Bool.and_eq_true, decide_eq_true_eq] at same
      rw [← same.1]
      exact requests.inUse q (List.mem_of_find?_eq_some request)
    have applied := h.applyChoice expired used (by rw [reserved]; rfl) work holds
    have promoted : (if w.incoming.isSome then (s.applyChoice c w).promote else s.applyChoice c w).Placed :=
      State.ite_keeps applied fun _ => applied.of_stays (State.occupant_of_live (by simp)) (.of_eq (by simp))
        (.of_eq (by simp)) (by simp) (pool.applied_listed holds).waitersWait.promote
    exact State.ite_keeps promoted fun _ => recompute_placed promoted _

/-! ## The end of an order -/

/-- The record of an order that ended is FREE, and the promotion changes no more of another than its stage (R172). -/
theorem closed_orders {s : State} (i : OrderIndex) (o : Order) : (s.closed i o).order i = .free ∧
    ∀ j, j ≠ i → ((s.closed i o).order j).core = (s.order j).core := by
  have freed : ∀ j, (s.freeOrderRecord i).order j = if i = j then .free else s.order j :=
    fun j => State.order_setOrder s i j .free
  unfold State.closed State.promoteDeferred
  split
  · next k x oldest =>
    obtain ⟨order, -⟩ := State.TableOrdered.oldestDeferred_some oldest
    have differs : k ≠ i := fun same => by
      rw [freed, if_pos same.symm] at order
      cases order
    refine ⟨?_, fun j other => ?_⟩
    · rw [State.order_setOrder, if_neg differs, freed, if_pos rfl]
    · rw [State.order_setOrder]
      split
      · next same =>
        rw [same, freed, if_neg (Ne.symm other)] at order
        rw [order]
        rfl
      · rw [freed, if_neg (Ne.symm other)]
  · exact ⟨(freed i).trans (if_pos rfl), fun j other => by rw [freed, if_neg (Ne.symm other)]⟩

/-- An order ends: its slot holds something else, its modules stand elsewhere, and its record is freed (R176, R181). -/
theorem State.Placed.ended {s e : State} (h : s.Placed) {i : OrderIndex} {o : Order} (order : s.order i = .order o)
    {f g : ModuleRecord → ModuleRecord} {y : SlotRecord} (touched : s.Touches e o.work f g)
    (live : e.iu.live = s.iu.live) (table : e.ot.table = s.ot.table) (active : e.mu.active = s.mu.active)
    (slot : ∀ q, e.slot q = if o.slot = q then y else s.slot q)
    (tagF : ∀ r : ModuleRecord, r.state ≠ .free → r.KeepsTag (f r))
    (tagG : ∀ r : ModuleRecord, r.state ≠ .free → r.KeepsTag (g r))
    (notReserved : ∀ j m, y ≠ .reserved j m) (seated : ∀ m, y = .occupied m → e.Seats m (.slot o.slot))
    (serving : ∀ j ∈ o.work.modules, (e.record j).serves → y = .occupied (e.refOf j)) : (e.closed i o).Placed := by
  have incoming : ∀ m, o.work.incoming = some m → (s.record m.index).seat = some (.incoming i) := fun m some =>
    (h.orders.incoming i o m order some).seat
  have outgoing : ∀ m, o.work.outgoing = some m → (s.record m.index).seat = some (.outgoing i) := fun m some =>
    (h.orders.outgoing i o m order some).seat
  have seat : ∀ k ∈ o.work.modules, (s.record k).seat = some (.incoming i) ∨ (s.record k).seat = some (.outgoing i) := by
    intro k away
    rcases OrderWork.mem_modules.mp away with ⟨m, some, rfl⟩ | ⟨m, some, rfl⟩
    · exact .inl (incoming m some)
    · exact .inr (outgoing m some)
  have held := h.orders.slots i o order
  obtain ⟨freed, others⟩ := closed_orders (s := e) i o
  have order' : ∀ j, e.order j = s.order j := fun j => by rw [State.order, table, ← State.order]
  have slots : ∀ q, (e.closed i o).slot q = e.slot q := fun q => by rw [State.slot, State.slot]; simp
  have record : ∀ j, (e.closed i o).record j = e.record j := fun j => by rw [State.record, State.record]; simp
  have own : (e.closed i o).slot o.slot = y := by rw [slots, slot, if_pos rfl]
  have here : ∀ {m z}, e.Seats m z → (e.closed i o).Seats m z := fun seats => seats.of_record (record _)
  have nonFree : ∀ k ∈ o.work.modules, (s.record k).state ≠ .free := by
    intro k away free
    have none := ModuleRecord.seat_of_free free
    rcases seat k away with seat | seat <;> rw [none] at seat <;> cases seat
  have reseats : s.Reseats (e.closed i o) (some i) o.slot o.work.modules :=
    { occupants := State.occupant_of_live (by simp [live])
      active := by simp [active]
      used := by
        by_contra unused
        exact (h.inUse o.slot (by simpa using unused)).2 i _ held
      slots := fun q other => by rw [slots, slot, if_neg (Ne.symm other)]
      orders := fun j other => (others j fun same => other (by rw [same])).trans (by rw [order'])
      bays := by
        refine (touched.each .refl (fun m some => ModuleRecord.keepsBay_of_seat fun b => ?_) fun m some =>
          ModuleRecord.keepsBay_of_seat fun b => ?_).to_eq (by simp)
        · rw [incoming m some]
          nofun
        · rw [outgoing m some]
          nofun
      work := fun k away => by rw [record, touched.others k away]; exact .refl _
      occupied := fun m occupied => by rw [held] at occupied; cases occupied
      held := fun j m reserved => by
        rw [held] at reserved
        rw [(SlotRecord.reserved.inj reserved).1]
      own := fun j x same found => by
        obtain rfl := Option.some.inj same
        rw [order] at found
        rw [OrderRecord.order.inj found]
      inSlot := fun k away q inSlot => by
        rcases seat k away with seat | seat <;> rw [seat] at inSlot <;> cases inSlot
      inOrder := fun k away j inOrder => by
        rcases seat k away with seat | seat <;> rw [seat] at inOrder <;> simpa using inOrder
      seated := fun m occupied => here (seated m (own.symm.trans occupied))
      serving := fun k away serves => by
        rw [record] at serves
        rw [own, serving k away serves, State.refOf, State.refOf, record]
      made := fun j x same found => by
        obtain rfl := Option.some.inj same
        rw [freed] at found
        cases found
      reserved := fun j m reserved => absurd (own.symm.trans reserved) (notReserved j m) }
  refine reseats.placed h (h.tags.of_keeps ((touched.each .refl (fun m some => ?_) fun m some => ?_).to_eq (by simp)))
  · exact tagF _ (nonFree _ (OrderWork.mem_modules.mpr (.inl ⟨m, some, rfl⟩)))
  · exact tagG _ (nonFree _ (OrderWork.mem_modules.mpr (.inr ⟨m, some, rfl⟩)))

theorem State.releaseSlot_held {s : State} {p : SlotId} {i : OrderIndex} {x : Option ModuleRef}
    (held : s.slot p = .reserved i x) (y : SlotRecord) : s.releaseSlot p i y = s.setSlot p y := by
  unfold State.releaseSlot
  rw [held]
  exact if_pos rfl

/-- What the end of an order leaves but for its slot and its modules. -/
theorem slot_ended {s t u : State} {p : SlotId} {i : OrderIndex} {x : Option ModuleRef} (held : s.slot p = .reserved i x)
    (sm : t.sm = s.sm) {y : SlotRecord} (slots : u.sm.slots = (t.releaseSlot p i y).sm.slots) (q : SlotId) :
    u.slot q = if p = q then y else s.slot q := by
  have same : ∀ r, t.slot r = s.slot r := fun r => by rw [State.slot, sm, ← State.slot]
  rw [State.slot, slots, State.releaseSlot_held ((same p).trans held), ← State.slot, State.slot_setSlot, same]

theorem keepsTag_of_eq {r x : ModuleRecord} (tag : x.tag = r.tag) (here : r.state ≠ .free) : r.KeepsTag x :=
  fun _ => ⟨here, tag⟩

/-- The modules of an order, and that they are not the same (R169). -/
theorem State.OrdersSeated.modules {s : State} (h : s.OrdersSeated) {i : OrderIndex} {o : Order}
    (order : s.order i = .order o) : (∀ m, o.work.incoming = some m → s.standsIn m [.assigned]) ∧
      (∀ m, o.work.outgoing = some m → s.standsIn m [.outbound]) ∧
      ∀ m n, o.work.incoming = some m → o.work.outgoing = some n → m.index ≠ n.index := by
  refine ⟨fun m some => ((s.seats_incoming_iff m i).mp (h.incoming i o m order some)).1,
    fun m some => ((s.seats_outgoing_iff m i).mp (h.outgoing i o m order some)).1, fun m n some some' same => ?_⟩
  have seat := (h.incoming i o m order some).seat
  have seat' := (h.outgoing i o n order some').seat
  rw [same, seat'] at seat
  cases seat

/-- Both modules of an order claimed at its end (R177, R181). -/
theorem touches_claims {s : State} (h : s.OrdersSeated) {i : OrderIndex} {o : Order} (order : s.order i = .order o)
    (f g : ModuleRecord → ModuleRecord) :
    s.Touches ((s.claimModule o.work.incoming [.assigned] f).claimModule o.work.outgoing [.outbound] g) o.work f g := by
  obtain ⟨incoming, outgoing, apart⟩ := h.modules order
  refine .of_claim (fun m some => ?_) (fun j away => ?_) apart outgoing
  · rw [some, State.claimModule_some (incoming m some), State.record_setRecord_same]
  · cases inc : o.work.incoming with
    | none => rfl
    | some m =>
      rw [State.claimModule_some (incoming m inc)]
      exact State.record_setRecord_other _ _ _ _ (away m inc)

theorem State.Touches.to_eq {s t u : State} {w : OrderWork} {f g : ModuleRecord → ModuleRecord} (h : s.Touches t w f g)
    (mr : u.mr.records = t.mr.records) : s.Touches u w f g := by
  have record : ∀ j, u.record j = t.record j := fun j => by rw [State.record, mr, ← State.record]
  exact ⟨fun m some => by rw [record, h.incoming m some], fun m some => by rw [record, h.outgoing m some],
    fun j away => by rw [record, h.others j away]⟩

theorem State.Placed.endExpired {s : State} (h : s.Placed) {i : OrderIndex} {o : Order} (order : s.order i = .order o) :
    ((s.endExpired i o).closed i o).Placed := by
  have touched := (touches_claims h.orders order ModuleRecord.heldBack ModuleRecord.heldBack).to_eq
    (u := s.endExpired i o) (by simp [State.endExpired])
  refine h.ended order (y := .unknown) touched (by simp) (by simp) (by simp [State.endExpired])
    (slot_ended (h.orders.slots i o order) (t := (s.claimModule o.work.incoming [.assigned]
      ModuleRecord.heldBack).claimModule o.work.outgoing [.outbound] ModuleRecord.heldBack) (by simp) rfl)
    (fun r => keepsTag_of_eq rfl) (fun r => keepsTag_of_eq rfl) nofun nofun fun j away serves => ?_
  rcases OrderWork.mem_modules.mp away with ⟨m, some, rfl⟩ | ⟨m, some, rfl⟩
  · rw [touched.incoming m some] at serves
    exact absurd serves (ModuleRecord.not_serves (st := .held) rfl nofun nofun)
  · rw [touched.outgoing m some] at serves
    exact absurd serves (ModuleRecord.not_serves (st := .held) rfl nofun nofun)

end Sys2Proof.Machine
end

section
/-! SUPPORT. Reports of orders, inventory and every other event keep the places in agreement (O60). -/

namespace Sys2Proof.Machine

/-! ## Reported orders -/

theorem State.refOf_eq {s : State} {m : ModuleRef} (generation : (s.record m.index).generation = m.generation) :
    s.refOf m.index = m := by
  rw [State.refOf, generation]

/-- Slots, bays, orders and active tables are as they were. -/
structure State.Around (s t : State) : Prop where
  sm     : t.sm = s.sm
  live   : t.iu.live = s.iu.live
  table  : t.ot.table = s.ot.table
  active : t.mu.active = s.mu.active

theorem around_claims (s : State) (x y : Option ModuleRef) (l k : List ModuleState) (f g : ModuleRecord → ModuleRecord) :
    s.Around ((s.claimModule x l f).claimModule y k g) := ⟨by simp, by simp, by simp, by simp⟩

theorem around_returned (s : State) (x y : Option ModuleRef) (k : List ModuleState) (g : ModuleRecord → ModuleRecord) :
    s.Around ((s.returnToPool x).claimModule y k g) := ⟨by simp, by simp, by simp, by simp⟩

theorem State.Placed.endDone {s : State} (h : s.Placed) {i : OrderIndex} {o : Order} (order : s.order i = .order o) :
    ((s.endDone i o).closed i o).Placed := by
  obtain ⟨incoming, -, -⟩ := h.orders.modules order
  have held := h.orders.slots i o order
  have touched := touches_claims h.orders order (fun r => r.placed o.slot) ModuleRecord.freed
  have around := around_claims s o.work.incoming o.work.outgoing [.assigned] [.outbound] (fun r => r.placed o.slot)
    ModuleRecord.freed
  have freed : ∀ {e : State}, s.Touches e o.work (fun r => r.placed o.slot) ModuleRecord.freed → ∀ m,
      o.work.outgoing = some m → ¬ (e.record m.index).serves := fun touched m some serves => by
    rw [touched.outgoing m some] at serves
    exact ModuleRecord.not_serves (st := .free) rfl nofun nofun serves
  unfold State.endDone
  dsimp only
  generalize (s.claimModule o.work.incoming [.assigned] fun r => r.placed o.slot).claimModule o.work.outgoing
    [.outbound] ModuleRecord.freed = t at touched around ⊢
  obtain ⟨sm, live, table, active⟩ := around
  split
  · next m inc =>
    have touched : s.Touches ((t.releaseSlot o.slot i (.occupied m)).recompute o.slot.string) o.work _ _ :=
      touched.to_eq (by simp)
    have generation : (((t.releaseSlot o.slot i (.occupied m)).recompute o.slot.string).record m.index).generation =
        m.generation := by
      rw [touched.incoming m inc]
      exact (incoming m inc).1
    refine h.ended order (y := .occupied m) touched (by simpa using live) (by simpa using table) (by simpa using active)
      (slot_ended held sm (State.KeysFit.recompute_slots _ _)) (fun r => keepsTag_of_eq rfl)
      (fun r _ some => absurd rfl some) nofun (fun n same => ?_) fun j away serves => ?_
    · obtain rfl := SlotRecord.occupied.inj same
      refine ⟨generation, ?_⟩
      rw [touched.incoming _ inc]
      rfl
    · rcases OrderWork.mem_modules.mp away with ⟨n, some, rfl⟩ | ⟨n, some, rfl⟩
      · obtain rfl := Option.some.inj (inc.symm.trans some)
        rw [State.refOf_eq generation]
      · exact absurd serves (freed touched n some)
  · next inc =>
    have touched : s.Touches ((t.releaseSlot o.slot i .empty).raiseRequest o.slot .fill .ready) o.work _ _ :=
      touched.to_eq (by simp)
    refine h.ended order (y := .empty) touched (by simpa using live) (by simpa using table) (by simpa using active)
      (slot_ended held sm (by simp)) (fun r => keepsTag_of_eq rfl) (fun r _ some => absurd rfl some) nofun nofun
      fun j away serves => ?_
    rcases OrderWork.mem_modules.mp away with ⟨n, some, rfl⟩ | ⟨n, some, rfl⟩
    · rw [inc] at some
      cases some
    · exact absurd serves (freed touched n some)

/-- A record as the incoming module of a refused order returns (R130, R178). -/
def ModuleRecord.backToPool (room : Bool) (r : ModuleRecord) : ModuleRecord := if room then r.pooled else r.waitsForPool

theorem touches_returned {s : State} (h : s.OrdersSeated) {i : OrderIndex} {o : Order} (order : s.order i = .order o)
    (g : ModuleRecord → ModuleRecord) : s.Touches ((s.returnToPool o.work.incoming).claimModule o.work.outgoing
      [.outbound] g) o.work (ModuleRecord.backToPool s.poolHasRoom) g := by
  obtain ⟨incoming, outgoing, apart⟩ := h.modules order
  have returned : ∀ m, o.work.incoming = some m → (s.returnToPool o.work.incoming).mr.records =
      (s.setRecord m.index (ModuleRecord.backToPool s.poolHasRoom (s.record m.index))).mr.records := by
    intro m some
    rw [some, State.returnToPool, if_pos (State.finds_iff.mpr (incoming m some)), State.enterPoolOrWait,
      ModuleRecord.backToPool]
    split <;> rfl
  refine .of_claim (fun m some => ?_) (fun j away => ?_) apart outgoing
  · rw [State.record, returned m some]
    exact State.record_setRecord_same s m.index _
  · cases inc : o.work.incoming with
    | none => rfl
    | some m =>
      rw [← inc, State.record, returned m inc]
      exact State.record_setRecord_other s m.index j _ (away m inc)

theorem State.Placed.endRefused {s : State} (h : s.Placed) {i : OrderIndex} {o : Order} (order : s.order i = .order o) :
    ((s.endRefused i o).closed i o).Placed := by
  obtain ⟨-, outgoing, -⟩ := h.orders.modules order
  have held := h.orders.slots i o order
  have touched := touches_returned h.orders order fun r => r.returned o.slot
  have around := around_returned s o.work.incoming o.work.outgoing [.outbound] fun r => r.returned o.slot
  have back : ∀ r : ModuleRecord, r.state ≠ .free → r.KeepsTag (r.backToPool s.poolHasRoom) := by
    intro r here
    unfold ModuleRecord.backToPool
    split <;> exact keepsTag_of_eq rfl here
  have pooled : ∀ {e : State}, s.Touches e o.work (ModuleRecord.backToPool s.poolHasRoom) (fun r => r.returned o.slot) →
      ∀ m, o.work.incoming = some m → ¬ (e.record m.index).serves := fun touched m some serves => by
    rw [touched.incoming m some, ModuleRecord.backToPool] at serves
    split at serves
    · exact ModuleRecord.not_serves (st := .pooled) rfl nofun nofun serves
    · exact ModuleRecord.not_serves (st := .graded) rfl nofun nofun serves
  unfold State.endRefused
  dsimp only
  generalize (s.returnToPool o.work.incoming).claimModule o.work.outgoing [.outbound] (fun r => r.returned o.slot) = t
    at touched around ⊢
  obtain ⟨sm, live, table, active⟩ := around
  split
  · next m out =>
    generalize raised : ((t.releaseSlot o.slot i (.occupied m)).recompute o.slot.string).raiseRequest o.slot
      (((t.releaseSlot o.slot i (.occupied m)).recompute o.slot.string).refusedKind o.work) .waiting = e
    have touched : s.Touches e o.work _ _ := touched.to_eq (by subst raised; simp)
    have generation : (e.record m.index).generation = m.generation := by
      rw [touched.outgoing m out]
      exact (outgoing m out).1
    refine h.ended order (y := .occupied m) touched (by subst raised; simpa using live) (by subst raised; simpa using table)
      (by subst raised; simpa using active) (slot_ended held sm ?_) back (fun r => keepsTag_of_eq rfl) nofun
      (fun n same => ?_) fun j away serves => ?_
    · subst raised
      rw [← State.KeysFit.recompute_slots (t.releaseSlot o.slot i (.occupied m)) o.slot.string]
      simp
    · obtain rfl := SlotRecord.occupied.inj same
      refine ⟨generation, ?_⟩
      rw [touched.outgoing _ out]
      rfl
    · rcases OrderWork.mem_modules.mp away with ⟨n, some, rfl⟩ | ⟨n, some, rfl⟩
      · exact absurd serves (pooled touched n some)
      · obtain rfl := Option.some.inj (out.symm.trans some)
        rw [State.refOf_eq generation]
  · next out =>
    have touched : s.Touches ((t.releaseSlot o.slot i .empty).raiseRequest o.slot
        ((t.releaseSlot o.slot i .empty).refusedKind o.work) .waiting) o.work _ _ := touched.to_eq (by simp)
    refine h.ended order (y := .empty) touched (by simpa using live) (by simpa using table) (by simpa using active)
      (slot_ended held sm (by simp)) back (fun r => keepsTag_of_eq rfl) nofun nofun fun j away serves => ?_
    rcases OrderWork.mem_modules.mp away with ⟨n, some, rfl⟩ | ⟨n, some, rfl⟩
    · exact absurd serves (pooled touched n some)
    · rw [out] at some
      cases some

/-! ## Inventory -/

/-- The record of an OCCUPIED slot's module (R114). -/
def SlotRecord.occupantIndex : SlotRecord → List ModuleIndex
  | .occupied m => [m.index]
  | .unknown | .empty | .reserved _ _ | .blocked => []

theorem SlotRecord.mem_occupantIndex {x : SlotRecord} {i : ModuleIndex} :
    i ∈ x.occupantIndex ↔ ∃ m, x = .occupied m ∧ m.index = i := by
  cases x <;> simp [SlotRecord.occupantIndex, eq_comm]

/-- A slot that is not RESERVED is changed with modules of no place but the slot itself (R120, R122). -/
theorem State.Placed.refilled {s t : State} (h : s.Placed) {p : SlotId} {away : List ModuleIndex}
    (around : t.iu.live = s.iu.live ∧ t.ot.table = s.ot.table ∧ t.mu.active = s.mu.active) (used : s.slotInUse p = true)
    {y : SlotRecord} (slot : ∀ q, t.slot q = if p = q then y else s.slot q)
    (tags : t.TagsApart) (bays : s.Each ModuleRecord.KeepsBay t)
    (work : ∀ i, i ∉ away → (s.record i).KeepsWork (t.record i)) (occupied : ∀ i ∈ (s.slot p).occupantIndex, i ∈ away)
    (unreserved : ∀ j m, s.slot p ≠ .reserved j m) (seat : ∀ i ∈ away, ∀ z, (s.record i).seat = some z → z = .slot p)
    (seated : ∀ m, y = .occupied m → t.Seats m (.slot p))
    (serving : ∀ i ∈ away, (t.record i).serves → y = .occupied (t.refOf i)) (notReserved : ∀ j m, y ≠ .reserved j m) :
    t.Placed := by
  obtain ⟨live, table, active⟩ := around
  have own : t.slot p = y := (slot p).trans (if_pos rfl)
  refine State.Reseats.placed (k := none) (p := p) (away := away) ?_ h tags
  exact
    { occupants := State.occupant_of_live live
      active := active
      used := used
      slots := fun q other => (slot q).trans (if_neg (Ne.symm other))
      orders := fun j _ => State.OrdersAlike.of_eq table j
      bays := bays
      work := work
      occupied := fun m same => occupied _ (SlotRecord.mem_occupantIndex.mpr ⟨m, same, rfl⟩)
      held := fun j m same => absurd same (unreserved j m)
      own := nofun
      inSlot := fun i gone q same => Seat.slot.inj (seat i gone _ same)
      inOrder := fun i gone j same => by
        rcases same with same | same <;> cases seat i gone _ same
      seated := fun m same => seated m (own.symm.trans same)
      serving := fun i gone serves => own.trans (serving i gone serves)
      made := nofun
      reserved := fun j m same => absurd (own.symm.trans same) (notReserved j m) }

/-- The module displaced from a slot becomes FREE, and no other module moves (R122). -/
theorem displaced {s : State} (h : s.Placed) (p : SlotId) : s.Each ModuleRecord.KeepsTag (s.displace p) ∧
    s.Each ModuleRecord.KeepsBay (s.displace p) ∧
    (∀ i, i ∉ (s.slot p).occupantIndex → (s.displace p).record i = s.record i) ∧
    ∀ i ∈ (s.slot p).occupantIndex, (s.record i).seat = some (.slot p) ∧ ((s.displace p).record i).state = .free := by
  unfold State.displace
  split
  · next m occupied =>
    have seats := h.slots.seated p m occupied
    have stands := ((s.seats_slot_iff m p).mp seats).1
    rw [State.claim_applied stands, occupied]
    refine ⟨.setRecord .refl fun some => absurd rfl some, .setRecord .refl (ModuleRecord.keepsBay_of_seat fun b => ?_),
      fun i other => ?_, fun i same => ?_⟩
    · rw [seats.seat]
      nofun
    · exact State.record_setRecord_other _ _ _ _ fun same => other (by simp [SlotRecord.occupantIndex, same])
    · obtain rfl := List.mem_singleton.mp same
      exact ⟨seats.seat, by rw [State.record_setRecord_same]; rfl⟩
  all_goals
    next slot =>
      rw [slot]
      exact ⟨.of_eq .refl rfl, .of_eq .refl rfl, fun _ _ => rfl, nofun⟩

theorem occupy_slot (s : State) (p : SlotId) (i : ModuleIndex) (q : SlotId) :
    (s.occupy p i).slot q = if p = q then .occupied (s.refOf i) else s.slot q := by
  have slots : (s.occupy p i).sm.slots = (s.setSlot p (.occupied (s.refOf i))).sm.slots :=
    State.KeysFit.recompute_slots _ _
  rw [State.slot, slots, ← State.slot, State.slot_setSlot]

/-- A record put in a slot in the place of the module displaced from it (R122). -/
theorem State.Placed.occupied {s t : State} (h : s.Placed) {p : SlotId} (fillable : s.Fillable p) {i : ModuleIndex}
    {x : ModuleRecord} (around : t.iu.live = s.iu.live ∧ t.ot.table = s.ot.table ∧ t.mu.active = s.mu.active)
    (sm : t.sm = s.sm) (seat : ∀ z, (s.record i).seat = some z → z = .slot p)
    (placed : x.seat = some (.slot p)) (moved : ((s.displace p).setRecord i x).Each ModuleRecord.Stays t)
    (tags : ((s.displace p).setRecord i x).TagsApart) : (t.occupy p i).Placed := by
  obtain ⟨-, bays, others, out⟩ := displaced h p
  have records : (t.occupy p i).mr.records = t.mr.records := by simp
  have record : ∀ j, (t.occupy p i).record j = t.record j := fun j => by rw [State.record, records, ← State.record]
  have elsewhere : ∀ b, ((s.displace p).record i).seat ≠ some (.bay b) := by
    intro b same
    by_cases displaced : i ∈ (s.slot p).occupantIndex
    · rw [ModuleRecord.seat_of_free (out i displaced).2] at same
      cases same
    · rw [others i displaced] at same
      cases seat _ same
  have stays : ((t.occupy p i).record i).seat = some (.slot p) := by
    have own := moved i
    rw [State.record_setRecord_same] at own
    rcases own.work.seat _ placed with ⟨b, bay⟩ | ⟨same, -⟩
    · cases bay
    · rw [record]
      exact same
  refine h.refilled (away := i :: (s.slot p).occupantIndex) (y := .occupied (t.refOf i)) (by simpa using around)
    fillable.inUse (fun q => ?_) ?_ ?_ (fun j away => ?_) (fun j => List.mem_cons_of_mem _) fillable.reserved
    (fun j away z some => ?_) (fun m same => ?_) (fun j away serves => ?_) nofun
  · rw [occupy_slot, State.slot, sm, ← State.slot]
  · exact (tags.of_keeps (moved.imp fun _ _ => ModuleRecord.Stays.tag)).of_keeps (.of_eq .refl records)
  · refine State.Each.to_eq (t := t) ?_ records
    exact (bays.trans .trans (.setRecord .refl (ModuleRecord.keepsBay_of_seat elsewhere))).trans .trans
      (moved.imp fun _ _ => ModuleRecord.Stays.bay)
  · obtain ⟨other, stays⟩ := not_or.mp (List.mem_cons.not.mp away)
    have own := (moved j).work
    rw [State.record_setRecord_other _ _ _ _ (Ne.symm other), others j stays] at own
    rw [record]
    exact own
  · rcases List.mem_cons.mp away with rfl | displaced
    · exact seat z some
    · rw [(out j displaced).1] at some
      exact (Option.some.inj some).symm
  · obtain rfl := SlotRecord.occupied.inj same
    exact ⟨congrArg ModuleRecord.generation (record i), stays⟩
  · by_cases same : j = i
    · rw [same, State.refOf, State.refOf, record]
    · have displaced := (List.mem_cons.mp away).resolve_left same
      have own := (moved j).work
      rw [State.record_setRecord_other _ _ _ _ (Ne.symm same)] at own
      rw [record] at serves
      exact absurd (own.serving serves).1 (ModuleRecord.not_serves (out j displaced).2 nofun nofun)

theorem displace_around (s : State) (p : SlotId) :
    ((s.displace p).iu.live = s.iu.live ∧ (s.displace p).ot.table = s.ot.table ∧
      (s.displace p).mu.active = s.mu.active) ∧ (s.displace p).sm = s.sm := by
  simp

theorem State.Placed.takeFor {s : State} (h : s.Placed) (pool : PoolRight [] s) {p : SlotId} (fillable : s.Fillable p)
    {i : ModuleIndex} (takable : (s.record i).takable = true) : (s.takeFor p i).Placed := by
  have none : (s.record i).seat = none := by
    simp only [ModuleRecord.takable, Bool.or_eq_true, decide_eq_true_eq] at takable
    rcases takable with (held | pooled) | waits
    · exact ModuleRecord.seat_of_held held
    · exact ModuleRecord.seat_of_pooled pooled
    · exact ModuleRecord.seat_of_waiting waits
  have here : (s.record i).state ≠ .free := fun free => by
    simp [ModuleRecord.takable, free, ModuleRecord.poolWaiting] at takable
  have same := PoolRight.record_displace takable p
  obtain ⟨keeps, -⟩ := displaced h p
  have tags : ((s.displace p).setRecord i ((s.record i).heldIn p)).TagsApart := by
    refine (h.tags.of_keeps keeps).of_keeps (.setRecord .refl ?_)
    rw [same]
    exact keepsTag_of_eq rfl here
  have waiters : (s.record i).state = .pooled →
      (((s.displace p).setRecord i ((s.record i).heldIn p))).WaitersWait := by
    intro pooled j listed
    have waits := (pool.displace p).listed.waitersWait j listed
    have other : i ≠ j := by
      rintro rfl
      rw [same, ModuleRecord.poolWaiting_of_not_graded (by rw [pooled]; decide)] at waits
      cases waits
    rw [State.record_setRecord_other _ _ _ _ other]
    exact waits
  have seat : ∀ z, (s.record i).seat = some z → z = .slot p := fun z some => by rw [none] at some; cases some
  obtain ⟨around, sm⟩ := displace_around s p
  unfold State.takeFor
  dsimp only
  split
  · next pooled =>
    exact h.occupied fillable (by simp) (by simp) seat (x := (s.record i).heldIn p) rfl
      ((waiters pooled).leavePool i) tags
  · exact h.occupied fillable around sm seat (x := (s.record i).heldIn p) rfl (.of_eq .refl rfl) tags
  · exact h.occupied fillable around sm seat (x := (s.record i).heldIn p) rfl (.of_eq .refl rfl) tags

theorem State.Placed.adoptFor {s : State} (h : s.Placed) {p : SlotId} (fillable : s.Fillable p) {i : ModuleIndex}
    {tag : Tag} (new : s.findTag tag = none) (lowest : (s.displace p).lowestFree = some i) :
    (s.adoptFor p i tag).Placed := by
  have free : ((s.displace p).record i).state = .free := of_decide_eq_true (lowest_some lowest).1
  obtain ⟨keeps, -, others, out⟩ := displaced h p
  obtain ⟨around, sm⟩ := displace_around s p
  have seat : ∀ z, (s.record i).seat = some z → z = .slot p := by
    intro z some
    by_cases displaced : i ∈ (s.slot p).occupantIndex
    · rw [(out i displaced).1] at some
      exact (Option.some.inj some).symm
    · rw [← others i displaced, ModuleRecord.seat_of_free free] at some
      cases some
  refine h.occupied fillable around sm seat (x := ((s.displace p).record i).adopted tag p) rfl (.of_eq .refl rfl) ?_
  refine (h.tags.of_keeps keeps).setRecord fun j _ here => ?_
  obtain ⟨before, same⟩ := keeps j here
  rw [same]
  exact State.findTag_absent new j before

theorem State.Placed.emptyOccupied {s : State} (h : s.Placed) {p : SlotId} {m : ModuleRef} (slot : s.slot p = .occupied m) :
    (s.emptyOccupied p m).Placed := by
  have freed : s.displace p = s.claim m [.inService, .watch] ModuleRecord.freed := by rw [State.displace, slot]
  obtain ⟨keeps, bays, others, out⟩ := displaced h p
  have records : (s.emptyOccupied p m).mr.records = (s.displace p).mr.records := by simp [State.emptyOccupied, freed]
  have record : ∀ j, (s.emptyOccupied p m).record j = (s.displace p).record j := fun j => by
    rw [State.record, records, ← State.record]
  refine h.refilled (p := p) (away := (s.slot p).occupantIndex) (y := .empty) (by simp) ?_ (fun q => ?_)
    (h.tags.of_keeps (keeps.to_eq records)) (bays.to_eq records) (fun j away => ?_) (fun j same => same) (fun j x => ?_)
    (fun j away z some => ?_) nofun (fun j away serves => ?_) nofun
  · by_contra unused
    exact (h.inUse p (by simpa using unused)).1 m slot
  · have slots : (s.emptyOccupied p m).sm.slots = (s.setSlot p .empty).sm.slots :=
      (State.KeysFit.recompute_slots _ _).trans (by simp)
    rw [State.slot, slots, ← State.slot, State.slot_setSlot]
  · rw [record, others j away]
    exact .refl _
  · rw [slot]
    nofun
  · rw [(out j away).1] at some
    exact (Option.some.inj some).symm
  · rw [record] at serves
    exact absurd serves (ModuleRecord.not_serves (out j away).2 nofun nofun)

end Sys2Proof.Machine
end

section
/-! SUPPORT. Every event keeps bays, slots and orders naming modules that stand where they say (O60). -/

namespace Sys2Proof.Machine

/-- What the places need of the other agreements. -/
structure State.Backed (s : State) : Prop where
  pool     : PoolRight [] s
  requests : RequestsFit s
  orders   : OrdersAgree s
  expired  : s.ot.expired.length ≤ 8

theorem State.Placed.completeEvaluation {s : State} (h : s.Placed) (e : Evaluation) : (s.completeEvaluation e).Placed :=
  h.of_stays (State.occupant_of_live (by simp)) (.of_eq (completeEvaluation_slots s e)) (.of_eq (by simp))
    (ManagementUnit.active_of_core (s.completeEvaluation_inner e).2.2) (Stays.completeEvaluation s e)

theorem State.Placed.arriveAt {s : State} (h : s.Placed) (pool : PoolRight [] s) (b : Bay) (tag : Tag) (c : Fin 16) :
    (s.arriveAt b tag c).Placed :=
  (h.departOccupant b).arriveTag (pool.departOccupant b).listed.waitersWait b tag c

theorem Change.placed {s t : State} (h : s.Placed) (backed : s.Backed) (change : Change s t) : t.Placed := by
  obtain ⟨pool, requests, orders, expired⟩ := backed
  cases change with
  | none => exact h
  | verdict i rest claims =>
    exact h.of_stays (State.occupant_of_live (by simp)) (.of_eq (by simp)) (.of_eq (by simp)) (by simp)
      (Stays.admitVerdict pool.listed claims)
  | arrive r tag c b =>
    exact State.Placed.arriveAt (s := s.takeRecord) (h.of_eq rfl rfl rfl rfl rfl) (pool.of_eq rfl rfl rfl) b tag c
  | depart r tag b => exact State.Placed.departAt (s := s.takeRecord) (h.of_eq rfl rfl rfl rfl rfl) b tag
  | evaluation e => exact (h.completeEvaluation e).settleIfSafe
  | choice c choice => exact h.completeChoice pool requests orders expired choice
  | choiceSettles c choice => exact (h.completeChoice pool requests orders expired choice).settleIfSafe
  | expiry i o t order =>
    exact State.Placed.endExpired (s := s.reachTime t) (h.of_eq rfl rfl rfl rfl rfl) order
  | safePoint => exact h.settleIfSafe

/-- A slot that holds nothing changed to one that holds nothing (R120, R123). -/
theorem slotsAlike_setSlot {s : State} {p : SlotId} {y : SlotRecord} (before : holdsSomething (s.slot p) = false)
    (after : holdsSomething y = false) : s.SlotsAlike (s.setSlot p y) := by
  intro q
  rw [State.slot_setSlot]
  split
  · next same => exact .inr ⟨same ▸ before, after⟩
  · exact .inl rfl

theorem State.Placed.setSlot {s : State} (h : s.Placed) {p : SlotId} {y : SlotRecord}
    (before : holdsSomething (s.slot p) = false) (after : holdsSomething y = false) : (s.setSlot p y).Placed :=
  h.of_stays (fun _ => rfl) (slotsAlike_setSlot before after) (fun _ => rfl) rfl (.of_eq .refl rfl)

/-- A record of no place changed to another of no place, under its tag (R55, R56). -/
theorem State.Placed.setRecord {s : State} (h : s.Placed) {i : ModuleIndex} {x : ModuleRecord}
    (stays : (s.record i).Stays x) : (s.setRecord i x).Placed :=
  h.of_stays (fun _ => rfl) (fun _ => .inl rfl) (fun _ => rfl) rfl (.setRecord .refl stays)

theorem CommandChange.placed {s t : State} (h : s.Placed) (pool : PoolRight [] s) (change : CommandChange s t) :
    t.Placed := by
  have raised : ∀ {u : State}, u.Placed → ∀ p k st, (u.raiseRequest p k st).Placed := fun h p k st =>
    h.of_eq (by simp) (by simp) (by simp) (by simp) (by simp)
  cases change with
  | commit mask => exact State.Placed.settleIfSafe (h.of_eq rfl rfl rfl rfl rfl)
  | emptied p slot =>
    refine raised (h.setSlot ?_ rfl) _ _ _
    rcases slot with slot | slot <;> rw [slot] <;> rfl
  | raised p => exact raised h _ _ _
  | vacated p m slot => exact h.emptyOccupied slot
  | taken p i fillable _ takable => exact h.takeFor pool fillable takable
  | adopted p i tag fillable new lowest => exact h.adoptFor fillable new lowest
  | pooled i held =>
    have stays := ModuleRecord.stays_pooled (ModuleRecord.seat_of_held held) (by rw [held]; decide)
    exact (h.setRecord stays).of_eq rfl rfl rfl rfl rfl
  | heldGone i held => exact h.setRecord (ModuleRecord.stays_freed (ModuleRecord.seat_of_held held))
  | pooledGone i member =>
    have freed := h.setRecord (ModuleRecord.stays_freed (ModuleRecord.seat_of_pooled member))
    have waiters : (s.freeRecord i).WaitersWait := by
      intro j listed
      have waits := pool.listed.waitersWait j listed
      have other : i ≠ j := by
        rintro rfl
        rw [ModuleRecord.poolWaiting_of_not_graded (by rw [member]; decide)] at waits
        cases waits
      rw [State.freeRecord, State.record_setRecord_other _ _ _ _ other]
      exact waits
    exact State.Placed.of_stays (s := s.freeRecord i) freed (State.occupant_of_live (by simp)) (.of_eq (by simp))
      (.of_eq (by simp)) (by simp) (waiters.leavePool i)
  | waitingGone i waiting =>
    exact (h.setRecord (ModuleRecord.stays_freed (ModuleRecord.seat_of_waiting waiting))).of_eq rfl rfl rfl rfl rfl
  | ended i o t done order =>
    cases done with
    | true => exact h.endDone order
    | false => exact h.endRefused order
  | woken p => exact h.of_eq rfl rfl rfl rfl rfl
  | allWoken => exact h.of_eq rfl rfl rfl rfl rfl
  | retired p m =>
    refine raised (h.of_stays (t := s.claim m [.inService, .watch] fun r => r.inState .watch)
      (State.occupant_of_live (by simp)) (.of_eq (by simp)) (.of_eq (by simp)) (by simp)
      (.claim .refl m fun r serving => ?_)) _ _ _
    exact ModuleRecord.stays_serving (by simpa [ModuleRecord.serves] using serving) (.inr rfl) rfl rfl rfl
  | resumed =>
    refine h.of_stays (fun b => ?_) (fun _ => .inl rfl) (fun _ => rfl) rfl (.of_eq .refl rfl)
    change ((mapEntries (fun l : StationLive => { l with lastSequence := none }) s.iu.live).get b.entry).bays.get b.channel = _
    rw [get_mapEntries]
    rfl

theorem State.Placed.select {s : State} (h : s.Placed) (p : Policy) : (s.select p).Placed := by
  by_cases due : s.selectionConditions
  · obtain ⟨q, o, -, found, selected⟩ := select_due due p
    have free : s.order o = .free := of_decide_eq_true (lowest_some found).1
    rw [selected]
    refine h.of_stays (fun _ => rfl) (fun _ => .inl rfl) (fun j => ?_) rfl (.of_eq .refl rfl)
    change ((s.setOrder o (.reservedForChoice q.slot)).order j).core = _
    rw [State.order_setOrder]
    split
    · next same => rw [← same, free]; rfl
    · rfl
  · rwa [select_not_due due]

/-- With nothing held, named or valid there is nothing to agree. -/
theorem State.Placed.of_empty {s : State} (records : ∀ i, (s.record i).state = .free) (bays : ∀ b, s.occupant b = none)
    (slots : ∀ p, holdsSomething (s.slot p) = false) (orders : ∀ i, s.order i = .free)
    (stations : StationsApart s.mu.active.stat) : s.Placed where
  tags i _ here := absurd (records i) here
  bays b m occupant := by rw [bays] at occupant; cases occupant
  slots := by
    refine ⟨fun p m occupied => ?_, fun i serves => ?_⟩
    · have empty := slots p
      rw [occupied] at empty
      cases empty
    · exact absurd serves (ModuleRecord.not_serves (records i) nofun nofun)
  orders := by
    refine ⟨fun i o order => ?_, fun i o m order => ?_, fun i o m order => ?_, fun p i m reserved => ?_,
      fun i j o x order => ?_⟩
    · rw [orders] at order
      cases order
    · rw [orders] at order
      cases order
    · rw [orders] at order
      cases order
    · have empty := slots p
      rw [reserved] at empty
      cases empty
    · rw [orders] at order
      cases order
  inUse p _ := by
    have empty := slots p
    refine ⟨fun m occupied => ?_, fun i m reserved => ?_⟩
    · rw [occupied] at empty
      cases empty
    · rw [reserved] at empty
      cases empty
  stations := stations

theorem State.Placed.afterReset (straps : BitVec 3) : (State.afterReset straps).Placed := by
  refine .of_empty (fun i => congrArg ModuleRecord.state (get_replicate _ i)) (fun b => ?_) (fun p => ?_)
    (fun i => get_replicate _ i) fun j _ valid => ?_
  · have live : (State.afterReset straps).live b.entry = .cleared := get_replicate _ b.entry
    rw [State.occupant, live]
    exact get_replicate _ b.channel
  · have slot : (State.afterReset straps).slot p = .unknown := by
      change ((Vector.replicate 8 (Vector.replicate 16 SlotRecord.unknown)).get p.string).get p.position = _
      rw [get_replicate, get_replicate]
    rw [slot]
    rfl
  · have default : (State.afterReset straps).mu.active.stat.get j = .default := get_replicate _ j
    rw [default] at valid
    cases valid

theorem State.Placed.clearEngine {s : State} (h : s.Placed) : s.clearEngine.Placed := by
  refine .of_empty (fun i => congrArg ModuleRecord.state (get_replicate _ i)) (fun b => ?_) (fun p => ?_)
    (fun i => get_replicate _ i) h.stations
  · have live : s.clearEngine.live b.entry = .cleared := get_replicate _ b.entry
    rw [State.occupant, live]
    exact get_replicate _ b.channel
  · have slot : s.clearEngine.slot p = if s.slotInUse p then .unknown else s.slot p := by
      change ((tabulate fun i => tabulate fun q => _).get p.string).get p.position = _
      rw [get_tabulate, get_tabulate]
    rw [slot]
    split
    · rfl
    · next unused =>
      obtain ⟨notOccupied, notReserved⟩ := h.inUse p (by simpa using unused)
      cases state : s.slot p with
      | occupied m => exact absurd state (notOccupied m)
      | reserved i m => exact absurd state (notReserved i m)
      | _ => rfl

theorem CommandEffect.placed {s t : State} (h : s.Placed) (pool : PoolRight [] s) (effect : CommandEffect s t) :
    t.Placed := by
  cases effect with
  | same => exact h
  | changed t change => exact (change.placed h pool).select _
  | loaded entries ws => exact h.of_eq rfl rfl rfl rfl rfl
  | blocked p slot =>
    refine (h.setSlot (p := p) (y := .blocked) ?_ rfl).of_eq rfl rfl rfl rfl rfl
    rcases slot with slot | slot <;> rw [slot] <;> rfl
  | halted => exact h.of_eq rfl rfl rfl rfl rfl
  | cleared => exact h.clearEngine.settleIfSafe
  | counted => exact h.of_eq rfl rfl rfl rfl rfl

theorem Event.placed {s t : State} (h : s.Placed) (backed : s.Backed) (event : Event s t) : t.Placed := by
  cases event with
  | asserted => exact h.of_eq rfl rfl rfl rfl rfl
  | released straps => exact (State.Placed.afterReset straps).of_eq rfl rfl rfl rfl rfl
  | received c =>
    obtain ⟨records, occupants⟩ := Stays.receive s c
    exact h.of_stays occupants (.of_eq (by simp)) (.of_eq (by simp)) (ManagementUnit.active_of_still (s.receive_inner c))
      records
  | transitFreed => exact h.of_eq rfl rfl rfl rfl rfl
  | originateFreed => exact h.of_eq rfl rfl rfl rfl rfl
  | decided => exact h.of_eq rfl rfl rfl rfl rfl
  | reply =>
    unfold State.admitReply
    split
    · split
      · exact h
      · exact h.of_eq rfl rfl rfl rfl rfl
    · exact h
  | order x claim =>
    obtain ⟨i, -, listed⟩ := List.mem_filterMap.mp (List.mem_of_find?_eq_some claim)
    obtain ⟨o, record, rfl⟩ := Option.map_eq_some_iff.mp listed
    have order := OrderRecord.order?_eq_some.mp record
    refine h.of_stays (fun _ => rfl) (fun _ => .inl rfl) (fun j => ?_) rfl (.of_eq .refl rfl)
    have issued : (s.admitOrder (i, o)).order j = if i = j then .order { o with stage := .issued _ } else s.order j :=
      State.order_setOrder _ i j _
    rw [issued]
    split
    · next same => rw [← same, order]; rfl
    · rfl
  | notice n => exact h.of_eq rfl rfl rfl rfl rfl
  | ignored r => exact h.of_eq rfl rfl rfl rfl rfl
  | measuredBay r k v w b =>
    refine State.Placed.of_stays (s := s.takeRecord) (h.of_eq rfl rfl rfl rfl rfl) (State.occupant_of_live (by simp))
      (.of_eq (by simp)) (.of_eq (by simp)) (by simp) (Stays.measureBay _ b k v w)
  | measuredSlot r k v w p =>
    unfold State.measureSlot
    split <;> exact h.of_eq rfl rfl rfl rfl rfl
  | selected u p change => exact (change.placed h backed).select p
  | settled i x =>
    exact h.of_stays (State.occupant_of_live (by simp)) (.of_eq (by simp)) (.of_eq (by simp)) (by simp)
      (Stays.expireTimer s i x)
  | ticked => exact h.of_eq rfl rfl rfl rfl rfl
  | command f rest a queue effect =>
    have taken : (s.setCommands rest).Placed := h.of_eq rfl rfl rfl rfl rfl
    exact (effect.placed taken (backed.pool.of_eq rfl rfl rfl)).of_eq rfl rfl rfl rfl rfl

/-- The agreements that O60 takes together. -/
structure State.Agrees (s : State) : Prop where
  pool       : PoolAgrees s
  requests   : RequestsFit s
  orders     : OrdersAgree s
  capacities : WithinCapacities s
  places     : PlacesAgree s

theorem Event.agrees {s t : State} (h : s.Agrees) (event : Event s t) : t.Agrees := by
  obtain ⟨pool, requests, orders, capacities, places⟩ := h
  have right := (poolAgrees_iff_right s).mp pool
  exact
    { pool := (poolAgrees_iff_right t).mpr (event.poolRight right)
      requests := (requestsFit_iff t).mpr (event.keysFit ((requestsFit_iff s).mp requests))
      orders := event.ordersAgree orders
      capacities := event.withinCapacities capacities
      places := (placesAgree_iff t).mpr
        (event.placed ((placesAgree_iff s).mp places) ⟨right, requests, orders, capacities.expired⟩) }

/-- Settles O60, by the events of a step: each part of the agreement (tags, bays, slots, orders, use, stations) looks
at the place a record says its module is in, and a module changes place together with what names it there. -/
theorem everyStepKeepsPlaces : Obligations.EveryStepKeepsPlaces := by
  unfold Obligations.EveryStepKeepsPlaces
  intro s t pool requests orders capacities places stepped
  refine (step_keeps (P := State.Agrees) (fun s l h => ?_) (fun _ _ => Event.agrees)
    ⟨pool, requests, orders, capacities, places⟩ stepped).places
  obtain ⟨pool, requests, orders, capacities, places⟩ := h
  exact
    { pool := (poolAgrees_iff_right _).mpr (((poolAgrees_iff_right s).mp pool).of_eq rfl rfl rfl)
      requests := (requestsFit_iff _).mpr (((requestsFit_iff s).mp requests).of_eq rfl rfl rfl)
      orders := orders.of_eq rfl rfl
      capacities := { capacities with }
      places := (placesAgree_iff _).mpr (((placesAgree_iff s).mp places).of_eq rfl rfl rfl rfl rfl) }

end Sys2Proof.Machine
end

section
/-! SUPPORT. The queue of commands and the passing of time (logs 3 and 4), and the part after device reset (R16, R203). -/

namespace Sys2Proof.Machine

/-! ## The queue of commands -/

/-- Settles O1, by the definition of a step. -/
theorem stepRunsFrontCommand : Obligations.StepRunsFrontCommand := fun _ _ _ => rfl

theorem Change.pending {s t : State} (change : Change s t) : t.pending = s.pending := by
  cases change <;> simp

theorem CommandChange.pending {s t : State} (change : CommandChange s t) : t.pending = s.pending := by
  cases change <;> simp

theorem CommandEffect.pending {s t : State} (effect : CommandEffect s t) : t.pending = s.pending := by
  cases effect with
  | changed t change => simpa using change.pending
  | _ => simp

theorem Event.pending {s t : State} (event : Event s t) : t.pending = s.pending := by
  cases event with
  | selected t p change => simpa using change.pending
  | command f rest a queue effect => simpa using effect.pending
  | _ => simp

theorem Events.pending {s t : State} (events : Events s t) : t.pending = s.pending := by
  induction events with
  | refl => rfl
  | tail _ last ih => exact last.pending.trans ih

/-- Settles O2: no arm of exec answers with a fault or a refusal, and no event changes the queue. -/
theorem everyCommandCompletes : Obligations.EveryCommandCompletes := by
  unfold Obligations.EveryCommandCompletes
  intro c s
  have completes : ∃ t, exec c s = .next t := by cases c <;> exact ⟨_, rfl⟩
  obtain ⟨t, run⟩ := completes
  exact ⟨t, run, (exec_events run).pending⟩

/-! ## Time -/

/-- An instant at which a settle timer or a deadline ends. -/
def State.EndsAt (s : State) (t : Nat) : Prop :=
  (∃ i x, s.timer i = some x ∧ x.expiresAt = t) ∨ ∃ i o, s.order i = .order o ∧ o.stage = .issued t

theorem nothingEndsBefore_iff {s : State} {t : Nat} : NothingEndsBefore s t ↔ ∀ e, s.EndsAt e → t ≤ e := by
  constructor
  · rintro h e (⟨i, x, running, rfl⟩ | ⟨i, o, order, stage⟩)
    · exact h.timers i x running
    · exact h.deadlines i o e order stage
  · exact fun h => ⟨fun i x running => h _ (.inl ⟨i, x, running, rfl⟩), fun i o e order stage =>
      h e (.inr ⟨i, o, order, stage⟩)⟩

/-- When something ends before an instant, something is first to end, and does before it. -/
theorem exists_first_end {s : State} {t : Nat} (h : ¬ NothingEndsBefore s t) :
    ∃ e < t, s.EndsAt e ∧ NothingEndsBefore s e := by
  classical
  rw [nothingEndsBefore_iff] at h
  push Not at h
  obtain ⟨e, ends, early⟩ := h
  have some_end : ∃ e, s.EndsAt e := ⟨e, ends⟩
  refine ⟨Nat.find some_end, (Nat.find_min' some_end ends).trans_lt early, Nat.find_spec some_end, ?_⟩
  exact nothingEndsBefore_iff.mpr fun _ => Nat.find_min' some_end

theorem State.endsFirst_iff {s : State} {x : Option Nat} :
    s.endsFirst x = true ↔ ∃ e, x = some e ∧ NothingEndsBefore s e := by
  cases x with
  | none => simp [State.endsFirst]
  | some e => simp [State.endsFirst, State.noneEndsBefore_iff]

theorem timerEnd_eq_some {x : Option SettleTimer} {e : Nat} : timerEnd x = some e ↔ ∃ y, x = some y ∧ y.expiresAt = e := by
  simp [timerEnd]

/-- What expires first is a timer or a deadline that nothing ends before. -/
theorem State.firstExpiry_cases {s : State} {e : Nat} (ends : s.EndsAt e) (first : NothingEndsBefore s e) :
    (∃ i x, s.timer i = some x ∧ NothingEndsBefore s x.expiresAt ∧ s.firstExpiry = s.settleExpiry i) ∨
      ∃ i o t, s.order i = .order o ∧ o.stage = .issued t ∧ NothingEndsBefore s t ∧
        s.firstExpiry = s.orderExpiry i := by
  unfold State.firstExpiry
  cases timer : lowest (fun x => s.endsFirst (timerEnd x)) s.ge.settleTimers with
  | some i =>
    obtain ⟨_, ends_then, h⟩ := State.endsFirst_iff.mp (lowest_some timer).1
    obtain ⟨x, running, rfl⟩ := timerEnd_eq_some.mp ends_then
    exact .inl ⟨i, x, running, h, rfl⟩
  | none =>
    cases deadline : lowest (fun r => s.endsFirst r.deadline) s.ot.table with
    | some i =>
      obtain ⟨t, running, h⟩ := State.endsFirst_iff.mp (lowest_some deadline).1
      obtain ⟨o, order, stage⟩ := OrderRecord.deadline_eq_some.mp running
      exact .inr ⟨i, o, t, order, stage, h, rfl⟩
    | none =>
      exfalso
      rcases ends with ⟨i, x, running, rfl⟩ | ⟨i, o, order, stage⟩
      · exact Bool.eq_false_iff.mp (lowest_none.mp timer i)
          (State.endsFirst_iff.mpr ⟨_, timerEnd_eq_some.mpr ⟨x, running, rfl⟩, first⟩)
      · exact Bool.eq_false_iff.mp (lowest_none.mp deadline i)
          (State.endsFirst_iff.mpr ⟨e, OrderRecord.deadline_eq_some.mpr ⟨o, order, stage⟩, first⟩)

theorem step_of_empty {s : State} (empty : s.pending = []) : step s = .next (idle s) := by
  unfold step
  rw [empty]

theorem exec_settleExpiry (i : ModuleIndex) (s : State) : exec (.settleExpiry i.val) s = .next (s.settleExpiry i) := by
  change Host.Outcome.next _ = _
  rw [indexOf_val]

theorem exec_orderExpiry (i : OrderIndex) (s : State) : exec (.orderExpiry i.val) s = .next (s.orderExpiry i) := by
  change Host.Outcome.next _ = _
  rw [indexOf_val]

/-- Settles O3: a millisecond passes when nothing has ended, and what is first to end has ended when something has. -/
theorem emptyQueuePassesTime : Obligations.EmptyQueuePassesTime := by
  unfold Obligations.EmptyQueuePassesTime
  intro s empty
  rw [step_of_empty empty]
  refine ⟨fun h => congrArg _ (idle_tick h), fun h => ?_⟩
  rw [idle_expiry h]
  obtain ⟨e, early, ends, first⟩ := exists_first_end h
  have elapsed : e ≤ s.timeBase := Nat.lt_succ_iff.mp early
  rcases State.firstExpiry_cases ends first with ⟨i, x, running, before, expiry⟩ | ⟨i, o, t, order, stage, before, expiry⟩
  · refine .inl ⟨i, x, running, (nothingEndsBefore_iff.mp before e ends).trans elapsed, before, ?_⟩
    rw [expiry, exec_settleExpiry]
  · refine .inr ⟨i, o, t, order, stage, (nothingEndsBefore_iff.mp before e ends).trans elapsed, before, ?_⟩
    rw [expiry, exec_orderExpiry]

/-! ## Device reset -/

section AfterReset

variable (straps : BitVec 3) (l : List Instr)

theorem afterReset_record (i : ModuleIndex) :
    State.record { State.afterReset straps with pending := l } i = .cleared 0 := get_replicate _ i

theorem afterReset_live (e : Fin 32) : State.live { State.afterReset straps with pending := l } e = .cleared :=
  get_replicate _ e

theorem afterReset_occupant (b : Bay) : State.occupant { State.afterReset straps with pending := l } b = none := by
  rw [State.occupant, afterReset_live]
  exact get_replicate _ b.channel

theorem afterReset_timer (i : ModuleIndex) : State.timer { State.afterReset straps with pending := l } i = none :=
  get_replicate _ i

theorem afterReset_string (k : Fin 8) :
    State.string { State.afterReset straps with pending := l } k =
      { pairingClass := 0, cap := .absent, res := .absent } := get_replicate _ k

theorem afterReset_slot (p : SlotId) : State.slot { State.afterReset straps with pending := l } p = .unknown := by
  change ((Vector.replicate 8 (Vector.replicate 16 SlotRecord.unknown)).get p.string).get p.position = _
  rw [get_replicate, get_replicate]

theorem afterReset_order (i : OrderIndex) : State.order { State.afterReset straps with pending := l } i = .free :=
  get_replicate _ i

theorem afterReset_ownAddress :
    (State.afterReset straps).mu.ownAddress.toNat = 240 + straps.toNat := by
  change (240#8 + straps.setWidth 8).toNat = _
  bv_omega

end AfterReset

/-- Settles O4, by the values after device reset, block by block. -/
theorem deviceReset : Obligations.DeviceReset := by
  unfold Obligations.DeviceReset
  refine ⟨fun s => rfl, fun straps s => ⟨{ State.afterReset straps with pending := s.pending }, rfl, rfl, rfl, rfl,
    afterReset_ownAddress straps, rfl, rfl, rfl, rfl, rfl, rfl, rfl, rfl, rfl, rfl, rfl, rfl, rfl, rfl, rfl, rfl, rfl,
    fun c => by cases c <;> rfl, rfl, fun e => ?_, afterReset_occupant straps _, afterReset_timer straps _, rfl, rfl,
    fun i => ?_, fun i m => ?_, rfl, afterReset_string straps _, afterReset_slot straps _, rfl, rfl, rfl, rfl, rfl,
    afterReset_order straps _, rfl, rfl, rfl, rfl, fun c => get_replicate _ c, fun r => get_replicate _ r,
    fun k => get_replicate _ k, fun e => get_replicate _ e, rfl, rfl, fun k => get_replicate _ k, rfl, rfl, rfl, rfl⟩⟩
  · rw [afterReset_live]
    exact ⟨rfl, rfl⟩
  · rw [afterReset_record]
    rfl
  · rw [afterReset_record]
    exact EvidenceSets.get_cleared m

theorem CapacityBlocks.afterReset (straps : BitVec 3) : CapacityBlocks (State.afterReset straps) where
  ring := ⟨Nat.zero_le _, Nat.zero_le _, Nat.zero_le _, Nat.zero_le _, Nat.zero_le _, Nat.zero_le _,
    fun c => by cases c <;> exact Nat.zero_le _⟩
  intake := by
    refine ⟨Nat.zero_le _, fun e => ?_, nofun⟩
    rw [show (State.afterReset straps).iu.live.get e = .cleared from get_replicate _ e]
    exact Nat.zero_le _
  commands := Nat.zero_le _
  notices := ⟨List.nodup_nil, nofun⟩
  expired := Nat.zero_le _
  records := by
    have record : ∀ i, (State.afterReset straps).record i = .cleared 0 := afterReset_record straps []
    refine ⟨⟨Nat.zero_le _, fun i => ?_⟩, fun i m => ?_⟩
    · rw [record]
      exact ⟨Nat.zero_le _, Nat.zero_le _, Nat.zero_le _⟩
    · rw [record]
      change (EvidenceSets.cleared.get m).Within
      rw [EvidenceSets.get_cleared]
      exact .cleared
  evaluated := nofun

theorem RunsAgree.afterReset (straps : BitVec 3) : RunsAgree (State.afterReset straps) := by
  have evidence : ∀ i m, ((State.afterReset straps).record i).evidence.get m = .cleared := fun i m => by
    rw [show (State.afterReset straps).record i = .cleared 0 from get_replicate _ i]
    exact EvidenceSets.get_cleared m
  refine ⟨fun i m _ => ?_, fun i m k candidate => ?_⟩
  · rw [evidence]
    rfl
  · rw [evidence] at candidate
    cases candidate

/-- Settles O54, by the invariant of each block where nothing is queued, held or in progress. -/
theorem resetSatisfiesInvariants : Obligations.ResetSatisfiesInvariants := by
  unfold Obligations.ResetSatisfiesInvariants
  rintro straps _ rfl
  exact ⟨⟨.of_halted rfl (State.commitWaits_of_none rfl), NoEarlierEnd.afterReset straps []⟩,
    ⟨(withinCapacities_iff _).mpr (.afterReset straps), ⟨fun _ => rfl, fun _ => rfl, Nat.zero_le _, fun _ => rfl, Nat.zero_le _⟩⟩,
    ⟨⟨.default, .default⟩, .afterReset straps, .of_none rfl⟩, ⟨nofun, nofun, List.nodup_nil⟩,
    (poolAgrees_iff_right _).mpr (.of_empty (afterReset_record straps []) rfl rfl),
    .of_empty (afterReset_order straps []) rfl rfl, (placesAgree_iff _).mpr (.afterReset straps)⟩

end Sys2Proof.Machine
end

section
/-! SUPPORT. Numbers of several characters, most significant first (10 section 10.7), and the SAMPLE bodies (R23, R206). -/

namespace Sys2Proof.Machine

/-! ## Numbers of several characters -/

theorem numberOf_concat (l : List Byte) (b : Byte) : numberOf (l ++ [b]) = numberOf l * 256 + b.toNat := by
  simp [numberOf]

theorem numberOf_cons (b : Byte) (l : List Byte) : numberOf (b :: l) = b.toNat * 256 ^ l.length + numberOf l := by
  induction l using List.reverseRecOn with
  | nil => simp [numberOf]
  | append_singleton l c ih =>
    rw [← List.cons_append, numberOf_concat, ih, numberOf_concat, List.length_append, List.length_singleton]
    ring

theorem toNat_append_byte {n : Nat} (x : BitVec n) (b : Byte) : (x ++ b : BitVec (n + 8)).toNat = x.toNat * 256 + b.toNat := by
  rw [BitVec.toNat_append, ← Nat.shiftLeft_add_eq_or_of_lt b.isLt, Nat.shiftLeft_eq]

@[simp] theorem length_charsOf (k n : Nat) : (charsOf k n).length = k := by
  induction k with
  | zero => rfl
  | succ k ih => rw [charsOf, List.length_cons, ih]

theorem numberOf_charsOf (k n : Nat) : numberOf (charsOf k n) = n % 256 ^ k := by
  induction k with
  | zero => simp [charsOf, numberOf, Nat.mod_one]
  | succ k ih =>
    have low_byte : (BitVec.ofNat 8 (n / 256 ^ k)).toNat = n / 256 ^ k % 256 := BitVec.toNat_ofNat _ _
    rw [charsOf, numberOf_cons, ih, length_charsOf, low_byte, Nat.mod_pow_succ, Nat.add_comm, Nat.mul_comm]

theorem charsOf_eq_bigEndian (k n : Nat) : charsOf k n = bigEndian k n := by
  induction k with
  | zero => rfl
  | succ k ih =>
    rw [charsOf, ih, bigEndian, bigEndian, List.range_succ_eq_map, List.map_cons, List.map_map]
    refine congrArg₂ List.cons rfl (List.map_congr_left fun j _ => ?_)
    have place : k + 1 - 1 - (j + 1) = k - 1 - j := by omega
    rw [Function.comp, place]

theorem numberOf_two (a b : Byte) : numberOf [a, b] = (a ++ b : BitVec 16).toNat := by
  rw [toNat_append_byte]
  simp [numberOf]

theorem signedOf_two (a b : Byte) : signedOf [a, b] = (a ++ b : BitVec 16).toInt := by
  rw [signedOf, numberOf_two, BitVec.ofNat_toNat, BitVec.setWidth_eq]

theorem tagOf_six (t0 t1 t2 t3 t4 t5 : Byte) :
    tagOf [t0, t1, t2, t3, t4, t5] = (t0 ++ t1 ++ t2 ++ t3 ++ t4 ++ t5 : BitVec 48) := by
  have spelt : numberOf [t0, t1, t2, t3, t4, t5] = (t0 ++ t1 ++ t2 ++ t3 ++ t4 ++ t5 : BitVec 48).toNat := by
    rw [toNat_append_byte, toNat_append_byte, toNat_append_byte, toNat_append_byte, toNat_append_byte]
    simp [numberOf]
  rw [tagOf, spelt, BitVec.ofNat_toNat, BitVec.setWidth_eq]

theorem tagOf_tagChars (t : Tag) : tagOf (tagChars t) = t := by
  have fits : t.toNat < 256 ^ 6 := t.isLt
  rw [tagOf, tagChars, numberOf_charsOf, Nat.mod_eq_of_lt fits, BitVec.ofNat_toNat, BitVec.setWidth_eq]

theorem validTag_iff {t : Tag} : validTag t = true ↔ t ≠ 0 ∧ t ≠ 0xFFFFFFFFFFFF#48 := by simp [validTag]

theorem toNat_ofNat_fin {n : Nat} (i : Fin n) (h : n ≤ 256) : (BitVec.ofNat 8 i.val).toNat = i.val :=
  (BitVec.toNat_ofNat _ _).trans (Nat.mod_eq_of_lt (i.isLt.trans_le h))

theorem eq_ofNat_of_toNat {b : Byte} {n : Nat} (h : b.toNat = n) : b = BitVec.ofNat 8 n := by
  rw [← h, BitVec.ofNat_toNat, BitVec.setWidth_eq]

/-! ## SAMPLE bodies -/

theorem sampleOf_body {q : Byte} {ch : Fin 8} {k : Byte} {rest : List Byte} {x : Measurement}
    (content : contentOf k.toNat rest = some x) :
    sampleOf (q :: BitVec.ofNat 8 ch.val :: k :: rest) = some { sequence := q, channel := ch, content := x } := by
  simp only [sampleOf, toNat_ofNat_fin ch (by decide), indexOf_val, content]

theorem metricOf_code (m : Metric) : metricOf m.code = some m := by cases m <;> rfl

theorem Metric.toNat_code (m : Metric) : (BitVec.ofNat 8 m.code).toNat = m.code := by cases m <;> rfl

theorem contentOf_arrive {tag : Tag} {t0 t1 t2 t3 t4 t5 : Byte} (same : tagOf [t0, t1, t2, t3, t4, t5] = tag)
    (valid : validTag tag = true) (c : Fin 16) :
    contentOf 1 [t0, t1, t2, t3, t4, t5, BitVec.ofNat 8 c.val] = some (.arrive tag c) := by
  subst same
  simp only [contentOf, valid, if_true, toNat_ofNat_fin c (by decide), indexOf_val, Option.map_some]

theorem contentOf_depart {tag : Tag} {t0 t1 t2 t3 t4 t5 : Byte} (same : tagOf [t0, t1, t2, t3, t4, t5] = tag)
    (valid : validTag tag = true) : contentOf 2 [t0, t1, t2, t3, t4, t5] = some (.depart (some tag)) := by
  subst same
  simp only [contentOf, valid, if_true]

theorem contentOf_measure (m : Metric) {v1 v0 w1 w0 : Byte} (low : -400 ≤ (w1 ++ w0 : BitVec 16).toInt)
    (high : (w1 ++ w0 : BitVec 16).toInt ≤ 1250) :
    contentOf 3 [BitVec.ofNat 8 m.code, v1, v0, w1, w0] =
      some (.measure m (v1 ++ v0 : BitVec 16).toNat (w1 ++ w0 : BitVec 16).toInt) := by
  simp only [contentOf, signedOf_two, numberOf_two, low, high, and_self, if_true, m.toNat_code, metricOf_code,
    Option.map_some]

theorem metricOf_eq_some {n : Nat} {m : Metric} (h : metricOf n = some m) : n ≤ 3 := by
  unfold metricOf at h
  split at h
  iterate 4 exact by decide
  cases h

/-- What follows the kind in a body with content (R23). -/
theorem contentOf_shape {kind : Byte} {rest : List Byte} {x : Measurement} (h : contentOf kind.toNat rest = some x) :
    (kind = 1#8 ∧ ∃ tag c, rest = tag ++ [c] ∧ tag.length = 6 ∧ c.toNat ≤ 15 ∧
        tagOf tag ≠ 0 ∧ tagOf tag ≠ 0xFFFFFFFFFFFF#48) ∨
      (kind = 2#8 ∧ (rest = [] ∨ rest.length = 6 ∧ tagOf rest ≠ 0 ∧ tagOf rest ≠ 0xFFFFFFFFFFFF#48)) ∨
      (kind = 3#8 ∧ ∃ m v1 v0 w1 w0, rest = [m, v1, v0, w1, w0] ∧ m.toNat ≤ 3 ∧
        -400 ≤ (w1 ++ w0 : BitVec 16).toInt ∧ (w1 ++ w0 : BitVec 16).toInt ≤ 1250) := by
  unfold contentOf at h
  split at h
  · next arrives =>
    split at h
    · next t0 t1 t2 t3 t4 t5 c =>
      split at h
      · next valid =>
        obtain ⟨i, index, -⟩ := Option.map_eq_some_iff.mp h
        have origin := indexOf_eq_some.mp index
        exact .inl ⟨eq_ofNat_of_toNat arrives, [t0, t1, t2, t3, t4, t5], c, rfl, rfl, by omega, validTag_iff.mp valid⟩
      · cases h
    · cases h
  · next departs =>
    refine .inr (.inl ⟨eq_ofNat_of_toNat departs, ?_⟩)
    split at h
    · exact .inl rfl
    · split at h
      · next valid => exact .inr ⟨rfl, validTag_iff.mp valid⟩
      · cases h
    · cases h
  · next measures =>
    refine .inr (.inr ⟨eq_ofNat_of_toNat measures, ?_⟩)
    split at h
    · next m v1 v0 w1 w0 =>
      split at h
      · next range =>
        obtain ⟨_, metric, -⟩ := Option.map_eq_some_iff.mp h
        rw [signedOf_two] at range
        exact ⟨m, v1, v0, w1, w0, rfl, metricOf_eq_some metric, range⟩
      · cases h
    · cases h
  · cases h

theorem sampleOf_shape {body : List Byte} {x : Sample} (h : sampleOf body = some x) :
    ∃ q ch kind rest, body = q :: ch :: kind :: rest ∧ ch.toNat ≤ 7 ∧ ∃ y, contentOf kind.toNat rest = some y := by
  unfold sampleOf at h
  split at h
  · next q c k rest =>
    split at h
    · next channel content index read =>
      have := indexOf_eq_some.mp index
      exact ⟨q, c, k, rest, rfl, by omega, content, read⟩
    · cases h
  · cases h

/-- Settles O16: the well-formed bodies are read field by field, and every body read is of one of their shapes. -/
theorem sampleBodies : Obligations.SampleBodies := by
  unfold Obligations.SampleBodies
  refine ⟨⟨tagOf_six, fun t => ?_⟩, fun q t0 t1 t2 t3 t4 t5 ch c valid => sampleOf_body (contentOf_arrive rfl valid c),
    fun q ch => sampleOf_body rfl, fun q t0 t1 t2 t3 t4 t5 ch valid => sampleOf_body (contentOf_depart rfl valid),
    fun q v1 v0 w1 w0 ch m low high => sampleOf_body (contentOf_measure m low high), fun body x read => ?_⟩
  · rw [← charsOf_eq_bigEndian]
    exact tagOf_tagChars t
  · obtain ⟨q, ch, kind, rest, shape, channel, y, content⟩ := sampleOf_shape read
    exact ⟨q, ch, kind, rest, channel, shape, contentOf_shape content⟩

end Sys2Proof.Machine
end

section
/-! SUPPORT. Reception (R1 to R12): the receiver's decision, the link, the frame in assembly and its end. -/

namespace Sys2Proof.Machine

/-! ## The receiver (R1, R2) -/

theorem Character.sort_of_error {x : Character} (h : x.error = true) : x.sort = .inError x.value := by
  simp [Character.sort, h]

theorem Character.sort_of_fill {x : Character} (clean : x.error = false) (mark : x.mark = true)
    (value : x.value = 0x55#8) : x.sort = .fill := by
  simp [Character.sort, clean, mark, value, Config.fillValue]

theorem Character.sort_of_header {x : Character} (clean : x.error = false) (mark : x.mark = true)
    (value : x.value ≠ 0x55#8) : x.sort = .header x.value := by
  simp [Character.sort, clean, mark, value, Config.fillValue]

theorem Character.sort_of_data {x : Character} (clean : x.error = false) (mark : x.mark = false) :
    x.sort = .data x.value := by
  simp [Character.sort, clean, mark]

/-- Only a character in error is of the sort in error. -/
theorem Character.error_of_sort (x : Character) :
    x.error = (match x.sort with | .inError _ => true | .fill | .header _ | .data _ => false) := by
  unfold Character.sort
  cases x.error
  · cases x.mark
    · rfl
    · by_cases fill : x.value = Config.fillValue <;> simp [fill]
  · rfl

theorem getLsbD_decidedBits (c : LineCharacter) (k : Nat) : (decidedBits c).getLsbD k =
    ((c.first.getLsbD k && c.second.getLsbD k) || (c.first.getLsbD k && c.third.getLsbD k) ||
      (c.second.getLsbD k && c.third.getLsbD k)) := by
  simp only [decidedBits, majority, BitVec.getLsbD_or, BitVec.getLsbD_and]

theorem State.receive_deaf {s : State} {c : LineCharacter}
    (deaf : s.rp.resetAsserted = true ∨ (s.rp.awaitingHigh = true ∧ c.lineRose = false)) : s.receive c = s := by
  unfold State.receive
  rw [if_pos]
  rcases deaf with asserted | ⟨awaiting, low⟩
  · rw [asserted, Bool.true_or]
  · rw [awaiting, low, Bool.not_false, Bool.and_true, Bool.or_true]

/-- A receiver that is not deaf takes what the decided bits make (R1). -/
theorem State.not_deaf {s : State} {c : LineCharacter} (released : s.rp.resetAsserted = false)
    (risen : s.rp.awaitingHigh = true → c.lineRose = true) :
    ¬ (s.rp.resetAsserted || (s.rp.awaitingHigh && !c.lineRose)) = true := by
  cases awaiting : s.rp.awaitingHigh
  · simp [released]
  · simp [released, risen awaiting]

theorem State.receive_falseStart {s : State} {c : LineCharacter} (released : s.rp.resetAsserted = false)
    (risen : s.rp.awaitingHigh = true → c.lineRose = true) (falseStart : characterOf (decidedBits c) = none) :
    s.receive c = s.setRing { s.rp with awaitingHigh := false } := by
  unfold State.receive
  rw [if_neg (State.not_deaf released risen), falseStart]

theorem State.receive_delivered {s : State} {c : LineCharacter} {x : Character} (released : s.rp.resetAsserted = false)
    (risen : s.rp.awaitingHigh = true → c.lineRose = true) (delivered : characterOf (decidedBits c) = some x) :
    s.receive c = s.deliverCharacter x := by
  unfold State.receive
  rw [if_neg (State.not_deaf released risen), delivered]

/-- Settles O5, by the bits the receiver decides: the start bit, then the stop bit, mark and value. -/
theorem receiverDecidesByMajority : Obligations.ReceiverDecidesByMajority := by
  unfold Obligations.ReceiverDecidesByMajority
  refine ⟨fun x => ⟨x.sort_of_error, x.sort_of_fill, x.sort_of_header, x.sort_of_data⟩, fun c s bit decides => ?_⟩
  have decided : ∀ k, (decidedBits c).getLsbD k = bit k := fun k => (getLsbD_decidedBits c k).trans (decides k).symm
  refine ⟨fun deaf => congrArg _ (State.receive_deaf deaf), fun released risen start => ?_,
    fun released risen start => ?_⟩
  · have falseStart : characterOf (decidedBits c) = none := if_pos ((decided 0).trans start)
    exact congrArg Host.Outcome.next (State.receive_falseStart released risen falseStart)
  · have delivered : characterOf (decidedBits c) = some _ :=
      if_neg (Bool.eq_false_iff.mp ((decided 0).trans start))
    refine ⟨_, congrArg Host.Outcome.next (State.receive_delivered released risen delivered), ?_, ?_, ?_⟩
    · exact congrArg Bool.not (decided 10)
    · exact decided 9
    · intro k inside
      change ((decidedBits c).extractLsb' 1 8).getLsbD k = _
      rw [BitVec.getLsbD_extractLsb', decide_eq_true inside, Bool.true_and, decided, Nat.add_comm]

/-! ## The link (R3 to R6) -/

theorem State.deliver_hunt_fill {s : State} {x : Character} (hunt : s.rp.link = .hunt) (fill : x.sort = .fill) :
    s.deliverCharacter x =
      s.setRing { s.rp with awaitingHigh := x.error, link := .confirm, confirmCount := 1 } := by
  simp only [State.deliverCharacter, State.linkLogic, State.setRing, hunt, fill, if_true]

theorem State.deliver_hunt_other {s : State} {x : Character} (hunt : s.rp.link = .hunt) (other : x.sort ≠ .fill) :
    s.deliverCharacter x = s.setRing { s.rp with awaitingHigh := x.error } := by
  simp only [State.deliverCharacter, State.linkLogic, State.setRing, hunt, other, if_false]

theorem State.deliver_confirm_other {s : State} {x : Character} (confirm : s.rp.link = .confirm)
    (other : x.sort ≠ .fill) :
    s.deliverCharacter x = s.setRing { s.rp with awaitingHigh := x.error, link := .hunt, confirmCount := 0 } := by
  simp only [State.deliverCharacter, State.linkLogic, State.setRing, confirm, other, if_false, State.toHunt]

theorem State.deliver_confirm_fill {s : State} {x : Character} (confirm : s.rp.link = .confirm)
    (fill : x.sort = .fill) :
    s.deliverCharacter x = (s.setRing { s.rp with awaitingHigh := x.error }).confirmFill := by
  simp only [State.deliverCharacter, State.linkLogic, State.setRing, confirm, fill, if_true]

theorem State.deliver_locked {s : State} {x : Character} (locked : s.rp.link = .locked) :
    s.deliverCharacter x = (s.setRing { s.rp with awaitingHigh := x.error }).lockedCharacter x := by
  simp only [State.deliverCharacter, State.linkLogic, State.setRing, locked]

theorem State.confirmFill_of_fewer {s : State} (fewer : s.rp.confirmCount ≠ 3) :
    s.confirmFill = s.setRing { s.rp with confirmCount := s.rp.confirmCount + 1 } :=
  if_neg fun four => fewer (Nat.succ.inj four)

theorem State.confirmFill_of_three {s : State} (three : s.rp.confirmCount = 3) :
    s.confirmFill = s.enterLocked := if_pos (congrArg Nat.succ three)

theorem State.enterLocked_eq (s : State) : s.enterLocked = { s with
    rp := { s.rp with link := .locked, confirmCount := 0, window := [], assembly := none, lossesSince := 0 }
    mu := { s.mu with
      notices := if s.rp.lossesSince = 0 then s.mu.notices
        else raiseIn (.linkRelock s.rp.lossesSince) s.mu.notices } } := by
  unfold State.enterLocked
  by_cases none_lost : s.rp.lossesSince = 0
  · simp only [none_lost, if_true]
    rfl
  · simp only [none_lost, if_false]
    rfl

theorem State.loseSync_eq (s : State) : s.loseSync = { s with rp := { s.rp with
    link := .hunt, confirmCount := 0, window := [], assembly := none
    lossesSince := min (s.rp.lossesSince + 1) 65535
    counters := { s.rp.counters with
      syncLosses := min (s.rp.counters.syncLosses + 1) 65535
      rxDamaged := if s.rp.assembly = none then s.rp.counters.rxDamaged
        else min (s.rp.counters.rxDamaged + 1) 65535 } } } := by
  unfold State.loseSync State.discardAssembly
  cases open_frame : s.rp.assembly with
  | none =>
    simp only [if_true]
    rw [State.count, State.setRing, ← open_frame]
    rfl
  | some a =>
    simp only [reduceCtorEq, if_false]
    rfl

/-- Settles O6: the link's state and the character's sort select one case of the link logic. -/
theorem linkGainsAndLosesSync : Obligations.LinkGainsAndLosesSync := by
  unfold Obligations.LinkGainsAndLosesSync
  refine fun s x => ⟨State.deliver_hunt_fill, State.deliver_hunt_other, State.deliver_confirm_other,
    fun confirm fill fewer => ?_, fun confirm fill three => ?_, fun locked error errors => ?_⟩
  · rw [State.deliver_confirm_fill confirm fill, State.confirmFill_of_fewer (by exact fewer)]
    rfl
  · rw [State.deliver_confirm_fill confirm fill, State.confirmFill_of_three (by exact three), State.enterLocked_eq]
    rfl
  · have lost : x.error = true ∧ Config.windowErrors ≤ errorsIn (pushFlag x.error s.rp.window) :=
      ⟨error, by rw [error]; exact errors⟩
    rw [State.deliver_locked locked, State.lockedCharacter]
    refine (if_pos lost).trans ?_
    rw [State.loseSync_eq, error]
    rfl

end Sys2Proof.Machine
end

section
/-! SUPPORT. The frame in assembly, its check and its end (R7 to R12). -/

namespace Sys2Proof.Machine

/-! ## A frame in assembly (R7 to R9) -/

/-- The characters after a header have a length above 240, or more characters than their length asks for (R9). -/
def overlong : List Byte → Bool
  | _ :: _ :: len :: rest => decide (240 < len.toNat) || decide (len.toNat + 2 < rest.length)
  | _ => false

theorem overlong_iff {l : List Byte} : overlong l = true ↔ ∃ dst src len rest, l = dst :: src :: len :: rest ∧
    (240 < len.toNat ∨ len.toNat + 2 < rest.length) := by
  unfold overlong
  split
  · next dst src len rest =>
    rw [Bool.or_eq_true, decide_eq_true_iff, decide_eq_true_iff]
    constructor
    · exact fun h => ⟨dst, src, len, rest, rfl, h⟩
    · rintro ⟨_, _, _, _, same, h⟩
      cases same
      exact h
  · next short =>
    constructor
    · nofun
    · rintro ⟨dst, src, len, rest, rfl, -⟩
      exact absurd rfl (short dst src len rest)

/-- More characters leave an overlong frame overlong. -/
theorem overlong_append {l k : List Byte} (h : overlong l = true) : overlong (l ++ k) = true := by
  obtain ⟨dst, src, len, rest, rfl, long⟩ := overlong_iff.mp h
  refine overlong_iff.mpr ⟨dst, src, len, rest ++ k, rfl, long.imp_right fun longer => ?_⟩
  rw [List.length_append]
  omega

theorem Assembly.append_eq (a : Assembly) (b : Byte) : a.append b =
    { kind := a.kind, chars := a.chars ++ [b], damaged := a.damaged || overlong (a.chars ++ [b]) } := by
  unfold Assembly.append
  generalize a.chars ++ [b] = chars
  rcases chars with _ | ⟨_, _ | ⟨_, _ | ⟨_, _⟩⟩⟩ <;> rfl

theorem Assembly.foldl_append {l : List Byte} {a : Assembly} (whole : a.damaged = false)
    (fits : overlong (a.chars ++ l) = false) :
    l.foldl Assembly.append a = { kind := a.kind, chars := a.chars ++ l, damaged := false } := by
  induction l generalizing a with
  | nil => rw [List.foldl_nil, List.append_nil, ← whole]
  | cons b l ih =>
    have split_off : a.chars ++ b :: l = (a.chars ++ [b]) ++ l := List.append_cons _ _ _
    have fits_now : overlong (a.chars ++ [b]) = false := by
      rw [split_off] at fits
      exact Bool.eq_false_iff.mpr fun long => Bool.eq_false_iff.mp fits (overlong_append long)
    rw [List.foldl_cons, a.append_eq, whole, fits_now, Bool.false_or, split_off]
    exact ih rfl (split_off ▸ fits)

/-- A character in LOCKED that leaves the link in sync is taken by the frame logic (R5). -/
theorem State.deliver_in_sync {s : State} {x : Character} {w : List Bool} (locked : s.rp.link = .locked)
    (window : w = (x.error :: s.rp.window).take 32) (sync : x.error = true → w.count true ≤ 3) :
    s.deliverCharacter x = (s.setRing { s.rp with awaitingHigh := x.error, window := w }).frameLogic x.sort := by
  subst window
  rw [State.deliver_locked locked, State.lockedCharacter]
  exact if_neg fun ⟨error, errors⟩ => absurd (sync error) (Nat.not_le.mpr errors)

theorem State.deliver_clean {s : State} {x : Character} {w : List Bool} (locked : s.rp.link = .locked)
    (window : w = (x.error :: s.rp.window).take 32) (clean : x.error = false) :
    s.deliverCharacter x = (s.setRing { s.rp with awaitingHigh := false, window := w }).frameLogic x.sort := by
  rw [State.deliver_in_sync locked window fun error => absurd error (Bool.eq_false_iff.mp clean), clean]

theorem State.endFrame_of_none {s : State} (stray : s.rp.assembly = none) : s.endFrame = s := by
  unfold State.endFrame
  rw [stray]

theorem State.endFrame_complete {s : State} {a : Assembly} {f : Frame} (frame : s.rp.assembly = some a)
    (complete : a.complete = some f) :
    s.endFrame = (s.setRing { s.rp with assembly := none }).classify f := by
  unfold State.endFrame
  rw [frame]
  dsimp only
  rw [complete]

theorem State.endFrame_incomplete {s : State} {a : Assembly} (frame : s.rp.assembly = some a)
    (incomplete : a.complete = none) :
    s.endFrame = (s.setRing { s.rp with assembly := none }).count .rxDamaged := by
  unfold State.endFrame
  rw [frame]
  dsimp only
  rw [incomplete]

/-- Settles O7: the sort of the character and whether a frame is in assembly select one case of the frame logic. -/
theorem lockedCharactersBuildTheFrame : Obligations.LockedCharactersBuildTheFrame := by
  unfold Obligations.LockedCharactersBuildTheFrame
  refine fun s x w locked window => ⟨fun v data stray => ?_, fun v a data frame => ?_, fun v a hurt sync frame => ?_,
    fun v hurt sync stray => ?_, fun fill stray => ?_, fun k header stray => ?_⟩
  · rw [State.deliver_clean locked window (by rw [x.error_of_sort, data]), data, State.frameLogic]
    simp only [State.setRing, stray, Option.map_none]
  · refine ⟨a.damaged || overlong (a.chars ++ [v]), ?_, by rw [Bool.or_eq_true, overlong_iff]⟩
    rw [State.deliver_clean locked window (by rw [x.error_of_sort, data]), data, State.frameLogic]
    simp only [State.setRing, frame, Option.map_some, a.append_eq]
  · have error : x.error = true := by rw [x.error_of_sort, hurt]
    rw [State.deliver_in_sync locked window fun _ => sync, hurt, error, State.frameLogic]
    simp only [State.setRing, frame, Option.map_some, Assembly.hurt]
  · have error : x.error = true := by rw [x.error_of_sort, hurt]
    rw [State.deliver_in_sync locked window fun _ => sync, hurt, error, State.frameLogic]
    simp only [State.setRing, stray, Option.map_none]
  · rw [State.deliver_clean locked window (by rw [x.error_of_sort, fill]), fill, State.frameLogic,
      State.endFrame_of_none (by exact stray)]
    rfl
  · rw [State.deliver_clean locked window (by rw [x.error_of_sort, header]), header, State.frameLogic,
      State.endFrame_of_none (by exact stray)]
    rfl

/-! ## The end of a frame (R8 to R12) -/

theorem Assembly.complete_none {a : Assembly} (wrong : a.damaged = true ∨
    ∀ n, a.chars[2]? = some n → 240 < n.toNat ∨ a.chars.length ≠ n.toNat + 5) : a.complete = none := by
  unfold Assembly.complete
  split
  · next dst src len rest chars =>
    refine if_neg fun ⟨whole, short, long⟩ => ?_
    rcases wrong with damaged | wrong
    · exact absurd damaged (Bool.eq_false_iff.mp whole)
    · rw [chars] at wrong
      rcases wrong len rfl with above | other
      · exact absurd short (Nat.not_le.mpr above)
      · exact other (by simp only [List.length_cons, long])
  · rfl

/-- A FILL or a header ends the frame in assembly: what it does after that is `opens`. -/
theorem State.deliver_end {s : State} {x : Character} {opens : State → State} (locked : s.rp.link = .locked)
    (sort : x.sort = .fill ∧ (∀ v, opens v = v) ∨ ∃ k, x.sort = .header k ∧
      ∀ v, opens v = { v with rp := { v.rp with assembly := some { kind := k, chars := [], damaged := false } } }) :
    s.deliverCharacter x = opens (s.setRing { s.rp with
      awaitingHigh := false, window := (false :: s.rp.window).take 32 }).endFrame := by
  have clean : x.error = false := by
    rw [x.error_of_sort]
    rcases sort with ⟨fill, -⟩ | ⟨k, header, -⟩
    · rw [fill]
    · rw [header]
  rw [State.deliver_clean locked rfl clean, clean]
  rcases sort with ⟨fill, opens_eq⟩ | ⟨k, header, opens_eq⟩
  · rw [fill, State.frameLogic, opens_eq]
  · rw [header, State.frameLogic, opens_eq]
    rfl

theorem treatment_removed {own : Byte} {f : Frame} (source : f.source = own) : treatment own f = .removed :=
  if_pos source

theorem treatment_consumed {own : Byte} {f : Frame} (source : f.source ≠ own) (kind : f.kind = 0x20#8)
    (destination : f.destination = own) : treatment own f = .consumed :=
  (if_neg source).trans (if_pos ⟨kind, destination⟩)

theorem treatment_broadcast {own : Byte} {f : Frame} (source : f.source ≠ own) (kind : f.kind = 0x20#8)
    (other : f.destination ≠ own) (broadcast : f.destination = 255#8) :
    treatment own f = .deliveredAndForwarded :=
  (if_neg source).trans ((if_neg fun h => other h.2).trans (if_pos ⟨kind, broadcast⟩))

theorem treatment_sample {own : Byte} {f : Frame} (source : f.source ≠ own) (kind : f.kind = 0x10#8) :
    treatment own f = .copiedAndForwarded := by
  have no_command : f.kind ≠ kindCommand := by rw [kind]; decide
  exact (if_neg source).trans ((if_neg fun h => no_command h.1).trans ((if_neg fun h => no_command h.1).trans
    (if_pos kind)))

theorem treatment_forwarded {own : Byte} {f : Frame} (source : f.source ≠ own) (no_sample : f.kind ≠ 0x10#8)
    (others : f.kind = 0x20#8 → f.destination ≠ own ∧ f.destination ≠ 255#8) : treatment own f = .forwarded :=
  (if_neg source).trans ((if_neg fun h => (others h.1).1 h.2).trans ((if_neg fun h => (others h.1).2 h.2).trans
    (if_neg no_sample)))

/-- A complete frame treated (R11). -/
def State.treated (s : State) (f : Frame) : Treatment → State
  | .removed => s
  | .consumed => s.deliverCommand f
  | .deliveredAndForwarded => (s.forward f).deliverCommand f
  | .copiedAndForwarded => (s.forward f).takeSample f
  | .forwarded => s.forward f

theorem State.classify_eq {s : State} {f : Frame} {x : Treatment} (h : treatment s.mu.ownAddress f = x) :
    s.classify f = s.treated f x := by
  subst h
  unfold State.classify
  cases treatment s.mu.ownAddress f <;> rfl

/-- Settles O8: the end of the frame in assembly, case by case of its treatment. -/
theorem frameEndClassifies : Obligations.FrameEndClassifies := by
  unfold Obligations.FrameEndClassifies
  refine ⟨fun a => Assembly.complete_none, fun s u x a opens locked frame sort ended => ?_⟩
  have finish := State.deliver_end locked sort
  generalize before : s.setRing { s.rp with
    awaitingHigh := false, window := (false :: s.rp.window).take 32 } = v at finish
  have frame' : v.rp.assembly = some a := by rw [← before]; exact frame
  have ended' : v.setRing { v.rp with assembly := none } = u := by rw [← before, ended]; rfl
  have own : u.mu.ownAddress = s.mu.ownAddress := by rw [ended]
  have commands : u.mu.commandQueue = s.mu.commandQueue := by rw [ended]
  have transit : u.rp.transitQueue = s.rp.transitQueue := by rw [ended]
  refine ⟨fun incomplete => ?_, fun f complete => ?_⟩
  · rw [finish, State.endFrame_incomplete frame' incomplete, ended']
    rfl
  · rw [finish, State.endFrame_complete frame' complete, ended']
    refine ⟨fun source => ?_, fun source kind destination => ?_, fun source kind other broadcast => ?_,
      fun source kind => ?_, fun source no_sample others => ?_⟩
    · exact congrArg opens (State.classify_eq (treatment_removed (source.trans own.symm)))
    · refine congrArg opens ((State.classify_eq (treatment_consumed (own ▸ source) kind (own ▸ destination))).trans ?_)
      rw [← commands]
      rfl
    · exact congrArg opens (State.classify_eq (treatment_broadcast (own ▸ source) kind (own ▸ other) broadcast))
    · exact congrArg opens (State.classify_eq (treatment_sample (own ▸ source) kind))
    · refine congrArg opens ((State.classify_eq (treatment_forwarded (own ▸ source) no_sample (own ▸ others))).trans ?_)
      rw [← transit]
      rfl

/-! ## The check (R10) -/

theorem crcShift_xor (x y : Half) : crcShift (x ^^^ y) =
    (if x.getLsbD 15 = y.getLsbD 15 then x <<< 1 else (x <<< 1) ^^^ 0x1021#16) ^^^ (y <<< 1) := by
  have leaves : (x ^^^ y).msb = (x.getLsbD 15 ^^ y.getLsbD 15) := by
    rw [BitVec.msb_eq_getLsbD_last, BitVec.getLsbD_xor]
  unfold crcShift
  rw [leaves, BitVec.shiftLeft_xor_distrib]
  by_cases same : x.getLsbD 15 = y.getLsbD 15
  · rw [if_pos same, same, Bool.xor_self]
    rfl
  · have differs : (x.getLsbD 15 ^^ y.getLsbD 15) = true := by
      rw [← Bool.bne_eq_xor]
      exact bne_iff_ne.mpr same
    rw [if_neg same, differs, if_pos rfl, BitVec.xor_assoc, BitVec.xor_assoc, BitVec.xor_comm (y <<< 1)]

/-- The bit of a character that comes to the top of a check after some shifts. -/
theorem getLsbD_taken {b : Byte} {k : Nat} (h : k < 8) :
    ((b ++ 0#8 : BitVec 16) <<< k).getLsbD 15 = b.getLsbD (7 - k) := by
  rw [BitVec.getLsbD_shiftLeft, BitVec.getLsbD_append]
  have high : ¬ 15 - k < 8 := by omega
  have place : 15 - k - 8 = 7 - k := by omega
  have inside : ¬ 15 < k := by omega
  simp [high, place, inside]

/-- The check is shifted with the character's bits still in it; taking them one by one gives the same (R10). -/
theorem crcShifts_eq {b : Byte} {crc : Nat → Half}
    (taken : ∀ k < 8, crc (k + 1) =
      if (crc k).getLsbD 15 = b.getLsbD (7 - k) then crc k <<< 1 else (crc k <<< 1) ^^^ 0x1021#16)
    {n k : Nat} (left : n + k = 8) : crcShifts n (crc k ^^^ ((b ++ 0#8 : BitVec 16) <<< k)) = crc 8 := by
  induction n generalizing k with
  | zero =>
    obtain rfl : k = 8 := by omega
    have gone : (b ++ 0#8 : BitVec 16) <<< 8 = 0#16 := by
      apply BitVec.eq_of_toNat_eq
      rw [BitVec.toNat_shiftLeft, toNat_append_byte, Nat.shiftLeft_eq]
      simp only [BitVec.toNat_ofNat]
      omega
    rw [gone]
    exact BitVec.xor_zero
  | succ n ih =>
    have inside : k < 8 := by omega
    rw [crcShifts, crcShift_xor, getLsbD_taken inside, ← taken k inside, ← BitVec.shiftLeft_add]
    exact ih (by omega)

theorem checkOf_concat (chars : List Byte) (b : Byte) : checkOf (chars ++ [b]) = crcChar (checkOf chars) b := by
  rw [checkOf, checkOf, List.foldl_append, List.foldl_cons, List.foldl_nil]

/-! ## A frame on the ring and back (R8, R205) -/

theorem Assembly.complete_of_fits {kind dst src len : Byte} {body : List Byte} {check : Half}
    (length : len.toNat = body.length) (short : body.length ≤ 240) :
    Assembly.complete
        { kind := kind, chars := dst :: src :: len :: (body ++ charsOf 2 check.toNat), damaged := false } =
      if checkOf (dst :: src :: len :: body) = check then
        some { kind := kind, destination := dst, source := src, body := body, check := check }
      else none := by
  have fits : (body ++ charsOf 2 check.toNat).length = len.toNat + 2 := by
    rw [List.length_append, length_charsOf, length]
  have read : BitVec.ofNat 16 (numberOf (charsOf 2 check.toNat)) = check := by
    have small : check.toNat < 256 ^ 2 := check.isLt
    rw [numberOf_charsOf, Nat.mod_eq_of_lt small, BitVec.ofNat_toNat, BitVec.setWidth_eq]
  refine (if_pos ⟨rfl, length ▸ short, fits⟩).trans ?_
  dsimp only
  rw [length, List.take_left, List.drop_left, read]

theorem Frame.characters_eq (f : Frame) : (f.characters.drop 1).map Prod.fst =
    f.destination :: f.source :: BitVec.ofNat 8 f.body.length :: (f.body ++ charsOf 2 f.check.toNat) := by
  rw [Frame.characters, List.drop_succ_cons, List.drop_zero, List.map_map]
  exact List.map_id _

/-- Settles O9: each bit taken is a shift of the check that still holds the character, and the characters of a frame
build it without damage. -/
theorem frameRoundTrip : Obligations.FrameRoundTrip := by
  unfold Obligations.FrameRoundTrip
  refine ⟨⟨rfl, fun chars b crc start taken => ?_⟩, fun f short => ⟨?_, rfl, fun y member => ?_⟩⟩
  · rw [checkOf_concat, ← start]
    have shifts := crcShifts_eq taken (n := 8) (k := 0) rfl
    rwa [BitVec.shiftLeft_zero] at shifts
  · have length : (BitVec.ofNat 8 f.body.length).toNat = f.body.length := by
      rw [BitVec.toNat_ofNat]
      exact Nat.mod_eq_of_lt (by omega)
    have fits : overlong (f.destination :: f.source :: BitVec.ofNat 8 f.body.length ::
        (f.body ++ charsOf 2 f.check.toNat)) = false := by
      refine Bool.eq_false_iff.mpr fun long => ?_
      obtain ⟨_, _, _, _, same, longer⟩ := overlong_iff.mp long
      cases same
      rw [length, List.length_append, length_charsOf] at longer
      omega
    rw [f.characters_eq, Assembly.foldl_append rfl fits]
    refine (Assembly.complete_of_fits length short).trans ?_
    simp only [eq_comm (a := f.check)]
  · rw [Frame.characters, List.drop_succ_cons, List.drop_zero] at member
    obtain ⟨b, -, rfl⟩ := List.mem_map.mp member
    rfl

end Sys2Proof.Machine
end

section
/-! SUPPORT. The Originate Queue's admission arbiter and the egress arbiter (R12 to R16, R94, R173, R201, R202). -/

namespace Sys2Proof.Machine

theorem charsOf_one (n : Nat) : charsOf 1 n = [BitVec.ofNat 8 n] := by
  rw [charsOf, charsOf, pow_zero, Nat.div_one]

/-! ## The egress arbiter (R15) -/

theorem isEmpty_not_of_nil {α : Type} {l : List α} (h : l = []) : (!l.isEmpty) = false := by rw [h]; rfl

theorem isEmpty_not_of_ne {α : Type} {l : List α} (h : l ≠ []) : (!l.isEmpty) = true := by
  rw [List.isEmpty_eq_false_iff.mpr h]
  rfl

theorem arbiterDecides_decideNext (w : State) : ArbiterDecides w w.decideNext where
  nothing transit originate := by
    unfold State.decideNext
    rw [isEmpty_not_of_nil transit, isEmpty_not_of_nil originate]
    rfl
  transit transit originate := by
    unfold State.decideNext
    rw [isEmpty_not_of_ne transit, isEmpty_not_of_nil originate]
    rfl
  originate transit originate := by
    unfold State.decideNext
    rw [isEmpty_not_of_nil transit, isEmpty_not_of_ne originate]
    rfl
  passed transit originate fewer := by
    have decided : decideEgress true true w.rp.passOver = (.transit, w.rp.passOver + 1) :=
      if_neg (Nat.not_le.mpr fewer)
    unfold State.decideNext
    rw [isEmpty_not_of_ne transit, isEmpty_not_of_ne originate, decided]
    rfl
  turn transit originate twice := by
    have decided : decideEgress true true w.rp.passOver = (.originate, 0) := if_pos twice
    unfold State.decideNext
    rw [isEmpty_not_of_ne transit, isEmpty_not_of_ne originate, decided]
    rfl

theorem exec_egressDecision {s : State} (released : s.rp.resetAsserted = false) :
    exec .egressDecision s = .next s.endSending.decideNext :=
  congrArg Host.Outcome.next (if_neg (Bool.eq_false_iff.mp released))

/-- Settles O10: the entry is freed, and then the arbiter decides. -/
theorem egressArbiterDecides : Obligations.EgressArbiterDecides := by
  unfold Obligations.EgressArbiterDecides
  refine fun s w => ⟨fun asserted => congrArg Host.Outcome.next (if_pos asserted), fun released sent =>
    ⟨_, exec_egressDecision released, ?_⟩⟩
  have freed : s.endSending = w := by
    unfold State.endSending
    rcases sent with ⟨sending, rfl⟩ | ⟨sending, rfl⟩
    · rw [sending]
    · rw [sending]
      rfl
  rw [freed]
  exact arbiterDecides_decideNext w

/-! ## Room and claims (R14) -/

theorem Frame.isReply_eq_false (f : Frame) : (!f.isReply) = decide (f.kind ≠ 0x21#8) := (decide_not).symm

theorem State.roomForOthers_iff {s : State} : s.roomForOthers = true ↔ s.othersFit := by
  unfold State.roomForOthers State.othersFit
  rw [Bool.and_eq_true, decide_eq_true_iff, decide_eq_true_iff]
  simp only [Frame.isReply_eq_false, Config.originateOthers, Config.originateRoom]

theorem State.orders_append {s : State} {before after : List OrderIndex} (creation : s.ot.creation = before ++ after) :
    s.orders = before.filterMap (fun i => (s.order i).order?.map fun o => (i, o)) ++
      after.filterMap fun i => (s.order i).order?.map fun o => (i, o) := by
  rw [State.orders, creation, List.filterMap_append]

theorem State.find_orders_none {s : State} {l : List OrderIndex}
    (others : ∀ j ∈ l, ∀ x, s.order j = .order x → x.stage ≠ .issuing) :
    (l.filterMap fun i => (s.order i).order?.map fun o => (i, o)).find?
      (fun x => decide (x.2.stage = .issuing)) = none := by
  rw [List.find?_eq_none]
  rintro ⟨j, x⟩ member
  obtain ⟨k, inside, found⟩ := List.mem_filterMap.mp member
  obtain ⟨o, order, same⟩ := Option.map_eq_some_iff.mp found
  obtain ⟨rfl, rfl⟩ := Prod.mk.inj same
  simpa using others k inside o (OrderRecord.order?_eq_some.mp order)

/-- The ISSUING order created earliest is the first ORDER claim. -/
theorem State.orderClaim_of_first {s : State} {i : OrderIndex} {o : Order} {before after : List OrderIndex}
    (creation : s.ot.creation = before ++ i :: after) (order : s.order i = .order o) (issuing : o.stage = .issuing)
    (earlier : ∀ j ∈ before, ∀ x, s.order j = .order x → x.stage ≠ .issuing) : s.orderClaim = some (i, o) := by
  unfold State.orderClaim
  rw [State.orders_append creation, List.find?_append, State.find_orders_none earlier]
  have first : (s.order i).order?.map (fun o => (i, o)) = some (i, o) := by rw [order]; rfl
  rw [List.filterMap_cons, first]
  exact List.find?_cons_of_pos (a := (i, o)) (p := fun x => decide (x.2.stage = .issuing)) (decide_eq_true issuing)

theorem State.orderClaim_none {s : State} (none : ∀ i x, s.order i = .order x → x.stage ≠ .issuing) :
    s.orderClaim = Option.none :=
  State.find_orders_none fun j _ => none j

theorem State.orderClaim_some {s : State} {x : OrderIndex × Order} (claim : s.orderClaim = some x) :
    x.1 ∈ s.ot.creation ∧ s.order x.1 = .order x.2 ∧ x.2.stage = .issuing := by
  unfold State.orderClaim at claim
  have issuing := List.find?_some claim
  rw [decide_eq_true_iff] at issuing
  obtain ⟨k, inside, found⟩ := List.mem_filterMap.mp (List.mem_of_find?_eq_some claim)
  obtain ⟨o, order, rfl⟩ := Option.map_eq_some_iff.mp found
  exact ⟨inside, OrderRecord.order?_eq_some.mp order, issuing⟩

theorem State.orderStands_of_claim {s : State} {x : OrderIndex × Order} (claim : s.orderClaim = some x) :
    s.orderStands := by
  obtain ⟨inside, order, issuing⟩ := State.orderClaim_some claim
  exact ⟨x.1, inside, x.2, order, issuing⟩

theorem State.not_orderStands {s : State} (claim : s.orderClaim = none) : ¬ s.orderStands := by
  rintro ⟨i, inside, o, order, issuing⟩
  have listed : (i, o) ∈ s.orders := List.mem_filterMap.mpr ⟨i, inside, by rw [order]; rfl⟩
  exact absurd (decide_eq_true issuing) (List.find?_eq_none.mp claim (i, o) listed)

theorem State.firstClaim_order {s : State} {x : OrderIndex × Order} (claim : s.orderClaim = some x) :
    s.firstClaim = some (.order x) := by
  unfold State.firstClaim
  rw [claim]

theorem State.firstClaim_verdict {s : State} {i : ModuleIndex} {rest : List ModuleIndex}
    (order : s.orderClaim = none) (claims : s.rp.verdictClaims = i :: rest) : s.firstClaim = some (.verdict i) := by
  unfold State.firstClaim
  rw [order, claims]

theorem State.firstClaim_notice {s : State} {n : Notice} {rest : List Notice} (order : s.orderClaim = none)
    (claims : s.rp.verdictClaims = []) (notices : s.mu.notices = n :: rest) :
    s.firstClaim = some (.notice n) := by
  unfold State.firstClaim
  rw [order, claims, notices]

theorem State.firstClaim_none {s : State} (h : s.firstClaim = none) :
    s.orderClaim = none ∧ s.rp.verdictClaims = [] ∧ s.mu.notices = [] := by
  unfold State.firstClaim at h
  split at h
  · cases h
  · cases h
  · cases h
  · next order claims notices => exact ⟨order, claims, notices⟩

theorem exec_orderAdmission {s : State} {x : OrderIndex × Order} (claim : s.orderClaim = some x) (room : s.othersFit) :
    exec .orderAdmission s = .next (s.admitOrder x) := by
  change Host.Outcome.next _ = _
  rw [State.firstClaim_order claim]
  exact congrArg Host.Outcome.next (if_pos (State.roomForOthers_iff.mpr room))

theorem exec_verdictAdmission {s : State} {i : ModuleIndex} {rest : List ModuleIndex} (order : s.orderClaim = none)
    (claims : s.rp.verdictClaims = i :: rest) (room : s.othersFit) :
    exec .verdictAdmission s = .next (s.admitVerdict i).selectIfDue := by
  change Host.Outcome.next _ = _
  rw [State.firstClaim_verdict order claims]
  exact congrArg Host.Outcome.next (if_pos (State.roomForOthers_iff.mpr room))

theorem exec_noticeAdmission {s : State} {n : Notice} {rest : List Notice} (order : s.orderClaim = none)
    (claims : s.rp.verdictClaims = []) (notices : s.mu.notices = n :: rest) (room : s.othersFit) :
    exec .noticeAdmission s = .next (s.admitNotice n) := by
  change Host.Outcome.next _ = _
  rw [State.firstClaim_notice order claims notices]
  exact congrArg Host.Outcome.next (if_pos (State.roomForOthers_iff.mpr room))

/-- Settles O12: the claim is the first ISSUING order in the order of creation. -/
theorem orderAdmission : Obligations.OrderAdmission := by
  unfold Obligations.OrderAdmission
  intro s i o before after creation order issuing earlier others room
  exact exec_orderAdmission (State.orderClaim_of_first creation order issuing earlier) ⟨others, room⟩

/-! ## VERDICT admission (R94, R95) -/

theorem State.admitVerdict_some {s : State} {i : ModuleIndex} {v : Verdict} {rest : List ModuleIndex}
    (claims : s.rp.verdictClaims = i :: rest) (verdict : (s.record i).verdict = some v) :
    s.admitVerdict i =
      let u := ((s.setRing { s.rp with verdictClaims := rest }).originate kindVerdict s.controllerDestination
        (verdictBody v (s.record i))).setRecord i { s.record i with verdict := none }
      if (s.record i).departed then u.goOn i else u := by
  unfold State.admitVerdict
  rw [verdict, claims, List.erase_cons_head]

theorem poolable_eq_true {g : Option Grade} : poolable g = true ↔ ∃ x, g = some x ∧ x ≠ .reject := by
  rcases g with _ | _ | _ <;> simp [poolable]

theorem poolable_eq_false {g : Option Grade} : poolable g = false ↔ g = none ∨ g = some .reject := by
  rcases g with _ | _ | _ <;> simp [poolable]

/-- Settles O13: the claim is the first one standing, and R52 follows for a departed record by its grade. -/
theorem verdictAdmission : Obligations.VerdictAdmission := by
  unfold Obligations.VerdictAdmission
  intro s u i v rest noOrder claims verdict others room queued
  have row := exec_verdictAdmission (State.orderClaim_none noOrder) claims ⟨others, room⟩
  have record : u.record i = { s.record i with verdict := none } := by
    rw [queued]
    exact get_put_same _ _ _
  have pool : u.pe.pool = s.pe.pool := by rw [queued]
  have admitted : s.admitVerdict i = if (s.record i).departed then u.goOn i else u := by
    rw [State.admitVerdict_some claims verdict, queued]
    rfl
  rw [row, admitted]
  refine ⟨fun inBay => ?_, fun departed noGrade => ?_, fun departed graded => ?_⟩
  · rw [inBay]
    rfl
  · have out : poolable (u.record i).resolved = false := by
      rw [record]
      exact poolable_eq_false.mpr noGrade
    rw [departed, if_pos rfl, State.goOn, out, State.freeRecord, record]
    rfl
  · have into : poolable (u.record i).resolved = true := by
      rw [record]
      exact poolable_eq_true.mpr graded
    rw [departed, if_pos rfl, State.goOn, if_pos into, State.enterPoolOrWait, State.poolHasRoom, pool]
    simp only [decide_eq_true_iff]
    rfl

/-! ## REPLY and NOTICE admission, and the Notice Set (R13, R201, R202) -/

theorem raiseIn_new {a : NoticeArgument} {l : List Notice} (new : ∀ n ∈ l, n.argument.kindCode ≠ a.kindCode) :
    raiseIn a l = l ++ [{ argument := a, count := 1 }] := by
  induction l with
  | nil => rfl
  | cons n l ih =>
    rw [List.forall_mem_cons] at new
    rw [raiseIn, if_neg new.1, ih new.2]
    rfl

theorem raiseIn_pending {a : NoticeArgument} {before after : List Notice} {n : Notice}
    (same : n.argument.kindCode = a.kindCode) (others : ∀ m ∈ before, m.argument.kindCode ≠ a.kindCode) :
    raiseIn a (before ++ n :: after) = before ++ { argument := a, count := min (n.count + 1) 255 } :: after := by
  induction before with
  | nil => exact if_pos same
  | cons m before ih =>
    rw [List.forall_mem_cons] at others
    rw [List.cons_append, raiseIn, if_neg others.1, ih others.2]
    rfl

theorem State.replyQueued_iff {s : State} : s.replyQueued = true ↔ ∃ f ∈ s.rp.originateQueue, f.kind = 0x21#8 := by
  simp only [State.replyQueued, Frame.isReply, List.any_eq_true, decide_eq_true_iff]
  rfl

theorem State.admitReply_none {s : State} (none : s.mu.reply = Option.none) : s.admitReply = s := by
  unfold State.admitReply
  rw [none]

theorem State.admitReply_waits {s : State} (queued : ∃ f ∈ s.rp.originateQueue, f.kind = 0x21#8) :
    s.admitReply = s := by
  unfold State.admitReply
  split
  · exact if_pos (State.replyQueued_iff.mpr queued)
  · rfl

theorem State.admitReply_enters {s : State} {r : ReplyOffer} (offered : s.mu.reply = some r)
    (free : ∀ f ∈ s.rp.originateQueue, f.kind ≠ 0x21#8) :
    s.admitReply = { s with
      mu := { s.mu with reply := none }
      rp := { s.rp with originateQueue := s.rp.originateQueue ++
        [buildFrame 0x21#8 r.destination s.mu.ownAddress r.body] } } := by
  unfold State.admitReply
  rw [offered]
  refine if_neg fun queued => ?_
  obtain ⟨f, member, reply⟩ := State.replyQueued_iff.mp queued
  exact free f member reply

/-- Settles O14: a raise by its place among the pending kinds, a REPLY by the REPLY queued, a NOTICE by the claims that
stand before it. -/
theorem replyAndNoticeAdmission : Obligations.ReplyAndNoticeAdmission := by
  unfold Obligations.ReplyAndNoticeAdmission
  refine ⟨fun a ns => ⟨raiseIn_new, ?_⟩, fun s r offered => ⟨fun free => ?_, fun queued => ?_⟩,
    fun s n rest noOrder claims notices others room => ?_⟩
  · rintro before after n rfl same before_others
    exact raiseIn_pending same before_others
  · exact congrArg Host.Outcome.next (State.admitReply_enters offered free)
  · exact congrArg Host.Outcome.next (State.admitReply_waits queued)
  · rw [exec_noticeAdmission (State.orderClaim_none noOrder) claims notices ⟨others, room⟩, State.admitNotice, notices,
      noticeBody, charsOf_one, charsOf_one]
    rfl

/-! ## The claims admitted at a freed entry (R14) -/

/-- How many frames other than REPLY are queued (R13). -/
def State.othersQueued (s : State) : Nat := (s.rp.originateQueue.filter fun f => decide (f.kind ≠ 0x21#8)).length

/-- Every VERDICT claim stands once, for a verdict pending (R14, R42). -/
def State.VerdictsStand (s : State) : Prop :=
  s.rp.verdictClaims.Nodup ∧ ∀ i ∈ s.rp.verdictClaims, (s.record i).verdict ≠ none

theorem State.othersQueued_originate (s : State) {kind : Byte} (other : kind ≠ 0x21#8) (destination : Byte)
    (body : List Byte) : (s.originate kind destination body).othersQueued = s.othersQueued + 1 := by
  simp [State.othersQueued, State.originate, State.setRing, List.filter_append, buildFrame, other]

theorem State.othersQueued_admitVerdict {s : State} {i : ModuleIndex} {rest : List ModuleIndex}
    (stand : s.VerdictsStand) (claims : s.rp.verdictClaims = i :: rest) :
    (s.admitVerdict i).selectIfDue.othersQueued = s.othersQueued + 1 ∧ (s.admitVerdict i).selectIfDue.VerdictsStand := by
  have first : i ∈ s.rp.verdictClaims := claims ▸ List.mem_cons_self
  obtain ⟨v, verdict⟩ := Option.ne_none_iff_exists'.mp (stand.2 i first)
  obtain ⟨once, pending⟩ := stand
  rw [claims] at once pending
  obtain ⟨away, once⟩ := List.nodup_cons.mp once
  rw [State.admitVerdict_some claims verdict]
  generalize queue : (s.setRing { s.rp with verdictClaims := rest }).originate kindVerdict s.controllerDestination
    (verdictBody v (s.record i)) = q
  have queued : q.othersQueued = s.othersQueued + 1 := by
    rw [← queue]
    exact State.othersQueued_originate (s.setRing { s.rp with verdictClaims := rest }) (by decide) _ _
  have others : State.Others i s q := by rw [← queue]; exact .of_eq rfl
  have left : q.rp.verdictClaims = rest := by rw [← queue]; rfl
  have kept : ∀ t : State, t.rp = q.rp → State.Others i q t →
      t.selectIfDue.othersQueued = s.othersQueued + 1 ∧ t.selectIfDue.VerdictsStand := by
    intro t ring records
    refine ⟨?_, ?_, fun j member => ?_⟩
    · rw [← queued]
      simp only [State.othersQueued, State.selectIfDue_frame, ring]
    · simpa [ring, left] using once
    · rw [(State.selectIfDue_frame t).1, ring, left] at member
      have other : j ≠ i := fun same => away (same ▸ member)
      have record : t.selectIfDue.record j = t.record j := by simp [State.record]
      rw [record, records j other, others j other]
      exact pending j (List.mem_cons_of_mem _ member)
  dsimp only
  split
  · exact kept _ (by simp) ((State.Others.setRecord q i _).trans (.goOn _ _))
  · exact kept _ rfl (.setRecord q i _)

/-- The arbiter admits claim after claim, and has room for fewer than its fuel. -/
theorem claimsAdmitted_admitClaims (n : Nat) {s : State} (stand : s.VerdictsStand) (fuel : 7 ≤ n + s.othersQueued) :
    ClaimsAdmitted s (State.admitClaims n s) := by
  induction n generalizing s with
  | zero =>
    rw [Nat.zero_add] at fuel
    exact .done s fun room => absurd room.1 (Nat.not_lt.mpr fuel)
  | succ n ih =>
    unfold State.admitClaims
    split
    · next c first =>
      by_cases room : s.roomForOthers = true
      · rw [if_pos room]
        have fits := State.roomForOthers_iff.mp room
        rcases State.firstClaim_cases first with ⟨x, rfl, claim⟩ | ⟨i, rest, rfl, order, claims⟩ |
          ⟨notice, rest, rfl, order, claims, notices⟩
        · have grown : (s.admitOrder x).othersQueued = s.othersQueued + 1 :=
            State.othersQueued_originate s (by decide) _ _
          exact .order s _ _ fits (State.orderStands_of_claim claim) (exec_orderAdmission claim fits)
            (ih (s := s.admitOrder x) stand (by omega))
        · obtain ⟨grown, stands⟩ := State.othersQueued_admitVerdict stand claims
          exact .verdict s _ _ fits (State.not_orderStands order) (by rw [claims]; exact List.cons_ne_nil _ _)
            (exec_verdictAdmission order claims fits) (ih stands (by omega))
        · have grown : (s.admitNotice notice).othersQueued = s.othersQueued + 1 :=
            State.othersQueued_originate _ (by decide) _ _
          exact .notice s _ _ fits (State.not_orderStands order) claims (by rw [notices]; exact List.cons_ne_nil _ _)
            (exec_noticeAdmission order claims notices fits) (ih (s := s.admitNotice notice) stand (by omega))
      · rw [if_neg room]
        exact .done s fun fits => absurd (State.roomForOthers_iff.mpr fits) room
    · next first =>
      obtain ⟨order, claims, notices⟩ := State.firstClaim_none first
      exact .done s fun _ => ⟨State.not_orderStands order, claims, notices⟩

/-- Settles O11: the entry is freed, a REPLY that waited enters, the claims follow and the arbiter decides. -/
theorem originateEntryIsFreed : Obligations.OriginateEntryIsFreed := by
  unfold Obligations.OriginateEntryIsFreed
  intro s v f rest released sending queue once pending waits enters
  have freed : (s.setRing { s.rp with originateQueue := s.rp.originateQueue.tail }).admitReply = v := by
    rw [queue, List.tail_cons]
    rcases offered : s.mu.reply with _ | r
    · rw [waits (.inl offered)]
      exact State.admitReply_none offered
    · by_cases reply : ∃ g ∈ rest, g.kind = 0x21#8
      · rw [waits (.inr reply)]
        exact State.admitReply_waits reply
      · have none_left : ∀ g ∈ rest, g.kind ≠ 0x21#8 := fun g member kind => reply ⟨g, member, kind⟩
        rw [enters r offered none_left]
        exact State.admitReply_enters offered none_left
  have ended : s.endSending = State.admitClaims 7 v := by
    rw [← freed]
    unfold State.endSending
    rw [sending]
    rfl
  have stand : v.VerdictsStand := by
    rw [← freed]
    have claims : ((s.setRing { s.rp with originateQueue := s.rp.originateQueue.tail }).admitReply).rp.verdictClaims =
        s.rp.verdictClaims := by
      unfold State.admitReply
      split
      · split <;> rfl
      · rfl
    refine ⟨by rw [claims]; exact once, fun i member => ?_⟩
    rw [claims] at member
    simpa [State.record] using pending i member
  refine ⟨_, _, claimsAdmitted_admitClaims 7 stand (Nat.le_add_right _ _), exec_egressDecision released, ?_⟩
  rw [ended]
  exact arbiterDecides_decideNext _

end Sys2Proof.Machine
end

section
/-! SUPPORT. The intake of samples: admission (R22, R23, R26), the gaps of a sequence (R24, R25) and the target of a
record (R29). -/

namespace Sys2Proof.Machine

/-! ## Admission (R22, R23, R26) -/

theorem findStation_none {t : Vector Station 32} {a : Byte}
    (absent : ∀ k, (t.get k).valid = true → (t.get k).address ≠ a) : findStation t a = none := by
  refine lowest_none.mpr fun k => Bool.eq_false_iff.mpr fun found => ?_
  rw [Bool.and_eq_true, decide_eq_true_iff] at found
  exact absent k found.1 found.2

theorem findStation_only {t : Vector Station 32} {a : Byte} {e : Fin 32} (valid : (t.get e).valid = true)
    (address : (t.get e).address = a) (only : ∀ k, (t.get k).valid = true → (t.get k).address = a → k = e) :
    findStation t a = some e := by
  cases found : findStation t a with
  | none =>
    have absent := lowest_none.mp found e
    rw [valid, address, decide_eq_true rfl] at absent
    cases absent
  | some k =>
    obtain ⟨valid', address'⟩ := findStation_some found
    rw [only k valid' address']

theorem State.takeSample_admitted {s : State} {f : Frame} {e : Fin 32} (h : s.admittedUnder f.source = some e) :
    s.takeSample f = s.admitSample e f.body := by
  unfold State.takeSample
  rw [h]

theorem State.takeSample_refused {s : State} {f : Frame} (h : s.admittedUnder f.source = none) :
    s.takeSample f = s := by
  unfold State.takeSample
  rw [h]

theorem State.admittedUnder_halted {s : State} (halted : s.mu.mode = .halted) (source : Byte) :
    s.admittedUnder source = none := by
  unfold State.admittedUnder
  rw [halted]

theorem State.admittedUnder_unknown {s : State} {source : Byte} (h : findStation s.mu.active.stat source = none) :
    s.admittedUnder source = none := by
  unfold State.admittedUnder
  rw [h]
  cases s.mu.mode <;> rfl

theorem State.admittedUnder_found {s : State} {source : Byte} {e : Fin 32} (run : s.mu.mode = .run)
    (h : findStation s.mu.active.stat source = some e) :
    s.admittedUnder source = if (s.mu.active.stat.get e).role = .ignore then none else some e := by
  unfold State.admittedUnder
  rw [run, h]

@[simp] theorem State.checkSequence_queue (s : State) (e : Fin 32) (q : Byte) :
    (s.checkSequence e q).iu.intakeQueue = s.iu.intakeQueue := by
  unfold State.checkSequence
  dsimp only
  split <;> simp

theorem State.admitSample_malformed {s : State} {e : Fin 32} {q : Byte} {rest : List Byte}
    (malformed : sampleOf (q :: rest) = none) : s.admitSample e (q :: rest) = (s.checkSequence e q).loseOne e := by
  unfold State.admitSample
  rw [malformed]

theorem State.admitSample_read {s : State} {e : Fin 32} {q : Byte} {rest : List Byte} {x : Sample}
    (read : sampleOf (q :: rest) = some x) : s.admitSample e (q :: rest) =
      (s.checkSequence e q).enqueueRecord { station := some e, channel := x.channel, content := x.content } := by
  unfold State.admitSample
  rw [read]

/-- Settles O15: the entry of the source, then the body's sequence number and content, select one case. -/
theorem sampleAdmission : Obligations.SampleAdmission := by
  unfold Obligations.SampleAdmission
  refine fun s f e => ⟨fun halted => State.takeSample_refused (State.admittedUnder_halted halted _),
    fun absent => State.takeSample_refused (State.admittedUnder_unknown (findStation_none absent)),
    fun valid address only run => ?_⟩
  have under := State.admittedUnder_found run (findStation_only valid address only)
  refine ⟨fun ignored => State.takeSample_refused (under.trans (if_pos ignored)), fun heeded empty => ?_,
    fun heeded q rest t body after => ?_⟩
  · rw [State.takeSample_admitted (under.trans (if_neg heeded)), empty]
    rfl
  · subst after
    rw [State.takeSample_admitted (under.trans (if_neg heeded)), body]
    refine ⟨fun malformed => ?_, fun x read room => ?_, fun x read full => ?_⟩
    · rw [State.admitSample_malformed malformed]
      rfl
    · rw [State.admitSample_read read, State.enqueueRecord, State.checkSequence_queue]
      exact if_pos room
    · rw [State.admitSample_read read, State.enqueueRecord, State.checkSequence_queue]
      exact if_neg (Nat.not_lt.mpr full)

/-! ## Gaps in a sequence (R24, R25) -/

theorem lostAmount_eq {last : Option Byte} {q : Byte} {lost : Nat} (none : last = none → lost = 0)
    (some : ∀ l, last = some l → lost = (q.toNat + 256 + 255 - l.toNat) % 256) : lostAmount last q = lost := by
  cases last with
  | none => exact (none rfl).symm
  | some l =>
    have amount := some l rfl
    have := q.isLt
    have := l.isLt
    change (q - l - 1).toNat = lost
    bv_omega

/-- A record after a gap event of a module (R25). -/
def State.gapped (s : State) (m : ModuleRef) : ModuleRecord :=
  if (s.record m.index).generation = m.generation ∧
      ((s.record m.index).state = .settling ∨ (s.record m.index).state = .testing) then
    { s.record m.index with gapCount := min ((s.record m.index).gapCount + 1) 255 }
  else s.record m.index

theorem State.standsIn_testing {s : State} {m : ModuleRef} : s.standsIn m [.settling, .testing] ↔
    (s.record m.index).generation = m.generation ∧
      ((s.record m.index).state = .settling ∨ (s.record m.index).state = .testing) := by
  simp [State.standsIn]

theorem State.gapEvent_record (s : State) (m : ModuleRef) : (s.gapEvent m).record m.index = s.gapped m := by
  unfold State.gapEvent State.gapped
  by_cases stands : s.standsIn m [.settling, .testing]
  · rw [State.claim_applied stands, State.record_setRecord_same, if_pos (State.standsIn_testing.mp stands)]
    rfl
  · rw [State.claim_declined stands, if_neg fun h => stands (State.standsIn_testing.mpr h)]

theorem State.gapEvent_others (s : State) (m : ModuleRef) : State.Others m.index s (s.gapEvent m) := by
  unfold State.gapEvent State.claim
  split
  · exact .setRecord _ _ _
  · exact .refl _ _

theorem State.foldl_gapEvent_other {l : List ModuleRef} {i : ModuleIndex} (away : ∀ m ∈ l, m.index ≠ i) (s : State) :
    (l.foldl State.gapEvent s).record i = s.record i := by
  induction l generalizing s with
  | nil => rfl
  | cons m l ih =>
    rw [List.forall_mem_cons] at away
    rw [List.foldl_cons, ih away.2, s.gapEvent_others m i (Ne.symm away.1)]

/-- Among modules of different indices each takes one gap. -/
theorem State.foldl_gapEvent_member {l : List ModuleRef} (apart : l.Pairwise fun m n => m.index ≠ n.index)
    {m : ModuleRef} (member : m ∈ l) (s : State) : (l.foldl State.gapEvent s).record m.index = s.gapped m := by
  obtain ⟨before, after, rfl⟩ := List.append_of_mem member
  obtain ⟨-, later, earlier⟩ := List.pairwise_append.mp apart
  rw [List.foldl_append, List.foldl_cons,
    State.foldl_gapEvent_other fun n inside => ((List.pairwise_cons.mp later).1 n inside).symm, State.gapEvent_record]
  have kept : (before.foldl State.gapEvent s).record m.index = s.record m.index :=
    State.foldl_gapEvent_other (fun n inside => earlier n inside m List.mem_cons_self) s
  unfold State.gapped
  rw [kept]

theorem mem_occupants {v : Vector (Option ModuleRef) 4} {m : ModuleRef} :
    m ∈ v.toList.filterMap id ↔ ∃ c, v.get c = some m := by
  rw [List.mem_filterMap]
  constructor
  · rintro ⟨o, member, same⟩
    obtain ⟨k, inside, found⟩ := List.getElem_of_mem member
    refine ⟨⟨k, by simpa using inside⟩, ?_⟩
    rw [← same, id, ← found]
    simp [Vector.get]
  · rintro ⟨c, found⟩
    exact ⟨some m, found ▸ by simp [Vector.get], rfl⟩

theorem occupants_apart {v : Vector (Option ModuleRef) 4}
    (apart : ∀ c d m n, v.get c = some m → v.get d = some n → m.index = n.index → c = d) :
    (v.toList.filterMap id).Pairwise fun m n => m.index ≠ n.index := by
  rw [List.pairwise_filterMap, List.pairwise_iff_getElem]
  intro i j hi hj before m found n found' same
  have left : i < 4 := by simpa using hi
  have right : j < 4 := by simpa using hj
  have bays := apart ⟨i, left⟩ ⟨j, right⟩ m n (by simpa [Vector.get] using found) (by simpa [Vector.get] using found') same
  exact absurd (Fin.mk.inj bays) (Nat.ne_of_lt before)

/-- The state with a sequence number taken and a loss charged, before its gap events (R24). -/
def State.charged (s : State) (e : Fin 32) (q : Byte) (lost : Nat) : State :=
  s.setLive e { s.live e with lastSequence := some q, lostCount := satAdd 255 (s.live e).lostCount lost }

theorem State.charged_live (s : State) (e : Fin 32) (q : Byte) (lost : Nat) :
    (s.charged e q lost).live e =
      { s.live e with lastSequence := some q, lostCount := satAdd 255 (s.live e).lostCount lost } := by
  rw [State.charged, State.live_setLive, if_pos rfl]

theorem State.checkSequence_eq {s : State} {e : Fin 32} {q : Byte} {lost : Nat}
    (amount : lostAmount (s.live e).lastSequence q = lost) : s.checkSequence e q =
      if lost ≠ 0 ∧ (s.mu.active.stat.get e).role = .testBay then (s.charged e q lost).gapEvents e
      else s.charged e q lost := by
  subst amount
  rfl

/-- Settles O17: the loss is charged first; then each occupant takes its gap, if it takes one. -/
theorem sequenceGapsAreCharged : Obligations.SequenceGapsAreCharged := by
  unfold Obligations.SequenceGapsAreCharged
  rintro s _ e q lost rfl first later
  have checked := State.checkSequence_eq (e := e) (lostAmount_eq first later)
  have intake : (s.checkSequence e q).iu = (s.charged e q lost).iu := by
    rw [checked]
    split <;> simp
  have live : ∀ k, (s.checkSequence e q).live k = (s.charged e q lost).live k := fun k => by
    rw [State.live, intake, ← State.live]
  have bays : ((s.charged e q lost).live e).bays = (s.live e).bays := by rw [State.charged_live]
  refine ⟨?_, fun k other => ?_, State.checkSequence_queue s e q, fun i quiet => ?_, fun some_lost testBay apart c m occupant => ?_⟩
  · rw [live, State.charged_live]
    exact ⟨rfl, rfl, rfl⟩
  · rw [live, State.charged, State.live_setLive, if_neg (Ne.symm other)]
  · rw [checked]
    split
    · next charges =>
      refine State.foldl_gapEvent_other (fun m member => ?_) (s.charged e q lost)
      rw [bays] at member
      obtain ⟨c, occupant⟩ := mem_occupants.mp member
      rcases quiet with nothing | other | away
      · exact absurd nothing charges.1
      · exact absurd charges.2 other
      · exact away c m occupant
    · rfl
  · rw [checked, if_pos ⟨some_lost, testBay⟩, State.gapEvents, bays]
    exact State.foldl_gapEvent_member (occupants_apart apart) (mem_occupants.mpr ⟨c, occupant⟩) _

/-! ## The target of a record (R29) -/

section Target

variable {s : State} {r : MeasurementRecord} {e : Fin 32}

theorem State.target_beyond (station : r.station = some e)
    (beyond : (s.mu.active.stat.get e).channelCount ≤ r.channel.val) : s.target r = .none := by
  unfold State.target
  rw [station]
  exact if_neg (Nat.not_lt.mpr beyond)

theorem State.target_ignored (station : r.station = some e) (ignored : (s.mu.active.stat.get e).role = .ignore) :
    s.target r = .none := by
  unfold State.target
  rw [station]
  dsimp only
  rw [ignored]
  exact ite_self _

theorem State.target_bay {c : Fin 4} (station : r.station = some e)
    (inside : r.channel.val < (s.mu.active.stat.get e).channelCount)
    (role : (s.mu.active.stat.get e).role = .testBay) (channel : r.channel.val = c.val) :
    s.target r = .bay { entry := e, channel := c } := by
  unfold State.target
  rw [station]
  dsimp only
  rw [if_pos inside, role]
  dsimp only
  rw [channel, indexOf_val]

theorem State.target_slot {p : Fin 16} (station : r.station = some e)
    (inside : r.channel.val < (s.mu.active.stat.get e).channelCount) (role : (s.mu.active.stat.get e).role = .bank)
    (position : p.val = (s.mu.active.stat.get e).basePosition.val + r.channel.val) :
    s.target r = .slot { string := (s.mu.active.stat.get e).string, position := p } := by
  unfold State.target
  rw [station]
  dsimp only
  rw [if_pos inside, role]
  dsimp only
  rw [← position, indexOf_val]

end Target

/-- Settles O18, by the channel and the role of the record's entry. -/
theorem targetResolution : Obligations.TargetResolution := by
  unfold Obligations.TargetResolution
  exact fun s r => ⟨fun void => by rw [State.target, void], fun e station => ⟨State.target_beyond station,
    State.target_ignored station, fun c => State.target_bay station, fun p => State.target_slot station⟩⟩

end Sys2Proof.Machine
end

section
/-! SUPPORT. Records taken, arrivals (R44 to R48) and departures (R49 to R53). -/

namespace Sys2Proof.Machine

/-! ## A record taken (R27, R68) -/

theorem put_put {α : Type} {n : Nat} (v : Vector α n) (i : Fin n) (x y : α) : put (put v i x) i y = put v i y := by
  simp [put]

theorem MayTake.nextRecord {s : State} {r : MeasurementRecord} {rest : List MeasurementRecord} (h : MayTake s r rest) :
    s.nextRecord = some r := by
  unfold State.nextRecord
  rw [h.noEvaluation, h.noCommit, h.head]
  rfl

theorem MayTake.takeRecord {s : State} {r : MeasurementRecord} {rest : List MeasurementRecord} (h : MayTake s r rest) :
    s.takeRecord = s.setIntake rest := by
  rw [State.takeRecord, h.head, List.tail_cons]

section Taken

variable {s : State} {r : MeasurementRecord} {rest : List MeasurementRecord}

theorem exec_arrive_of {tag : Tag} {c : Fin 16} (take : MayTake s r rest) (content : r.content = .arrive tag c) :
    exec .arrive s = .next (s.takeArrive r tag c) := by
  change Host.Outcome.next _ = _
  rw [take.nextRecord]
  dsimp only
  rw [content]

theorem exec_depart_of {tag : Option Tag} (take : MayTake s r rest) (content : r.content = .depart tag) :
    exec .depart s = .next (s.takeDepart r tag) := by
  change Host.Outcome.next _ = _
  rw [take.nextRecord]
  dsimp only
  rw [content]

theorem exec_measure_of {k : Metric} {v : Nat} {w : Int} (take : MayTake s r rest)
    (content : r.content = .measure k v w) : exec .measure s = .next (s.takeMeasure r k v w) := by
  change Host.Outcome.next _ = _
  rw [take.nextRecord]
  dsimp only
  rw [content]

theorem exec_arrive_bay {tag : Tag} {c : Fin 16} {b : Bay} (take : MayTake s r rest)
    (content : r.content = .arrive tag c) (target : s.target r = .bay b) :
    exec .arrive s = .next ((s.setIntake rest).arriveAt b tag c).selectIfDue := by
  rw [exec_arrive_of take content, State.takeArrive, target, take.takeRecord]

theorem exec_depart_bay {tag : Option Tag} {b : Bay} (take : MayTake s r rest) (content : r.content = .depart tag)
    (target : s.target r = .bay b) : exec .depart s = .next ((s.setIntake rest).departAt b tag).selectIfDue := by
  rw [exec_depart_of take content, State.takeDepart, target, take.takeRecord]

theorem exec_measure_bay {k : Metric} {v : Nat} {w : Int} {b : Bay} (take : MayTake s r rest)
    (content : r.content = .measure k v w) (target : s.target r = .bay b) :
    exec .measure s = .next ((s.setIntake rest).measureBay b k v w) := by
  rw [exec_measure_of take content, State.takeMeasure, target, take.takeRecord]

theorem exec_measure_slot {k : Metric} {v : Nat} {w : Int} {p : SlotId} (take : MayTake s r rest)
    (content : r.content = .measure k v w) (target : s.target r = .slot p) :
    exec .measure s = .next ((s.setIntake rest).measureSlot p k v w) := by
  rw [exec_measure_of take content, State.takeMeasure, target, take.takeRecord]

end Taken

/-! ## Settle timers (R60, R61) -/

theorem State.restTime_eq (s : State) (c : Fin 16) : s.restTime c = (s.mu.active.orig.get c).restCount *
    (match s.mu.active.bank.restUnit with | .s1 => 1 | .s10 => 10 | .s60 => 60) * 1000 := by
  unfold State.restTime RestUnit.seconds
  cases s.mu.active.bank.restUnit <;> rfl

theorem State.startSettle_runs {s : State} {m : ModuleRef} (rest : s.restTime (s.record m.index).originClass ≠ 0) :
    s.startSettle m = s.setTimer m.index (some { generation := m.generation
                                                 expiresAt := s.timeBase + s.restTime (s.record m.index).originClass }) :=
  if_neg rest

theorem State.startSettle_ends {s : State} {m : ModuleRef} (rest : s.restTime (s.record m.index).originClass = 0)
    (generation : (s.record m.index).generation = m.generation) (settling : (s.record m.index).state = .settling) :
    s.startSettle m =
      (s.setTimer m.index none).setRecord m.index { s.record m.index with state := .testing } := by
  have stands : (s.setTimer m.index none).standsIn m [.settling] := ⟨generation, settling ▸ List.mem_singleton_self _⟩
  exact (if_pos rest).trans (State.claim_applied stands _)

/-! ## Arrivals (R37, R38, R48) -/

/-- A record as an arrival completes in it, its rest period not yet begun (R37, R48). -/
def State.arrival (s : State) (i : ModuleIndex) (tag : Tag) (c : Fin 16) (b : Bay) : ModuleRecord :=
  ((s.record i).renewed).arrived tag c s.mr.arrivalCounter b

/-- An arrival before its rest period begins: the module in its bay, its record SETTLING. -/
def State.seated (s : State) (i : ModuleIndex) (tag : Tag) (c : Fin 16) (b : Bay) : State :=
  { s with
    iu := { s.iu with
      live := put s.iu.live b.entry { s.live b.entry with
        bays := put (s.live b.entry).bays b.channel
          (some { index := i, generation := (s.record i).generation + 1 }) } }
    mr := {
      records := put s.mr.records i (s.arrival i tag c b)
      arrivalCounter := min (s.mr.arrivalCounter + 1) 4294967295 } }

theorem State.seated_record (s : State) (i : ModuleIndex) (tag : Tag) (c : Fin 16) (b : Bay) :
    (s.seated i tag c b).record i = s.arrival i tag c b := get_put_same _ _ _

theorem State.completeArrival_seated (s : State) (i : ModuleIndex) (tag : Tag) (c : Fin 16) (b : Bay) :
    s.completeArrival i tag c b =
      (s.seated i tag c b).startSettle { index := i, generation := (s.record i).generation + 1 } := by
  unfold State.completeArrival
  dsimp only
  generalize advanced : State.mk _ _ _ _ _ _ _ _ _ _ _ = u
  have named : u.refOf i = { index := i, generation := (s.record i).generation + 1 } := by
    have record : u.record i = s.arrival i tag c b := by
      rw [← advanced]
      exact get_put_same _ _ _
    rw [State.refOf, record]
    rfl
  rw [named, ← advanced]
  rfl

/-- An arrival completed: the record renewed and settling in its bay, or testing when its rest time is 0. -/
theorem State.completeArrival_eq (s : State) (i : ModuleIndex) (tag : Tag) (c : Fin 16) (b : Bay) {ms : Nat}
    (rest : s.restTime c = ms) : s.completeArrival i tag c b = { s with
      iu := { s.iu with
        live := put s.iu.live b.entry { s.live b.entry with
          bays := put (s.live b.entry).bays b.channel
            (some { index := i, generation := (s.record i).generation + 1 }) } }
      mr := {
        records := put s.mr.records i { ModuleRecord.cleared ((s.record i).generation + 1) with
          state := if ms = 0 then .testing else .settling
          tag := tag, originClass := c, arrival := s.mr.arrivalCounter, location := .bay b }
        arrivalCounter := min (s.mr.arrivalCounter + 1) 4294967295 }
      ge := { s.ge with
        settleTimers := put s.ge.settleTimers i
          (if ms = 0 then none
           else some { generation := (s.record i).generation + 1, expiresAt := s.timeBase + ms }) } } := by
  have record := s.seated_record i tag c b
  have time : (s.seated i tag c b).restTime ((s.seated i tag c b).record i).originClass = ms := by
    rw [record]
    exact rest
  rw [State.completeArrival_seated]
  by_cases none : ms = 0
  · rw [State.startSettle_ends (m := { index := i, generation := (s.record i).generation + 1 }) (time.trans none)
      (congrArg ModuleRecord.generation record) (congrArg ModuleRecord.state record), record, if_pos none, if_pos none]
    simp only [State.setRecord, State.setTimer, State.seated, put_put]
    rfl
  · rw [State.startSettle_runs (m := { index := i, generation := (s.record i).generation + 1 })
      (fun ends => none (time.symm.trans ends)), time, if_neg none, if_neg none]
    rfl

theorem State.departOccupant_empty {s : State} {b : Bay} (empty : s.occupant b = none) : s.departOccupant b = s := by
  unfold State.departOccupant
  rw [empty]

theorem State.departOccupant_occupied {s : State} {b : Bay} {m : ModuleRef} (occupant : s.occupant b = some m) :
    s.departOccupant b = s.departFrom b m := by
  unfold State.departOccupant
  rw [occupant]

theorem State.arriveAt_empty {s : State} {b : Bay} (empty : s.occupant b = none) (tag : Tag) (c : Fin 16) :
    s.arriveAt b tag c = s.arriveTag b tag c := by
  rw [State.arriveAt, State.departOccupant_empty empty]

theorem State.arriveTag_new {s : State} {tag : Tag} {i : ModuleIndex} (new : s.findTag tag = none)
    (free : s.lowestFree = some i) (b : Bay) (c : Fin 16) : s.arriveTag b tag c = s.completeArrival i tag c b := by
  unfold State.arriveTag
  rw [new]
  dsimp only
  rw [free]

theorem State.arriveTag_full {s : State} {tag : Tag} (new : s.findTag tag = none) (full : s.lowestFree = none)
    (b : Bay) (c : Fin 16) : s.arriveTag b tag c = s.raise (.registerFull tag) := by
  unfold State.arriveTag
  rw [new]
  dsimp only
  rw [full]

theorem State.arriveTag_retest {s : State} {tag : Tag} {i : ModuleIndex} (found : s.findTag tag = some i)
    (retest : (s.record i).retestable = true) (b : Bay) (c : Fin 16) :
    s.arriveTag b tag c = (s.releaseForRetest i).completeArrival i tag c b := by
  unfold State.arriveTag
  rw [found]
  exact if_pos retest

theorem State.arriveTag_conflict {s : State} {tag : Tag} {i : ModuleIndex} (found : s.findTag tag = some i)
    (refused : (s.record i).retestable = false) (b : Bay) (c : Fin 16) :
    s.arriveTag b tag c = s.raise (.tagConflict tag (s.record i).state) := by
  unfold State.arriveTag
  rw [found]
  exact if_neg (Bool.eq_false_iff.mp refused)

theorem State.lowestFree_some {s : State} {i : ModuleIndex} (free : (s.record i).state = .free)
    (lower : ∀ j, j.val < i.val → (s.record j).state ≠ .free) : s.lowestFree = some i :=
  lowest_eq_some (decide_eq_true free) fun j before => decide_eq_false (lower j before)

theorem State.lowestFree_none {s : State} (full : ∀ j, (s.record j).state ≠ .free) : s.lowestFree = none :=
  lowest_none.mpr fun j => decide_eq_false (full j)

/-- Settles O19: the tag is found nowhere, the lowest FREE record is taken, and the arrival completes in it. -/
theorem arrivalOfNewTag : Obligations.ArrivalOfNewTag := by
  unfold Obligations.ArrivalOfNewTag
  intro s r rest b tag c i ms take content target empty new free lower time
  have new' : (s.setIntake rest).findTag tag = none := State.findTag_none new
  have free' : (s.setIntake rest).lowestFree = some i := State.lowestFree_some free lower
  have time' : (s.setIntake rest).restTime c = ms := (s.restTime_eq c).trans time.symm
  rw [exec_arrive_bay take content target, State.arriveAt_empty (by exact empty), State.arriveTag_new new' free',
    State.completeArrival_eq _ i tag c b time']
  rfl

/-! ## The Intake Queue and a departure -/

theorem State.goOn_setIntake (s : State) (i : ModuleIndex) (l : List MeasurementRecord) :
    (s.setIntake l).goOn i = (s.goOn i).setIntake l := by
  have enters : (s.setIntake l).enterPoolOrWait i = (s.enterPoolOrWait i).setIntake l := by
    unfold State.enterPoolOrWait
    rw [apply_ite (fun t : State => t.setIntake l)]
    rfl
  unfold State.goOn
  rw [apply_ite (fun t : State => t.setIntake l), enters]
  rfl

theorem State.departGraded_setIntake (s : State) (i : ModuleIndex) (l : List MeasurementRecord) :
    (s.setIntake l).departGraded i = (s.departGraded i).setIntake l := by
  unfold State.departGraded
  dsimp only
  rw [apply_ite (fun t : State => t.setIntake l), ← State.goOn_setIntake]
  rfl

theorem State.departModule_setIntake (s : State) (m : ModuleRef) (l : List MeasurementRecord) :
    (s.setIntake l).departModule m = (s.departModule m).setIntake l := by
  unfold State.departModule
  rw [apply_ite (fun t : State => t.setIntake l), apply_ite (fun t : State => t.setIntake l),
    ← State.departGraded_setIntake]
  rfl

theorem State.clearBay_setIntake (s : State) (b : Bay) (m : ModuleRef) (l : List MeasurementRecord) :
    (s.setIntake l).clearBay b m = (s.clearBay b m).setIntake l := by
  unfold State.clearBay
  rw [apply_ite (fun t : State => t.setIntake l)]
  rfl

theorem State.departFrom_setIntake (s : State) (b : Bay) (m : ModuleRef) (l : List MeasurementRecord) :
    (s.setIntake l).departFrom b m = (s.departFrom b m).setIntake l := by
  rw [State.departFrom, State.clearBay_setIntake, State.departModule_setIntake, State.departFrom]

theorem State.clearBay_held {s : State} {b : Bay} {m : ModuleRef} (occupant : s.occupant b = some m) :
    s.clearBay b m = s.setOccupant b none := if_pos occupant

theorem State.departFrom_occupant {s : State} {b : Bay} {m : ModuleRef} (occupant : s.occupant b = some m) :
    (s.departFrom b m).occupant b = none := by
  have live : (s.departFrom b m).iu = (s.setOccupant b none).iu := by
    rw [State.departFrom, State.clearBay_held occupant]
    simp
  rw [State.occupant, State.live, live, ← State.live, ← State.occupant, State.occupant_setOccupant, if_pos rfl]

theorem State.departFrom_still (s : State) (b : Bay) (m : ModuleRef) :
    (s.departFrom b m).iu.intakeQueue = s.iu.intakeQueue ∧ (s.departFrom b m).ge.evaluation = s.ge.evaluation ∧
      (s.departFrom b m).mu = s.mu := by
  refine ⟨?_, by simp, by simp⟩
  rw [State.departFrom, (State.departModule_frame _ m).1]
  unfold State.clearBay
  split <;> rfl

theorem State.target_of_active {s t : State} (mu : t.mu = s.mu) (r : MeasurementRecord) : t.target r = s.target r := by
  unfold State.target
  rw [mu]

theorem ModuleRecord.poolWaiting_graded {r : ModuleRecord} (waiting : r.poolWaiting = true) : r.state = .graded := by
  simp only [ModuleRecord.poolWaiting, Bool.and_eq_true, decide_eq_true_eq] at waiting
  exact waiting.1.1.1

theorem ModuleRecord.retestable_refused {r : ModuleRecord} (member : r.state ≠ .pooled)
    (pending : r.state = .graded → r.verdict ≠ none) : r.retestable = false := by
  refine Bool.eq_false_iff.mpr fun retest => ?_
  simp only [ModuleRecord.retestable, ModuleRecord.inBayVerdictSent, ModuleRecord.poolWaiting, Bool.or_eq_true,
    Bool.and_eq_true, decide_eq_true_eq, Option.isNone_iff_eq_none] at retest
  rcases retest with (pooled | ⟨⟨graded, -⟩, sent⟩) | ⟨⟨⟨graded, -⟩, sent⟩, -⟩
  · exact member pooled
  · exact pending graded sent
  · exact pending graded sent

/-- Settles O20: a departure leaves the queue and the tables, so the arrival goes on as at an empty bay; and a refused
arrival raises its notice. -/
theorem arrivalDisplacesOrIsRefused : Obligations.ArrivalDisplacesOrIsRefused := by
  unfold Obligations.ArrivalDisplacesOrIsRefused
  refine fun s r rest b tag c take content target => ⟨fun m occupant => ?_,
    fun i empty held same only member pending => ?_, fun empty full new => ?_⟩
  · obtain ⟨queue, evaluation, mu⟩ := s.departFrom_still b m
    have left := State.departFrom_occupant occupant
    have take' : MayTake (s.departFrom b m) r rest :=
      ⟨queue.trans take.head, evaluation.trans take.noEvaluation, mu ▸ take.noCommit⟩
    have target' : (s.departFrom b m).target r = .bay b := (State.target_of_active mu r).trans target
    refine ⟨?_, left, take', target'⟩
    rw [exec_arrive_bay take content target, exec_arrive_bay take' content target', State.arriveAt,
      State.departOccupant_occupied (by exact occupant), State.departFrom_setIntake, State.arriveAt_empty (by exact left)]
  · have found : (s.setIntake rest).findTag tag = some i := State.findTag_some ⟨⟨held, same⟩, only⟩
    rw [exec_arrive_bay take content target, State.arriveAt_empty (by exact empty),
      State.arriveTag_conflict found (ModuleRecord.retestable_refused member pending)]
    rfl
  · have new' : (s.setIntake rest).findTag tag = none := State.findTag_none fun j _ => new j
    rw [exec_arrive_bay take content target, State.arriveAt_empty (by exact empty),
      State.arriveTag_full new' (State.lowestFree_none full)]
    rfl

end Sys2Proof.Machine
end

section
/-! SUPPORT. Retests (R46, R131) and the departures that end a stay (R49 to R52). -/

namespace Sys2Proof.Machine

/-! ## A module found for retest leaves where it was (R46) -/

theorem State.promote_setIntake (s : State) (l : List MeasurementRecord) :
    (s.setIntake l).promote = s.promote.setIntake l := by
  unfold State.promote
  have waiting : (s.setIntake l).pe.poolWait = s.pe.poolWait := rfl
  rw [waiting]
  cases s.pe.poolWait <;> rfl

theorem State.leavePool_setIntake (s : State) (i : ModuleIndex) (l : List MeasurementRecord) :
    (s.setIntake l).leavePool i = (s.leavePool i).setIntake l :=
  State.promote_setIntake (s.dropFromPool i) l

theorem State.releaseForRetest_pooled {s : State} {i : ModuleIndex} (member : (s.record i).state = .pooled) :
    s.releaseForRetest i = s.leavePool i := if_pos member

theorem State.releaseForRetest_waiting {s : State} {i : ModuleIndex} (waiting : (s.record i).poolWaiting = true) :
    s.releaseForRetest i = s.leavePoolWait i := by
  have graded := ModuleRecord.poolWaiting_graded waiting
  exact (if_neg fun pooled => by rw [graded] at pooled; cases pooled).trans (if_pos waiting)

/-- A module that is in no list leaves a bay that it may be in. -/
theorem State.releaseForRetest_inBay {s : State} {i : ModuleIndex} (graded : (s.record i).state = .graded)
    (here : (s.record i).departed = false) :
    (∀ old, (s.record i).location = .bay old → s.releaseForRetest i = s.clearBay old (s.refOf i)) ∧
      ((∀ old, (s.record i).location ≠ .bay old) → s.releaseForRetest i = s) := by
  have notPooled : ¬ (s.record i).state = .pooled := by rw [graded]; decide
  have notWaiting : ¬ (s.record i).poolWaiting = true := fun waits => by
    rw [((ModuleRecord.poolWaiting_iff _).mp waits).2.1] at here
    cases here
  unfold State.releaseForRetest
  rw [if_neg notPooled, if_neg notWaiting]
  cases location : (s.record i).location with
  | bay b => exact ⟨fun old same => by cases same; rfl, fun away => absurd rfl (away b)⟩
  | absent => exact ⟨nofun, fun _ => rfl⟩
  | slot p => exact ⟨nofun, fun _ => rfl⟩

/-- What the leaving of a place keeps of what an arrival reads. -/
structure Released (s u : State) (i : ModuleIndex) : Prop where
  generation : (u.record i).generation = (s.record i).generation
  counter    : u.mr.arrivalCounter = s.mr.arrivalCounter
  timers     : u.ge = s.ge
  tables     : u.mu = s.mu
  time       : u.timeBase = s.timeBase

theorem Released.leavePool (s : State) (i : ModuleIndex) : Released s (s.leavePool i) i where
  generation := by
    unfold State.leavePool State.promote
    split
    · rfl
    · next j rest _ =>
      change (((s.dropFromPool i).setRecord j (s.record j).pooled).record i).generation = _
      rw [State.record_setRecord]
      split
      · next same => rw [← same]; rfl
      · rfl
  counter := by
    unfold State.leavePool State.promote
    split <;> rfl
  timers := (State.leavePool_frame s i).2.2.1
  tables := by simp
  time := by simp

theorem Released.clearBay (s : State) (i : ModuleIndex) (b : Bay) (m : ModuleRef) : Released s (s.clearBay b m) i where
  generation := by rw [State.record, (State.clearBay_frame s b m).2.2.1, ← State.record]
  counter := by simp
  timers := by simp
  tables := by simp
  time := by simp

/-- Where the module to be tested again was, and the state once it left (R46). -/
def LeavesPlace (s u : State) (i : ModuleIndex) : Prop :=
  (s.record i).state = .pooled ∧ u = s.leavePool i ∨
    (s.record i).state = .graded ∧ (s.record i).departed = true ∧ (s.record i).verdict = none ∧
      (∃ g, (s.record i).resolved = some g ∧ g ≠ .reject) ∧
      u = { s with pe := { s.pe with poolWait := s.pe.poolWait.erase i } } ∨
    (s.record i).state = .graded ∧ (s.record i).departed = false ∧ (s.record i).verdict = none ∧
      ((∃ old, (s.record i).location = .bay old ∧
          u = if s.occupant old = some { index := i, generation := (s.record i).generation } then
              { s with iu := { s.iu with live := put s.iu.live old.entry { s.live old.entry with
                bays := put (s.live old.entry).bays old.channel none } } }
            else s) ∨
        (∀ old, (s.record i).location ≠ .bay old) ∧ u = s)

theorem ModuleRecord.retestable_iff {r : ModuleRecord} : r.retestable = true ↔
    r.state = .pooled ∨ r.state = .graded ∧ r.verdict = none ∧
      (r.departed = false ∨ r.departed = true ∧ poolable r.resolved = true) := by
  simp only [ModuleRecord.retestable, ModuleRecord.inBayVerdictSent, Bool.or_eq_true, ModuleRecord.poolWaiting_iff,
    Bool.and_eq_true, decide_eq_true_eq, Option.isNone_iff_eq_none, Bool.not_eq_true']
  tauto

/-- A module that leaves its place is taken for retest, and its leaving is that of the model. -/
theorem LeavesPlace.release {s u : State} {i : ModuleIndex} (h : LeavesPlace s u i) (l : List MeasurementRecord) :
    (s.record i).state ≠ .free ∧ (s.record i).retestable = true ∧
      (s.setIntake l).releaseForRetest i = u.setIntake l ∧ Released s u i := by
  rcases h with ⟨pooled, rfl⟩ | ⟨graded, departed, sent, grade, rfl⟩ | ⟨graded, here, sent, bay⟩
  · refine ⟨by rw [pooled]; decide, ModuleRecord.retestable_iff.mpr (.inl pooled), ?_, .leavePool s i⟩
    rw [State.releaseForRetest_pooled (by exact pooled), State.leavePool_setIntake]
  · have waiting : (s.record i).poolWaiting = true :=
      (ModuleRecord.poolWaiting_iff _).mpr ⟨graded, departed, sent, poolable_eq_true.mpr grade⟩
    refine ⟨by rw [graded]; decide,
      ModuleRecord.retestable_iff.mpr (.inr ⟨graded, sent, .inr ⟨departed, poolable_eq_true.mpr grade⟩⟩), ?_,
      ⟨rfl, rfl, rfl, rfl, rfl⟩⟩
    rw [State.releaseForRetest_waiting (by exact waiting)]
    rfl
  · obtain ⟨leaves, stays⟩ := State.releaseForRetest_inBay (s := s.setIntake l) graded here
    refine ⟨by rw [graded]; decide, ModuleRecord.retestable_iff.mpr (.inr ⟨graded, sent, .inl here⟩), ?_⟩
    rcases bay with ⟨old, location, rfl⟩ | ⟨away, rfl⟩
    · exact ⟨(leaves old location).trans (State.clearBay_setIntake s old _ l), .clearBay s i old (s.refOf i)⟩
    · exact ⟨stays away, rfl, rfl, rfl, rfl, rfl⟩

/-- A module that left its place is in no list (R46). -/
theorem LeavesPlace.unlisted {s u : State} {i : ModuleIndex} (h : LeavesPlace s u i) (pool : PoolAgrees s) :
    i ∉ u.pe.pool ∧ i ∉ u.pe.poolWait := by
  have right := (poolAgrees_iff_right s).mp pool
  have away : ∀ v : State, PoolRight [i] v → i ∉ v.pe.pool ∧ i ∉ v.pe.poolWait := fun v listed =>
    ⟨fun member => ((listed.listed.members i).mp member).1 (List.mem_singleton_self i),
      fun member => ((listed.listed.waiting i).mp member).1 (List.mem_singleton_self i)⟩
  rcases h with ⟨pooled, rfl⟩ | ⟨graded, departed, sent, grade, rfl⟩ | ⟨graded, here, sent, bay⟩
  · exact away _ (right.leave pooled List.not_mem_nil)
  · exact away _ (right.unwait ((ModuleRecord.poolWaiting_iff _).mpr ⟨graded, departed, sent, poolable_eq_true.mpr grade⟩))
  · have lists : u.pe = s.pe := by
      rcases bay with ⟨old, -, rfl⟩ | ⟨-, rfl⟩
      · split <;> rfl
      · rfl
    rw [lists, pool.members, graded, pool.waiting, ModuleRecord.poolWaiting_iff, here]
    exact ⟨nofun, fun waits => nomatch waits.2.1⟩

theorem State.selectIfDue_pool (s : State) : s.selectIfDue.pe.pool = s.pe.pool := congrArg Prod.fst s.selectIfDue_lists

theorem State.selectIfDue_poolWait (s : State) : s.selectIfDue.pe.poolWait = s.pe.poolWait :=
  congrArg Prod.snd s.selectIfDue_lists

/-- Settles O21: the module leaves its place, and the arrival completes in its record. -/
theorem retestArrival : Obligations.RetestArrival := by
  unfold Obligations.RetestArrival
  intro s u r rest b tag c i ms take content target empty same only leaves time
  obtain ⟨held, retest, release, kept⟩ := LeavesPlace.release leaves rest
  have found : (s.setIntake rest).findTag tag = some i := State.findTag_some ⟨⟨held, same⟩, only⟩
  have sameTime : (u.setIntake rest).restTime c = s.restTime c := by
    rw [State.restTime, State.setIntake_mu, kept.tables, State.restTime]
  have time' : (u.setIntake rest).restTime c = ms := sameTime.trans ((s.restTime_eq c).trans time.symm)
  refine ⟨_, ?_, rfl, fun pool => ?_⟩
  · rw [exec_arrive_bay take content target, State.arriveAt_empty (by exact empty), State.arriveTag_retest found retest,
      release, State.completeArrival_eq _ i tag c b time', ← kept.generation, ← kept.counter, ← kept.timers, ← kept.time]
    rfl
  · obtain ⟨out, unwaited⟩ := LeavesPlace.unlisted leaves pool
    refine ⟨fun member => out ?_, fun member => unwaited ?_⟩
    · rwa [State.selectIfDue_pool] at member
    · rwa [State.selectIfDue_poolWait] at member

/-! ## Departures (R49 to R52) -/

theorem State.departAt_named {s : State} {b : Bay} {m : ModuleRef} {tag : Option Tag} (occupant : s.occupant b = some m)
    (named : tag = none ∨ tag = some (s.record m.index).tag) : s.departAt b tag = s.departFrom b m := by
  unfold State.departAt
  rw [occupant]
  exact if_pos named

theorem State.departAt_empty {s : State} {b : Bay} (empty : s.occupant b = none) (tag : Option Tag) :
    s.departAt b tag = s.count .samplesIgnored := by
  unfold State.departAt
  rw [empty]

theorem State.departAt_other {s : State} {b : Bay} {m : ModuleRef} {g : Tag} (occupant : s.occupant b = some m)
    (other : g ≠ (s.record m.index).tag) : s.departAt b (some g) = s.count .samplesIgnored := by
  unfold State.departAt
  rw [occupant]
  exact if_neg fun named => named.elim nofun fun same => other (Option.some.inj same)

theorem State.departModule_testing {s : State} {m : ModuleRef} (generation : (s.record m.index).generation = m.generation)
    (state : (s.record m.index).state = .settling ∨ (s.record m.index).state = .testing) :
    s.departModule m = s.abandon m.index :=
  if_pos (State.finds_iff.mpr (State.standsIn_testing.mpr ⟨generation, state⟩))

theorem State.departModule_graded {s : State} {m : ModuleRef} (generation : (s.record m.index).generation = m.generation)
    (graded : (s.record m.index).state = .graded) (here : (s.record m.index).departed = false) :
    s.departModule m = s.departGraded m.index := by
  have notTesting : ¬ s.finds m [.settling, .testing] = true := fun found => by
    obtain ⟨-, settling | testing⟩ := State.standsIn_testing.mp (State.finds_iff.mp found)
    · rw [graded] at settling; cases settling
    · rw [graded] at testing; cases testing
  have found : s.finds m [.graded] = true :=
    State.finds_iff.mpr ⟨generation, graded ▸ List.mem_singleton_self _⟩
  exact (if_neg notTesting).trans (if_pos (by rw [found, here]; rfl))

theorem State.abandon_eq (s : State) (i : ModuleIndex) : s.abandon i = { s with
    mr := { s.mr with
      records := put s.mr.records i { s.record i with
        state := .graded, resolved := none, provisional := false, departed := true, location := .absent
        verdict := some { kind := .abandoned, sequence := s.ge.verdictCounter } } }
    ge := { s.ge with
      settleTimers := put s.ge.settleTimers i none, verdictCounter := s.ge.verdictCounter + 1 }
    rp := { s.rp with verdictClaims := s.rp.verdictClaims ++ [i] } } := by
  unfold State.abandon State.makeVerdict
  rw [State.record_setRecord_same]
  simp only [State.setRecord, State.setTimer, State.stepVerdicts, State.claimVerdict, put_put]
  rfl

theorem State.departGraded_pending {s : State} {i : ModuleIndex} (pending : (s.record i).verdict ≠ none) :
    s.departGraded i = s.setRecord i (s.record i).leavesBay :=
  if_neg fun sent => pending (Option.isNone_iff_eq_none.mp sent)

theorem State.departGraded_sent {s : State} {i : ModuleIndex} (sent : (s.record i).verdict = none) :
    s.departGraded i = (s.setRecord i (s.record i).leavesBay).goOn i :=
  if_pos (Option.isNone_iff_eq_none.mpr sent)

theorem State.goOn_out {s : State} {i : ModuleIndex}
    (noGrade : (s.record i).resolved = none ∨ (s.record i).resolved = some .reject) :
    s.goOn i = s.setRecord i (.cleared (s.record i).generation) :=
  if_neg (Bool.eq_false_iff.mp (poolable_eq_false.mpr noGrade))

theorem State.goOn_into {s : State} {i : ModuleIndex} (graded : ∃ g, (s.record i).resolved = some g ∧ g ≠ .reject) :
    s.goOn i = if s.pe.pool.length < 64 then s.enterPool i else s.enterPoolWait i := by
  refine (if_pos (poolable_eq_true.mpr graded)).trans ?_
  rw [State.enterPoolOrWait, State.poolHasRoom]
  simp only [decide_eq_true_iff]
  rfl

/-- Settles O22: the bay is emptied, and the module's state and verdict say what becomes of it. -/
theorem departureEndsTheStay : Obligations.DepartureEndsTheStay := by
  unfold Obligations.DepartureEndsTheStay
  refine ⟨fun s r rest b m tag take content target occupant named => ?_, fun s u m generation left => ⟨fun state => ?_,
    fun graded here => ⟨fun pending => ?_, fun sent noGrade => ?_, fun sent grade => ?_⟩⟩⟩
  · rw [exec_depart_bay take content target, State.departAt_named (by exact occupant) (by exact named),
      State.departFrom, State.clearBay_held (by exact occupant)]
    rfl
  · rw [State.departModule_testing generation state, State.abandon_eq]
  · rw [State.departModule_graded generation graded here, State.departGraded_pending pending, left]
    rfl
  · have record : u.record m.index = (s.record m.index).leavesBay := by rw [left]; exact get_put_same _ _ _
    have bare : s.setRecord m.index (s.record m.index).leavesBay = u := left.symm
    rw [State.departModule_graded generation graded here, State.departGraded_sent sent, bare,
      State.goOn_out (by rw [record]; exact noGrade), record]
    rfl
  · have record : u.record m.index = (s.record m.index).leavesBay := by rw [left]; exact get_put_same _ _ _
    have bare : s.setRecord m.index (s.record m.index).leavesBay = u := left.symm
    have pool : u.pe.pool = s.pe.pool := by rw [left]
    rw [State.departModule_graded generation graded here, State.departGraded_sent sent, bare,
      State.goOn_into (by rw [record]; exact grade), pool]

end Sys2Proof.Machine
end

section
/-! SUPPORT. Entry to the pool and the pool-wait list (R128 to R131), records not acted on (R30), the measures at a bay
or a slot (R63, R69, R70) and the expiry of a rest period (R62). -/

namespace Sys2Proof.Machine

/-! ## Entry to the pool (R128 to R131) -/

/-- What goes before a record that does not go after another goes before that one too. -/
theorem GoesBefore.of_not {x y z : ModuleRecord} (h : GoesBefore x y) (k : ¬ GoesBefore z y) : GoesBefore x z := by
  rw [← keyBefore_iff] at h k ⊢
  simp only [keyBefore, Bool.or_eq_true, Bool.and_eq_true, decide_eq_true_eq] at h k ⊢
  omega

/-- A module enters an ordered list between those that its key does not go before and those that it does. -/
theorem State.insertByKey_parts {s u : State} {l : List ModuleIndex} (i : ModuleIndex) (order : s.InKeyOrder l)
    (keys : ∀ j, (u.record j).key = (s.record j).key) : ∃ before after, l = before ++ after ∧
      u.insertByKey i l = before ++ i :: after ∧ (∀ j ∈ before, ¬ GoesBefore (s.record i) (s.record j)) ∧
      ∀ j ∈ after, GoesBefore (s.record i) (s.record j) := by
  have spec : ∀ j, keyBefore (u.record i) (u.record j) = true ↔ GoesBefore (s.record i) (s.record j) := fun j =>
    keyBefore_iff.trans (GoesBefore.of_key (keys i) (keys j))
  obtain ⟨before, after, split, inserted, earlier, first⟩ :=
    insertOrdered_parts (fun x y => keyBefore (u.record x) (u.record y)) i l
  refine ⟨before, after, split, inserted, fun j member goes => ?_, fun j member => ?_⟩
  · exact absurd ((spec j).mpr goes) (Bool.eq_false_iff.mp (earlier j member))
  · rw [split] at order
    obtain ⟨-, order, -⟩ := List.pairwise_append.mp order
    cases after with
    | nil => cases member
    | cons y ys =>
      have goes := (spec y).mp (first y (by simp))
      rcases List.mem_cons.mp member with rfl | later
      · exact goes
      · exact goes.of_not ((List.pairwise_cons.mp order).1 j later)

theorem State.key_setRecord {s : State} {i : ModuleIndex} {x : ModuleRecord} (key : x.key = (s.record i).key)
    (j : ModuleIndex) : ((s.setRecord i x).record j).key = (s.record j).key := by
  rw [State.record_setRecord]
  split
  · next same => rw [← same, key]
  · rfl

theorem State.enterPool_record (s : State) (i : ModuleIndex) : (s.enterPool i).record i = (s.record i).pooled :=
  s.record_setRecord_same i _

theorem State.enterPool_others (s : State) (i : ModuleIndex) : State.Others i s (s.enterPool i) :=
  (State.Others.setRecord s i (s.record i).pooled).trans (.of_eq rfl)

theorem map_woken (l : List Request) :
    l.map Request.woken = l.map fun q => if q.status = .waiting then { q with status := .ready } else q :=
  List.map_congr_left fun q _ => q.woken_eq

theorem Choice.marked_of_kind {c : Choice} (kind : c.kind ≠ .remove) : c.marked = { c with stale := true } := by
  unfold Choice.marked
  cases k : c.kind with
  | remove => exact absurd k kind
  | fill => rfl
  | replace => rfl

theorem Choice.marked_of_remove {c : Choice} (kind : c.kind = .remove) : c.marked = c := by
  unfold Choice.marked
  rw [kind]

theorem State.enterPool_choice (s : State) (i : ModuleIndex) :
    (s.enterPool i).pe.choice = s.pe.choice.map Choice.marked := rfl

/-- Settles O23: the place by the key in a list in the order of keys, the wakes and the stale mark. -/
theorem poolEntry : Obligations.PoolEntry := by
  unfold Obligations.PoolEntry
  refine ⟨?_, ?_, fun s empty => by rw [State.promote, empty], fun s i rest list => by rw [State.promote, list]; rfl,
    fun s i => rfl⟩
  · rintro s _ i rfl - order
    refine ⟨s.enterPool_record i, s.enterPool_others i, State.insertByKey_parts i order (State.key_setRecord rfl), rfl,
      map_woken _, fun c choice kind => ?_, fun c choice kind => ?_, fun choice => ?_⟩
    · rw [State.enterPool_choice, choice, Option.map_some, Choice.marked_of_kind kind]
    · rw [State.enterPool_choice, choice, Option.map_some, Choice.marked_of_remove kind]
    · rw [State.enterPool_choice, choice, Option.map_none]
  · rintro s _ i rfl - order
    obtain ⟨before, after, split, inserted, earlier, later⟩ := State.insertByKey_parts (s := s)
      (u := s.setRecord i (s.record i).waitsForPool) i order (State.key_setRecord rfl)
    refine ⟨before, after, split, earlier, later, ?_⟩
    rw [State.enterPoolWait]
    dsimp only
    rw [State.setRecord_pe, inserted]
    rfl

/-! ## Records not acted on (R29, R30, R63, R69) -/

theorem State.takeArrive_ignored {s : State} {r : MeasurementRecord} (away : ∀ b, s.target r ≠ .bay b) (tag : Tag)
    (c : Fin 16) : s.takeArrive r tag c = s.takeRecord.count .samplesIgnored := by
  unfold State.takeArrive
  cases target : s.target r with
  | bay b => exact absurd target (away b)
  | none => rfl
  | slot p => rfl

theorem State.takeDepart_ignored {s : State} {r : MeasurementRecord} (away : ∀ b, s.target r ≠ .bay b)
    (tag : Option Tag) : s.takeDepart r tag = s.takeRecord.count .samplesIgnored := by
  unfold State.takeDepart
  cases target : s.target r with
  | bay b => exact absurd target (away b)
  | none => rfl
  | slot p => rfl

theorem State.measureBay_empty {s : State} {b : Bay} (empty : s.occupant b = none) (k : Metric) (v : Nat) (w : Int) :
    s.measureBay b k v w = s.count .samplesIgnored := by
  unfold State.measureBay
  rw [empty]

theorem State.measureBay_settling {s : State} {b : Bay} {m : ModuleRef} (occupant : s.occupant b = some m)
    (generation : (s.record m.index).generation = m.generation) (settling : (s.record m.index).state = .settling)
    (k : Metric) (v : Nat) (w : Int) :
    s.measureBay b k v w = if k.isPulse then s.startSettle m else s.count .samplesIgnored := by
  unfold State.measureBay
  rw [occupant]
  exact if_pos (State.finds_iff.mpr ⟨generation, settling ▸ List.mem_singleton_self _⟩)

theorem State.not_finds {s : State} {m : ModuleRef} {l : List ModuleState} (other : (s.record m.index).state ∉ l) :
    ¬ s.finds m l = true := fun found => other (State.finds_iff.mp found).2

theorem State.measureBay_testing {s : State} {b : Bay} {m : ModuleRef} (occupant : s.occupant b = some m)
    (generation : (s.record m.index).generation = m.generation) (testing : (s.record m.index).state = .testing)
    (k : Metric) (v : Nat) (w : Int) : s.measureBay b k v w = s.beginEvaluation m .bay k v w none := by
  unfold State.measureBay
  rw [occupant]
  refine (if_neg (State.not_finds ?_)).trans
    (if_pos (State.finds_iff.mpr ⟨generation, testing ▸ List.mem_singleton_self _⟩))
  rw [testing]
  decide

theorem State.measureBay_graded {s : State} {b : Bay} {m : ModuleRef} (occupant : s.occupant b = some m)
    (graded : (s.record m.index).state = .graded) (k : Metric) (v : Nat) (w : Int) :
    s.measureBay b k v w = s.count .samplesIgnored := by
  unfold State.measureBay
  rw [occupant]
  refine (if_neg (State.not_finds ?_)).trans (if_neg (State.not_finds ?_))
  · rw [graded]
    decide
  · rw [graded]
    decide

theorem State.measureSlot_ignored {s : State} {p : SlotId} (vacant : ∀ m, s.slot p ≠ .occupied m) (k : Metric) (v : Nat)
    (w : Int) : s.measureSlot p k v w = s.count .samplesIgnored := by
  unfold State.measureSlot
  cases slot : s.slot p with
  | occupied m => exact absurd slot (vacant m)
  | unknown => rfl
  | empty => rfl
  | reserved o m => rfl
  | blocked => rfl

theorem State.measureSlot_occupied {s : State} {p : SlotId} {m : ModuleRef} (slot : s.slot p = .occupied m) (k : Metric)
    (v : Nat) (w : Int) :
    s.measureSlot p k v w = s.beginEvaluation m .service k v w (s.heldReference k p) := by
  unfold State.measureSlot
  rw [slot]

theorem State.selectIfDue_not_due {s : State} (h : ¬ s.selectionConditions) : s.selectIfDue = s := select_not_due h _

/-- Settles O24: each case ends in the count, and no selection is due after it. -/
theorem recordsNotActedOn : Obligations.RecordsNotActedOn := by
  unfold Obligations.RecordsNotActedOn
  intro s t r rest take result
  have counted : (s.setIntake rest).count .samplesIgnored = t := result.symm
  refine ⟨fun tag c content away => ?_, fun tag content away => ?_, fun tag b content target notDue bay => ?_,
    fun k v w content ignored => ?_⟩
  · rw [exec_arrive_of take content, State.takeArrive_ignored away, take.takeRecord, counted]
  · rw [exec_depart_of take content, State.takeDepart_ignored away, take.takeRecord, counted]
  · have departs : (s.setIntake rest).departAt b tag = (s.setIntake rest).count .samplesIgnored := by
      rcases bay with empty | ⟨m, g, occupant, rfl, other⟩
      · exact State.departAt_empty (s := s.setIntake rest) empty tag
      · exact State.departAt_other (s := s.setIntake rest) occupant other
    have notDue' : ¬ ((s.setIntake rest).count .samplesIgnored).selectionConditions := notDue
    rw [exec_depart_bay take content target, departs, State.selectIfDue_not_due notDue', counted]
  · rcases ignored with nowhere | ⟨b, target, empty⟩ | ⟨b, m, target, occupant, generation, state⟩ | ⟨p, target, vacant⟩
    · rw [exec_measure_of take content, State.takeMeasure, nowhere, take.takeRecord, ← counted]
    · rw [exec_measure_bay take content target, State.measureBay_empty (by exact empty), counted]
    · rcases state with graded | ⟨settling, still⟩
      · rw [exec_measure_bay take content target, State.measureBay_graded (by exact occupant) (by exact graded), counted]
      · have noPulse : ¬ k.isPulse = true := by rcases still with rfl | rfl <;> decide
        rw [exec_measure_bay take content target, State.measureBay_settling (by exact occupant) (by exact generation)
          (by exact settling), if_neg noPulse, counted]
    · rw [exec_measure_slot take content target, State.measureSlot_ignored (by exact vacant), counted]

/-! ## The beginning of an evaluation (R69, R70) -/

theorem State.heldReference_eq (s : State) (k : Metric) (p : SlotId) : s.heldReference k p =
    if k = .cap then (s.string p.string).cap.value else if k = .res then (s.string p.string).res.value else none := by
  cases k <;> rfl

/-- Settles O25, by the place that the record's target is. -/
theorem measureBeginsEvaluation : Obligations.MeasureBeginsEvaluation := by
  unfold Obligations.MeasureBeginsEvaluation
  refine fun s r rest k v w m take content => ⟨fun b target occupant generation testing => ?_, fun p target slot => ?_⟩
  · have held : ((s.setIntake rest).record m.index).state = .testing := testing
    rw [exec_measure_bay take content target, State.measureBay_testing (by exact occupant) (by exact generation) held,
      State.beginEvaluation, held]
    rfl
  · rw [exec_measure_slot take content target, State.measureSlot_occupied (by exact slot), State.heldReference_eq]
    rfl

/-! ## Rest periods (R62, R63) -/

theorem State.expireTimer_eq (s : State) (i : ModuleIndex) (x : SettleTimer) : s.expireTimer i x = { s with
    timeBase := max s.timeBase x.expiresAt
    ge := { s.ge with settleTimers := put s.ge.settleTimers i none }
    mr := { s.mr with
      records :=
        if (s.record i).generation = x.generation ∧ (s.record i).state = .settling then
          put s.mr.records i { s.record i with state := .testing }
        else s.mr.records } } := by
  have stands : ((s.reachTime x.expiresAt).setTimer i none).standsIn { index := i, generation := x.generation }
      [.settling] ↔ (s.record i).generation = x.generation ∧ (s.record i).state = .settling :=
    and_congr Iff.rfl List.mem_singleton
  unfold State.expireTimer
  by_cases settles : (s.record i).generation = x.generation ∧ (s.record i).state = .settling
  · rw [State.claim_applied (stands.mpr settles), if_pos settles]
    rfl
  · rw [State.claim_declined (fun h => settles (stands.mp h)), if_neg settles]
    rfl

theorem State.settleExpiry_early {s : State} {i : ModuleIndex} {x : SettleTimer} (running : s.timer i = some x)
    (early : ¬ NothingEndsBefore s x.expiresAt) : s.settleExpiry i = s := by
  unfold State.settleExpiry
  rw [running]
  exact if_neg fun first => early (State.noneEndsBefore_iff.mp first)

/-- Settles O26: a pulse starts the rest period anew, and its expiry claims the record. -/
theorem restPeriod : Obligations.RestPeriod := by
  unfold Obligations.RestPeriod
  refine ⟨?_, fun s i x running => ⟨fun first => ?_, fun early => ?_⟩⟩
  · intro s r rest k v w b m ms take content pulse target occupant generation settling time
    have isPulse : k.isPulse = true := by rcases pulse with rfl | rfl <;> rfl
    have time' : (s.setIntake rest).restTime ((s.setIntake rest).record m.index).originClass = ms :=
      (s.restTime_eq _).trans time.symm
    rw [exec_measure_bay take content target, State.measureBay_settling (by exact occupant) (by exact generation)
      (by exact settling), if_pos isPulse]
    refine ⟨fun some => ?_, fun none => ?_⟩
    · rw [State.startSettle_runs (by rw [time']; exact some), time']
      rfl
    · rw [State.startSettle_ends (time'.trans none) (by exact generation) (by exact settling)]
      rfl
  · rw [exec_settleExpiry, State.settleExpiry_due running first, State.expireTimer_eq]
  · rw [exec_settleExpiry, State.settleExpiry_early running early]

end Sys2Proof.Machine
end

section
/-! SUPPORT. The completion of an evaluation (R75 to R92) and regrading in service (R97 to R101). -/

namespace Sys2Proof.Machine

/-! ## A completion that applies (R81) -/

theorem Place.finds_expected {s : State} {e : Evaluation} : s.finds e.module e.place.expected = true ↔
    (s.record e.module.index).generation = e.module.generation ∧
      (e.place = .bay ∧ (s.record e.module.index).state = .testing ∨
        e.place = .service ∧ ((s.record e.module.index).state = .inService ∨
          (s.record e.module.index).state = .watch ∨ (s.record e.module.index).state = .outbound)) := by
  rw [State.finds_iff]
  cases place : e.place <;> simp [State.standsIn, Place.expected]

theorem CompletionApplies.finds {s : State} {e : Evaluation} (h : CompletionApplies s e) :
    s.finds e.module e.place.expected = true := Place.finds_expected.mpr ⟨h.generation, h.state⟩

theorem exec_evaluationCompletion {s : State} {e : Evaluation} (inProgress : s.ge.evaluation = some e) :
    exec .evaluationCompletion s = .next (s.completeEvaluation e).settleIfSafe.selectIfDue := by
  change Host.Outcome.next _ = _
  rw [inProgress]

theorem State.completeEvaluation_applies {s : State} {e : Evaluation} (applies : CompletionApplies s e) :
    s.completeEvaluation e = (s.applyCompletion e).setEvaluation none := if_pos applies.finds

theorem State.completeEvaluation_declined {s : State} {e : Evaluation} (inProgress : s.ge.evaluation = some e)
    (declined : ¬ CompletionApplies s e) :
    s.completeEvaluation e = (s.count .samplesIgnored).setEvaluation none :=
  if_neg fun found =>
    have ⟨generation, state⟩ := Place.finds_expected.mp found
    declined ⟨inProgress, generation, state⟩

theorem SearchAgrees.searchResult {s : State} {e : Evaluation} (agrees : SearchAgrees s)
    (inProgress : s.ge.evaluation = some e) : s.searchResult e = search s.mu.active.rule e := by
  unfold State.searchResult
  cases found : e.found with
  | none => rfl
  | some r => exact agrees e r inProgress found

/-- The String Map is told of a changed value of a reference's metric in service (R80). -/
theorem State.tellStringMap_eq {s : State} {e : Evaluation} {l : Location} {p : SlotId}
    (location : e.place = .service → l = .slot p) (before : Option Nat) : s.tellStringMap e before l =
      if e.place = .service ∧ (e.metric = .cap ∨ e.metric = .res) ∧ before ≠ some e.value then s.recompute p.string
      else s := by
  unfold State.tellStringMap
  cases place : e.place with
  | bay => rw [if_neg (by simp)]
  | service =>
    rw [location place]
    cases e.metric <;> simp [Metric.hasReference]

/-- The state once a completion has written the evidence of its metric (R79). -/
def State.evidenced (s : State) (e : Evaluation) (y : Evidence) : State :=
  s.setRecord e.module.index ((s.record e.module.index).withEvidence e.metric y)

section Applied

variable {s : State} {e : Evaluation} {x : Evidence}

theorem State.applyCompletion_missed (found : s.searchResult e = .noRule)
    (evidence : x = (s.record e.module.index).evidence.get e.metric) : s.applyCompletion e =
      ((s.evidenced e (x.missed e.value)).raise (.ruleHole e.module.index e.metric)).tellStringMap e x.lastValue
        (s.record e.module.index).location := by
  unfold State.applyCompletion
  dsimp only
  rw [found, ← evidence, if_pos rfl]
  rfl

theorem State.applyCompletion_runs {k : Fin 96} (found : s.searchResult e = .rule k)
    (evidence : x = (s.record e.module.index).evidence.get e.metric)
    (runs : confirms x k (s.mu.active.rule.get k) = false) : s.applyCompletion e =
      (s.evidenced e (x.matched k (s.mu.active.rule.get k) e.value)).tellStringMap e x.lastValue
        (s.record e.module.index).location := by
  unfold State.applyCompletion
  dsimp only
  rw [found, ← evidence, if_neg nofun, confirmed, runs]
  rfl

theorem State.applyCompletion_confirmed {k : Fin 96} (found : s.searchResult e = .rule k)
    (evidence : x = (s.record e.module.index).evidence.get e.metric)
    (complete : confirms x k (s.mu.active.rule.get k) = true) : s.applyCompletion e =
      ((s.evidenced e (x.matched k (s.mu.active.rule.get k) e.value)).resolve e.module.index).tellStringMap e x.lastValue
        (s.record e.module.index).location := by
  unfold State.applyCompletion
  dsimp only
  rw [found, ← evidence, if_neg nofun, confirmed, complete]
  rfl

end Applied

theorem Evidence.matched_runs {x : Evidence} {k : Fin 96} {r : GradingRule} (runs : confirms x k r = false) (v : Nat) :
    x.matched k r v = { x with candidate := some k, runCount := x.runAfter k, lastValue := some v } :=
  if_neg (Bool.eq_false_iff.mp runs)

theorem Evidence.matched_confirms {x : Evidence} {k : Fin 96} {r : GradingRule} (complete : confirms x k r = true)
    (v : Nat) : x.matched k r v = { x with
      candidate := some k, runCount := 0, grade := some r.grade
      confirmations := min (x.confirmations + 1) 255, lastValue := some v } := if_pos complete

/-- Settles O28: a missed search and a run that goes on write the evidence alone, and the String Map is told. -/
theorem completionWithoutConfirmation : Obligations.CompletionWithoutConfirmation := by
  unfold Obligations.CompletionWithoutConfirmation
  refine ⟨fun s u e x y found p rule applies agrees result evidence location cases written => ?_,
    fun s e inProgress declined => ?_⟩
  · have searched : s.searchResult e = found := (agrees.searchResult applies.inProgress).trans result
    have told := fun t : State => State.tellStringMap_eq (s := t) location x.lastValue
    have applied : s.applyCompletion e = u.tellStringMap e x.lastValue (s.record e.module.index).location := by
      rcases cases with ⟨rfl, rfl⟩ | ⟨k, n, rfl, rfl, rfl, runs, rfl⟩
      · rw [State.applyCompletion_missed searched evidence, written, if_pos rfl]
        rfl
      · have goes_on : confirms x k (s.mu.active.rule.get k) = false := decide_eq_false runs
        have other : SearchResult.rule k ≠ .noRule := nofun
        rw [State.applyCompletion_runs searched evidence goes_on, written, if_neg other, Evidence.matched_runs goes_on]
        rfl
    rw [exec_evaluationCompletion applies.inProgress, State.completeEvaluation_applies applies, applied, told]
  · rw [exec_evaluationCompletion inProgress, State.completeEvaluation_declined inProgress declined]
    rfl

/-! ## Resolution (R88, R92) -/

theorem State.afterResolution_bay {s : State} {i : ModuleIndex} (testing : (s.record i).state = .testing) :
    s.afterResolution i = if (s.record i).resolved.isSome then s.endTest i else s := by
  unfold State.afterResolution
  rw [testing]

theorem State.afterResolution_service {s : State} {i : ModuleIndex} {p : SlotId}
    (serving : (s.record i).state ≠ .testing) (location : (s.record i).location = .slot p) :
    s.afterResolution i = s.regrade i p := by
  unfold State.afterResolution
  rw [location]
  cases state : (s.record i).state with
  | testing => exact absurd state serving
  | _ => rfl

theorem State.endTest_eq (s : State) (i : ModuleIndex) : s.endTest i = { s with
    mr := { s.mr with
      records := put s.mr.records i { s.record i with
        state := .graded, departed := false
        verdict := some { kind := .graded, sequence := s.ge.verdictCounter } } }
    ge := { s.ge with verdictCounter := s.ge.verdictCounter + 1 }
    rp := { s.rp with verdictClaims := s.rp.verdictClaims ++ [i] } } := by
  unfold State.endTest State.makeVerdict
  rw [State.record_setRecord_same]
  simp only [State.setRecord, State.stepVerdicts, State.claimVerdict, put_put]

theorem State.setRecord_setRecord (s : State) (i : ModuleIndex) (x y : ModuleRecord) :
    (s.setRecord i x).setRecord i y = s.setRecord i y := by
  simp only [State.setRecord, put_put]

/-- Settles O29: the run is complete, the record is resolved, and its place says what follows. -/
theorem evaluationConfirms : Obligations.EvaluationConfirms := by
  unfold Obligations.EvaluationConfirms
  intro s e x k rule i r applies agrees result index evidence ruleIs run resolved
  subst index ruleIs
  have searched : s.searchResult e = .rule k := (agrees.searchResult applies.inProgress).trans result
  have complete : confirms x k (s.mu.active.rule.get k) = true := decide_eq_true run
  have graded : (s.evidenced e (x.matched k (s.mu.active.rule.get k) e.value)).resolve e.module.index =
      (s.setRecord e.module.index r).afterResolution e.module.index := by
    rw [State.resolve, State.evidenced, State.record_setRecord_same, State.setRecord_setRecord, resolved,
      Evidence.matched_confirms complete]
    rfl
  have record : (s.setRecord e.module.index r).record e.module.index = r := s.record_setRecord_same _ _
  have state : r.state = (s.record e.module.index).state := by rw [resolved]; rfl
  have location : r.location = (s.record e.module.index).location := by rw [resolved]; rfl
  rw [exec_evaluationCompletion applies.inProgress, State.completeEvaluation_applies applies,
    State.applyCompletion_confirmed searched evidence complete, graded]
  have inBay : e.place = .bay → ∀ t : State, (s.setRecord e.module.index r).afterResolution e.module.index = t →
      ((s.setRecord e.module.index r).afterResolution e.module.index).tellStringMap e x.lastValue
        (s.record e.module.index).location = t := by
    intro bay t after
    rw [after, State.tellStringMap_eq (p := ⟨0, 0⟩) fun service => by rw [bay] at service; cases service]
    exact if_neg fun h => by rw [bay] at h; cases h.1
  have testing : e.place = .bay → ((s.setRecord e.module.index r).record e.module.index).state = .testing := by
    intro bay
    rw [record, state]
    rcases applies.state with ⟨-, testing⟩ | ⟨service, -⟩
    · exact testing
    · rw [bay] at service
      cases service
  refine ⟨fun bay noGrade => ?_, fun bay grade => ?_, fun p service slot => ?_⟩
  · have after := State.afterResolution_bay (testing bay)
    rw [record, noGrade] at after
    rw [inBay bay _ after]
    rfl
  · have after := State.afterResolution_bay (testing bay)
    rw [record, if_pos (Option.isSome_iff_ne_none.mpr grade), State.endTest_eq, record] at after
    rw [inBay bay _ after]
    simp only [State.setRecord, put_put]
    rfl
  · have serving : ((s.setRecord e.module.index r).record e.module.index).state ≠ .testing := by
      rw [record, state]
      rcases applies.state with ⟨bay, -⟩ | ⟨-, inService | watch | outbound⟩
      · rw [service] at bay
        cases bay
      · rw [inService]; decide
      · rw [watch]; decide
      · rw [outbound]; decide
    rw [State.afterResolution_service (p := p) serving (by rw [record, location]; exact slot),
      State.tellStringMap_eq (p := p) fun _ => slot]
    simp only [service, true_and]

/-! ## Regrading in service (R97 to R101) -/

section Regrade

variable {s : State} {i : ModuleIndex} {p : SlotId} {g : Grade}

theorem State.regrade_none (none : (s.record i).resolved = Option.none) : s.regrade i p = s := by
  unfold State.regrade
  rw [none]

theorem State.regrade_outbound (grade : (s.record i).resolved = some g) (outbound : (s.record i).state = .outbound) :
    s.regrade i p = s.regradeOutbound i (g.atLeast (s.classOf p.string).minimum) := by
  unfold State.regrade
  rw [grade]
  dsimp only
  rw [outbound]

/-- In service and not outbound, the grade is compared with the minimum of the string's class (R97). -/
theorem State.regrade_recovered (grade : (s.record i).resolved = some g) (serving : (s.record i).state ≠ .outbound)
    (meets : g.rank ≤ (s.classOf p.string).minimum.rank) : s.regrade i p = s.regradeRecovered i p := by
  have enough : g.atLeast (s.classOf p.string).minimum = true := decide_eq_true meets
  unfold State.regrade
  rw [grade]
  dsimp only
  rw [enough]
  split
  · next outbound => exact absurd outbound serving
  · rfl

theorem State.regrade_worse (grade : (s.record i).resolved = some g) (serving : (s.record i).state ≠ .outbound)
    (fails : (s.classOf p.string).minimum.rank < g.rank) (kept : g ≠ .reject) :
    s.regrade i p = s.regradeWorse i p (s.classOf p.string) := by
  have short : g.atLeast (s.classOf p.string).minimum = false := decide_eq_false (Nat.not_le.mpr fails)
  unfold State.regrade
  rw [grade]
  dsimp only
  rw [short]
  split
  · next outbound => exact absurd outbound serving
  · cases g with
    | reject => exact absurd rfl kept
    | _ => rfl

theorem State.regrade_reject (grade : (s.record i).resolved = some .reject) (serving : (s.record i).state ≠ .outbound)
    (accepting : (s.classOf p.string).minimum ≠ .reject) : s.regrade i p = s.regradeReject i p := by
  have short : Grade.reject.atLeast (s.classOf p.string).minimum = false := by
    cases minimum : (s.classOf p.string).minimum with
    | reject => exact absurd minimum accepting
    | _ => rfl
  unfold State.regrade
  rw [grade]
  dsimp only
  rw [short]
  split
  · next outbound => exact absurd outbound serving
  · rfl

theorem State.regradeWorse_watch (c : PairingClass) (watch : (s.record i).state = .watch) :
    s.regradeWorse i p c = (s.setRecord i
      { s.record i with watchCount := min ((s.record i).watchCount + 1) 15 }).raiseRequest p .replace .ready := by
  unfold State.regradeWorse
  dsimp only
  split
  · rfl
  · next other => exact absurd watch other

theorem State.regradeWorse_inService (c : PairingClass) (inService : (s.record i).state = .inService) :
    s.regradeWorse i p c = if c.watchConfirm ≤ min ((s.record i).watchCount + 1) 15 then
      (s.setRecord i { s.record i with
        watchCount := min ((s.record i).watchCount + 1) 15, state := .watch }).raiseRequest p .replace .ready
    else s.setRecord i { s.record i with watchCount := min ((s.record i).watchCount + 1) 15 } := by
  unfold State.regradeWorse
  dsimp only
  split
  · next watch =>
    rw [inService] at watch
    cases watch
  · rw [State.record_setRecord_same, State.setRecord_setRecord]
    rfl

theorem State.regradeRecovered_inService (inService : (s.record i).state = .inService) :
    s.regradeRecovered i p = s.setRecord i { s.record i with watchCount := 0 } := by
  unfold State.regradeRecovered
  dsimp only
  split
  · next watch =>
    rw [inService] at watch
    cases watch
  · rfl

theorem State.regradeRecovered_free (watch : (s.record i).state = .watch) (none : s.request p = Option.none) :
    s.regradeRecovered i p = s.setRecord i { s.record i with watchCount := 0, state := .inService } := by
  unfold State.regradeRecovered
  dsimp only
  rw [watch, none, State.record_setRecord_same, State.setRecord_setRecord]
  rfl

theorem State.regradeRecovered_selected {q : Request} (request : s.request p = some q)
    (selected : q.status = .selected) :
    s.regradeRecovered i p = s.setRecord i { s.record i with watchCount := 0 } := by
  unfold State.regradeRecovered
  dsimp only
  split
  · rw [request]
    dsimp only
    rw [selected]
    rfl
  · rfl

theorem State.regradeRecovered_withdrawn {q : Request} (watch : (s.record i).state = .watch)
    (request : s.request p = some q) (unselected : q.status ≠ .selected) : s.regradeRecovered i p =
      (s.setRecord i { s.record i with watchCount := 0, state := .inService }).withdraw p := by
  unfold State.regradeRecovered
  dsimp only
  rw [watch, request, State.record_setRecord_same, State.setRecord_setRecord]
  dsimp only
  split
  · next selected => exact absurd selected unselected
  · rfl
  · rfl

end Regrade

/-- Settles O31, by the grade, the minimum and the state that each clause names. -/
theorem regradingInService : Obligations.RegradingInService := by
  unfold Obligations.RegradingInService
  rintro s i p _ _ rfl rfl
  have notOut : ∀ {st : ModuleState}, (s.record i).state = st → st ≠ .outbound → (s.record i).state ≠ .outbound :=
    fun state other => by rw [state]; exact other
  refine ⟨State.regrade_none, fun g grade outbound => ?_, fun g grade fails kept => ⟨fun serves few => ?_,
    fun serves many => ?_, fun watch => ?_⟩, fun grade accepting state => ?_, fun g grade meets =>
    ⟨fun serves => ?_, fun watch none => ?_, fun q watch request unselected => ?_, fun q watch request selected => ?_⟩⟩
  · rw [State.regrade_outbound grade outbound, State.regradeOutbound, Grade.atLeast]
    simp only [decide_eq_true_eq]
    rfl
  · rw [State.regrade_worse grade (notOut serves (by decide)) fails kept, State.regradeWorse_inService _ serves]
    exact if_neg (Nat.not_le.mpr few)
  · rw [State.regrade_worse grade (notOut serves (by decide)) fails kept, State.regradeWorse_inService _ serves]
    exact if_pos many
  · rw [State.regrade_worse grade (notOut watch (by decide)) fails kept, State.regradeWorse_watch _ watch]
  · have serving : (s.record i).state ≠ .outbound := state.elim (fun h => notOut h (by decide)) fun h => notOut h (by decide)
    rw [State.regrade_reject grade serving accepting]
    rfl
  · rw [State.regrade_recovered grade (notOut serves (by decide)) meets, State.regradeRecovered_inService serves]
  · rw [State.regrade_recovered grade (notOut watch (by decide)) meets, State.regradeRecovered_free watch none]
  · rw [State.regrade_recovered grade (notOut watch (by decide)) meets,
      State.regradeRecovered_withdrawn watch request unselected]
  · rw [State.regrade_recovered grade (notOut watch (by decide)) meets,
      State.regradeRecovered_selected request selected]

end Sys2Proof.Machine
end

section
/-! SUPPORT. Raising a request (R116, R134 to R136) and selecting one (R143 to R152). -/

namespace Sys2Proof.Machine

/-! ## A raise, by the request the slot already has -/

section Raise

variable {s : State} {p : SlotId} {k : RequestKind} {st : RequestStatus}

theorem slotFits_iff {x : SlotRecord} {k : RequestKind} :
    slotFits x k = true ↔ (k = .fill → x = .empty) ∧ (k ≠ .fill → ∃ m, x = .occupied m) := by
  cases k with
  | fill => simp [slotFits]
  | replace | remove => cases x <;> simp [slotFits]

theorem State.raiseRequest_unfit (unfit : ¬ (s.slotInUse p = true ∧ slotFits (s.slot p) k = true)) :
    s.raiseRequest p k st = s := if_neg fun both => unfit ((Bool.and_eq_true _ _).mp both)

theorem State.raiseRequest_fitting (used : s.slotInUse p = true) (fits : slotFits (s.slot p) k = true) :
    s.raiseRequest p k st = s.raiseFitting p k st := if_pos ((Bool.and_eq_true _ _).mpr ⟨used, fits⟩)

theorem State.request_none (free : ∀ q ∈ s.pe.requests, q.slot ≠ p) : s.request p = none :=
  List.find?_eq_none.mpr fun q mem => decide_eq_true_iff.not.mpr (free q mem)

theorem State.request_some {before after : List Request} {q : Request} (queue : s.pe.requests = before ++ q :: after)
    (slot : q.slot = p) (others : ∀ x ∈ before ++ after, x.slot ≠ p) : s.request p = some q := by
  unfold State.request
  rw [queue]
  exact find_request slot others

theorem State.updateRequest_eq {before after : List Request} {q : Request}
    (queue : s.pe.requests = before ++ q :: after) (slot : q.slot = p) (others : ∀ x ∈ before ++ after, x.slot ≠ p)
    (f : Request → Request) : s.updateRequest p f = s.setRequests (before ++ f q :: after) := by
  unfold State.updateRequest
  rw [queue, map_request f slot others]

theorem State.raiseFitting_new (free : s.request p = none) : s.raiseFitting p k st = s.createRequest p k st := by
  unfold State.raiseFitting
  rw [free]

theorem State.raiseFitting_again {q : Request} (pending : s.request p = some q) : s.raiseFitting p k st =
    if q.kind = .replace ∧ k = .remove then s.updateRequest p fun q => { q with kind := .remove, priority := 3 }
    else s := by
  unfold State.raiseFitting
  rw [pending]

end Raise

/-- Settles O33, by the slot's use and fit, then by the request it has. -/
theorem requestRaise : Obligations.RequestRaise := by
  unfold Obligations.RequestRaise
  rintro s p k st c rfl
  refine ⟨fun idle => ?_, fun fill full => ?_, fun other vacant => ?_, fun used empty occupied => ?_⟩
  · exact State.raiseRequest_unfit fun ⟨used, _⟩ => absurd used (Bool.eq_false_iff.mp idle)
  · exact State.raiseRequest_unfit fun ⟨_, fits⟩ => full ((slotFits_iff.mp fits).1 fill)
  · refine State.raiseRequest_unfit fun ⟨_, fits⟩ => ?_
    obtain ⟨m, slot⟩ := (slotFits_iff.mp fits).2 other
    exact vacant m slot
  rw [State.raiseRequest_fitting used (slotFits_iff.mpr ⟨empty, occupied⟩)]
  refine ⟨fun free => ?_, fun q before after queue slot first last => ?_⟩
  · rw [State.raiseFitting_new (State.request_none free)]
    cases k <;> rfl
  · have others : ∀ x ∈ before ++ after, x.slot ≠ p := fun x mem => (List.mem_append.mp mem).elim (first x) (last x)
    rw [State.raiseFitting_again (State.request_some queue slot others)]
    refine ⟨fun replace remove => ?_, fun kept => if_neg kept⟩
    rw [if_pos ⟨replace, remove⟩, State.updateRequest_eq queue slot others]
    rfl

/-! ## What a policy selects (R144) -/

theorem oldestReady_eq {before after : List Request} {q : Request} (ready : q.status = .ready)
    (older : ∀ x ∈ before, x.status ≠ .ready) : oldestReady (before ++ q :: after) = some q := by
  have none : before.find? (fun q => decide (q.status = .ready)) = Option.none :=
    List.find?_eq_none.mpr fun x mem => decide_eq_true_iff.not.mpr (older x mem)
  unfold oldestReady
  rw [List.find?_append, none, Option.none_or]
  exact List.find?_cons_of_pos (decide_eq_true ready)

theorem highestReady_cons (q : Request) (qs : List Request) (none : highestReady qs = Option.none) :
    highestReady (q :: qs) = if q.status = .ready then some q else Option.none := by
  rw [highestReady, none]

theorem highestReady_cons_some (q : Request) {qs : List Request} {b : Request} (best : highestReady qs = some b) :
    highestReady (q :: qs) = if q.status = .ready ∧ b.priority ≤ q.priority then some q else some b := by
  rw [highestReady, best]

theorem highestReady_eq {before after : List Request} {q : Request} (ready : q.status = .ready)
    (older : ∀ x ∈ before, x.status = .ready → x.priority < q.priority)
    (younger : ∀ x ∈ after, x.status = .ready → x.priority ≤ q.priority) :
    highestReady (before ++ q :: after) = some q := by
  induction before with
  | nil =>
    cases best : highestReady after with
    | none => exact (highestReady_cons q after best).trans (if_pos ready)
    | some b =>
      obtain ⟨mem, isReady⟩ := highestReady_mem best
      exact (highestReady_cons_some q best).trans (if_pos ⟨ready, younger b mem isReady⟩)
  | cons x xs ih =>
    have rest := ih fun y mem => older y (List.mem_cons_of_mem x mem)
    refine (highestReady_cons_some x rest).trans (if_neg fun ⟨isReady, least⟩ => ?_)
    exact absurd least (Nat.not_le.mpr (older x List.mem_cons_self isReady))

theorem State.freeOrder_eq {s : State} {o : OrderIndex} (free : s.order o = .free)
    (lower : ∀ k, k.val < o.val → s.order k ≠ .free) : s.freeOrder = some o :=
  lowest_eq_some (decide_eq_true free) fun k less => decide_eq_false (lower k less)

theorem State.select_eq {s : State} (due : s.selectionConditions) {p : Policy} {q : Request} {o : OrderIndex}
    (picked : selected p s.pe.requests = some q) (free : s.freeOrder = some o) :
    s.select p = ((s.setOrder o (.reservedForChoice q.slot)).updateRequest q.slot
      fun q => { q with status := .selected }).setChoice (some (s.beginChoice q o)) := by
  obtain ⟨q', o', picked', free', result⟩ := select_due due p
  cases picked.symm.trans picked'
  cases free.symm.trans free'
  exact result

/-! ## The references of a choice (R113, R151) -/

theorem State.referenceValues_without (s : State) (m : Metric) (p : SlotId) :
    s.referenceValues m p.string (some p) = (List.finRange 16).filterMap fun i =>
      if i = p.position then none else s.slotValue m { string := p.string, position := i } := by
  unfold State.referenceValues positions
  congr 1
  funext i
  refine if_congr ⟨fun same => ?_, fun same => ?_⟩ rfl rfl
  · exact (congrArg SlotId.position (Option.some.inj same)).symm
  · rw [same]

theorem State.choiceReference_cap (s : State) (k : RequestKind) (p : SlotId) : s.choiceReference .cap k p =
    if k = .fill then (s.string p.string).cap
    else if k = .replace then s.computeReference .cap p.string (some p) else .absent := by
  cases k <;> rfl

theorem State.choiceReference_res (s : State) (k : RequestKind) (p : SlotId) : s.choiceReference .res k p =
    if k = .fill then (s.string p.string).res
    else if k = .replace then s.computeReference .res p.string (some p) else .absent := by
  cases k <;> rfl

/-- Settles O34: the request of the policy, the lowest FREE record, and the choice that begins with them. -/
theorem selectionReserves : Obligations.SelectionReserves := by
  unfold Obligations.SelectionReserves
  refine fun s policy => ⟨fun active => by rw [← active]; rfl, fun notDue => select_not_due notDue policy, ?_⟩
  intro q o before after values mean due queue ready others arrival priority free lower valuesAre meanIs
  have picked : selected policy s.pe.requests = some q := by
    rw [queue]
    cases policy with
    | arrival => exact oldestReady_eq ready (arrival rfl)
    | priority => exact highestReady_eq ready (priority rfl).1 (priority rfl).2
  have without : ∀ m, s.computeReference m q.slot.string (some q.slot) = mean m := by
    intro m
    have left : s.referenceValues m q.slot.string (some q.slot) = values m := by
      rw [State.referenceValues_without, valuesAre]
      congr 1
      funext i
      split
      · rfl
      · unfold State.slotValue
        cases s.slot { string := q.slot.string, position := i } <;> rfl
    rw [State.computeReference, left, referenceOf_eq, meanIs]
  have begun : s.beginChoice q o = { s.beginChoice q o with
      capReference := match q.kind with
        | .fill => (s.string q.slot.string).cap
        | .replace => mean .cap
        | .remove => { value := none, count := 0 }
      resReference := match q.kind with
        | .fill => (s.string q.slot.string).res
        | .replace => mean .res
        | .remove => { value := none, count := 0 } } := by
    unfold State.beginChoice
    rw [State.choiceReference_cap, State.choiceReference_res, without, without]
    cases q.kind <;> rfl
  have same : (s.setOrder o (.reservedForChoice q.slot)).pe.requests = before ++ q :: after := queue
  rw [State.select_eq due picked (State.freeOrder_eq free lower), State.updateRequest_eq same rfl others, begun]
  rfl

end Sys2Proof.Machine
end

section
/-! SUPPORT. The completion of a choice (R159 to R166, R170, R171). -/

namespace Sys2Proof.Machine

/-! ## The number and the stage of a new order (R170, R171) -/

theorem State.numberTaken_iff_order (s : State) (n : Byte) :
    s.numberTaken n = true ↔ n ∈ s.ot.expired ∨ ∃ i o, s.order i = .order o ∧ o.number = n := by
  have listed : ∀ o, (∃ r ∈ s.ot.table.toList, OrderRecord.order? r = some o) ↔ ∃ i, s.order i = .order o := by
    refine fun o => ⟨fun ⟨r, mem, order⟩ => ?_, fun ⟨i, order⟩ => ⟨s.order i, ?_, by rw [order]; rfl⟩⟩
    · obtain ⟨i, bound, rfl⟩ := Vector.mem_iff_getElem.mp (Vector.mem_toList_iff.mp mem)
      exact ⟨⟨i, bound⟩, OrderRecord.order?_eq_some.mp order⟩
    · exact Vector.mem_toList_iff.mpr (Vector.getElem_mem _)
  simp only [s.numberTaken_iff, List.mem_append, List.mem_map, List.mem_filterMap, listed]
  rw [or_comm]
  exact or_congr_right ⟨fun ⟨o, ⟨i, order⟩, number⟩ => ⟨i, o, order, number⟩,
    fun ⟨i, o, order, number⟩ => ⟨o, ⟨i, order⟩, number⟩⟩

/-- The first free number is the first from the value on that is not taken (R170). -/
theorem State.firstNumber_eq {s : State} {k fuel : Nat} {n : Byte} (near : k < fuel)
    (free : s.numberTaken (n + BitVec.ofNat 8 k) = false)
    (taken : ∀ j < k, s.numberTaken (n + BitVec.ofNat 8 j) = true) :
    s.firstNumber fuel n = n + BitVec.ofNat 8 k := by
  induction fuel generalizing k n with
  | zero => exact absurd near (Nat.not_lt_zero k)
  | succ fuel ih =>
    have next : ∀ j, n + 1 + BitVec.ofNat 8 j = n + BitVec.ofNat 8 (j + 1) := fun j => by
      rw [BitVec.ofNat_add, BitVec.add_assoc, BitVec.add_comm (BitVec.ofNat 8 j)]
      rfl
    have here : n + BitVec.ofNat 8 0 = n := BitVec.add_zero n
    rw [State.firstNumber]
    cases k with
    | zero =>
      rw [here] at free ⊢
      rw [free]
      rfl
    | succ k =>
      have first := taken 0 (Nat.succ_pos k)
      rw [here] at first
      rw [first, if_pos rfl, ← next]
      exact ih (Nat.lt_of_succ_lt_succ near) (by rwa [next])
        fun j less => by rw [next]; exact taken (j + 1) (Nat.succ_lt_succ less)

theorem State.nextNumber_eq {s : State} {k : Nat} {n : Byte} (near : k < 256)
    (number : n = s.ot.numberCounter + BitVec.ofNat 8 k)
    (free : n ∉ s.ot.expired ∧ ∀ i o, s.order i = .order o → o.number ≠ n)
    (taken : ∀ j < k, s.ot.numberCounter + BitVec.ofNat 8 j ∈ s.ot.expired ∨
      ∃ i o, s.order i = .order o ∧ o.number = s.ot.numberCounter + BitVec.ofNat 8 j) : s.nextNumber = n := by
  obtain ⟨fresh, unused⟩ := free
  rw [number]
  refine State.firstNumber_eq near ?_ fun j less => (s.numberTaken_iff_order _).mpr (taken j less)
  rw [← number]
  refine Bool.eq_false_iff.mpr fun isTaken => ?_
  rcases (s.numberTaken_iff_order n).mp isTaken with expired | ⟨i, o, order, same⟩
  · exact fresh expired
  · exact unused i o order same

theorem Order.onRing_iff {o : Order} : o.onRing = true ↔ o.stage ≠ .deferred := by
  unfold Order.onRing
  cases o.stage <;> simp

theorem State.stringBusy_iff_order (s : State) (k : Fin 8) :
    s.stringBusy k = true ↔ ∃ i o, s.order i = .order o ∧ o.slot.string = k ∧ o.stage ≠ .deferred := by
  rw [State.TableOrdered.stringBusy_iff]
  refine exists_congr fun i => ?_
  cases order : s.order i with
  | free | reservedForChoice p => simp [OrderRecord.onRing]
  | order o => simp [OrderRecord.onRing, OrderRecord.string?, OrderRecord.order?, Order.onRing_iff, and_comm]

/-- A new order is DEFERRED behind another of its string, and ISSUING without one (R171). -/
theorem State.newStage_eq {s : State} {k : Fin 8} {stage : OrderStage}
    (behind : (∃ i o, s.order i = .order o ∧ o.slot.string = k ∧ o.stage ≠ .deferred) → stage = .deferred)
    (alone : (∀ i o, s.order i = .order o → o.slot.string = k → o.stage = .deferred) → stage = .issuing) :
    (if s.stringBusy k then OrderStage.deferred else OrderStage.issuing) = stage := by
  split
  · next busy => exact (behind ((s.stringBusy_iff_order k).mp busy)).symm
  · next quiet =>
    refine (alone fun i o order string => ?_).symm
    by_contra waiting
    exact quiet ((s.stringBusy_iff_order k).mpr ⟨i, o, order, string, waiting⟩)

/-- The number and the stage of a new order depend on the Order Tracker alone (R170, R171). -/
theorem State.createOrder_of_ot {s t : State} (ot : t.ot = s.ot) (o : OrderIndex) (p : SlotId) (w : OrderWork) :
    t.createOrder o p w = { t with ot := { s.ot with
      table := put s.ot.table o (.order
        { stage := if s.stringBusy p.string then .deferred else .issuing, slot := p, number := s.nextNumber, work := w })
      creation := s.ot.creation ++ [o], numberCounter := s.nextNumber + 1 } } := by
  have first : ∀ fuel n, t.firstNumber fuel n = s.firstNumber fuel n := by
    intro fuel
    induction fuel with
    | zero => exact fun n => rfl
    | succ fuel ih =>
      intro n
      have taken : t.numberTaken n = s.numberTaken n := by rw [State.numberTaken, ot, ← State.numberTaken]
      rw [State.firstNumber, State.firstNumber, taken, ih]
  have number : t.nextNumber = s.nextNumber := by rw [State.nextNumber, State.nextNumber, first, ot]
  have busy : t.stringBusy p.string = s.stringBusy p.string := by rw [State.stringBusy, ot, ← State.stringBusy]
  unfold State.createOrder State.setOrder
  dsimp only
  rw [number, busy, ot]

/-! ## The selected request (R159) -/

section Selected

variable {s : State} {c : Choice} {before after : List Request} {q : Request}

theorem State.selectedRequest_some (queue : s.pe.requests = before ++ q :: after) (slot : q.slot = c.slot)
    (age : q.age = c.age) (others : ∀ x ∈ before ++ after, x.slot ≠ c.slot) : s.selectedRequest c = some q := by
  have none : before.find? (fun q => decide (q.slot = c.slot) && decide (q.age = c.age)) = Option.none :=
    List.find?_eq_none.mpr fun x mem => by simp [others x (List.mem_append_left after mem)]
  unfold State.selectedRequest
  rw [queue, List.find?_append, none, Option.none_or]
  exact List.find?_cons_of_pos (by simp [slot, age])

theorem State.selectedRequest_none (gone : ∀ x ∈ s.pe.requests, x.slot = c.slot → x.age ≠ c.age) :
    s.selectedRequest c = none := List.find?_eq_none.mpr fun x mem => by simpa using gone x mem

theorem map_selectedStatus (slot : q.slot = c.slot) (age : q.age = c.age)
    (others : ∀ x ∈ before ++ after, x.slot ≠ c.slot) (st : RequestStatus) :
    (before ++ q :: after).map (fun q => if q.slot = c.slot ∧ q.age = c.age then { q with status := st } else q) =
      before ++ { q with status := st } :: after := by
  have kept : ∀ l : List Request, (∀ x ∈ l, x.slot ≠ c.slot) →
      l.map (fun q => if q.slot = c.slot ∧ q.age = c.age then { q with status := st } else q) = l := by
    intro l away
    conv_rhs => rw [← List.map_id l]
    exact List.map_congr_left fun x mem => if_neg fun ⟨same, _⟩ => away x mem same
  rw [List.map_append, List.map_cons, kept before fun x mem => others x (List.mem_append_left after mem),
    kept after fun x mem => others x (List.mem_append_right before mem), if_pos ⟨slot, age⟩]

theorem map_selectedStatus_gone {l : List Request} (gone : ∀ x ∈ l, x.slot = c.slot → x.age ≠ c.age)
    (st : RequestStatus) :
    l.map (fun q => if q.slot = c.slot ∧ q.age = c.age then { q with status := st } else q) = l := by
  conv_rhs => rw [← List.map_id l]
  exact List.map_congr_left fun x mem => if_neg fun ⟨slot, age⟩ => gone x mem slot age

theorem filter_request (slot : q.slot = c.slot) (others : ∀ x ∈ before ++ after, x.slot ≠ c.slot) :
    (before ++ q :: after).filter (fun q => decide (q.slot ≠ c.slot)) = before ++ after := by
  have kept : (before ++ after).filter (fun q => decide (q.slot ≠ c.slot)) = before ++ after :=
    List.filter_eq_self.mpr fun x mem => decide_eq_true (others x mem)
  rw [List.filter_append] at kept
  rw [List.filter_append, List.filter_cons_of_neg (by simp [slot]), kept]

end Selected

/-! ## What the completion makes of the result (R160 to R163) -/

section Completion

variable {s : State} {c : Choice} {q : Request}

theorem State.completeChoice_gone (request : s.selectedRequest c = none) :
    s.completeChoice c = (s.discardChoice c).setChoice none := by
  unfold State.completeChoice
  rw [request]

theorem State.completeChoice_otherKind (request : s.selectedRequest c = some q) (kind : q.kind ≠ c.kind) :
    s.completeChoice c = (s.discardChoice c).setChoice none := by
  unfold State.completeChoice
  rw [request]
  dsimp only
  rw [if_pos kind]

theorem State.completeChoice_noCandidate (request : s.selectedRequest c = some q) (kind : q.kind = c.kind)
    (other : c.kind ≠ .remove) (none : c.chosen = Option.none) :
    s.completeChoice c = (s.noCandidate c).setChoice Option.none := by
  unfold State.completeChoice
  rw [request]
  dsimp only
  rw [if_neg (not_not_intro kind), if_pos ⟨other, none⟩]

theorem State.completeChoice_workless (request : s.selectedRequest c = some q) (kind : q.kind = c.kind)
    (candidate : c.kind = .remove ∨ c.chosen ≠ none) (work : c.work (c.chosen.map Best.module) = none) :
    s.completeChoice c = (s.discardChoice c).setChoice none := by
  have some : ¬ (c.kind ≠ .remove ∧ c.chosen = none) := fun both => candidate.elim both.1 fun some => some both.2
  unfold State.completeChoice
  rw [request]
  dsimp only
  rw [if_neg (not_not_intro kind), if_neg some, work]

theorem State.completeChoice_work {w : OrderWork} (request : s.selectedRequest c = some q) (kind : q.kind = c.kind)
    (candidate : c.kind = .remove ∨ c.chosen ≠ none) (work : c.work (c.chosen.map Best.module) = some w) :
    s.completeChoice c =
      (if s.choiceHolds c w then (s.applyChoice c w).afterChoice c w else s.discardChoice c).setChoice none := by
  have some : ¬ (c.kind ≠ .remove ∧ c.chosen = none) := fun both => candidate.elim both.1 fun some => some both.2
  unfold State.completeChoice
  rw [request]
  dsimp only
  rw [if_neg (not_not_intro kind), if_neg some, work]

theorem exec_choiceCompletion {t : State} (choice : s.pe.choice = some c) (completed : s.completeChoice c = t)
    (pending : t.mu.pendingCommit = s.mu.pendingCommit) : exec .choiceCompletion s = .next
      (if s.mu.pendingCommit = none then t.select .priority else t.settleIfSafe.selectIfDue) := by
  change Host.Outcome.next _ = _
  rw [choice]
  dsimp only
  rw [completed]
  unfold State.afterCompletion
  rw [pending]
  cases s.mu.pendingCommit <;> rfl

theorem Choice.work_incoming {x : Option ModuleRef} {w : OrderWork} (work : c.work x = some w)
    (other : c.kind ≠ .remove) : w.incoming = x := by
  unfold Choice.work at work
  split at work
  · obtain rfl := Option.some.inj work
    rfl
  · obtain rfl := Option.some.inj work
    rfl
  · next remove _ => exact absurd remove other
  · cases work

theorem Choice.work_outgoing {x : Option ModuleRef} {w : OrderWork} (work : c.work x = some w)
    (other : c.kind ≠ .fill) : w.outgoing = c.outgoing := by
  unfold Choice.work at work
  split at work
  · next fill => exact absurd fill other
  · next out =>
    obtain rfl := Option.some.inj work
    exact out.symm
  · next out =>
    obtain rfl := Option.some.inj work
    exact out.symm
  · cases work

theorem Choice.outgoing_occupied {m : ModuleRef} (noted : c.noted = .occupied m) : c.outgoing = some m := by
  unfold Choice.outgoing
  rw [noted]

end Completion

/-! ## An order made (R162, R164) -/

section Made

variable {s t : State} {c : Choice} {w : OrderWork}

theorem State.choiceHolds_of (slot : s.slot c.slot = c.noted) (fits : slotFits c.noted c.kind = true)
    (incoming : ∀ m, w.incoming = some m → s.standsIn m [.pooled])
    (outgoing : ∀ m, w.outgoing = some m → s.standsIn m [.watch]) : s.choiceHolds c w = true := by
  unfold State.choiceHolds
  rw [decide_eq_true slot, fits]
  cases into : w.incoming with
  | none =>
    cases out : w.outgoing with
    | none => rfl
    | some m => exact State.finds_iff.mpr (outgoing m out)
  | some m =>
    dsimp only
    rw [State.finds_iff.mpr (incoming m into)]
    cases out : w.outgoing with
    | none => rfl
    | some m => exact State.finds_iff.mpr (outgoing m out)

theorem State.applyChoice_eq (claimed : (s.assignIncoming w c.order).claimOutgoing w c.order = t) (ot : t.ot = s.ot) :
    s.applyChoice c w = { t.setSlot c.slot (.reserved c.order w.outgoing) with
      ot := { s.ot with
        table := put s.ot.table c.order (.order
          { stage := if s.stringBusy c.slot.string then .deferred else .issuing
            slot := c.slot, number := s.nextNumber, work := w })
        creation := s.ot.creation ++ [c.order], numberCounter := s.nextNumber + 1 }
      pe := { t.pe with requests := t.pe.requests.filter fun q => decide (q.slot ≠ c.slot) } } := by
  unfold State.applyChoice
  dsimp only
  rw [claimed, State.createOrder_of_ot (s := s) (by exact ot)]
  rfl

theorem State.assign_pooled {m : ModuleRef} (pooled : s.standsIn m [.pooled]) (o : OrderIndex) :
    s.assign m o = { s with
      mr := { s.mr with
        records := put s.mr.records m.index { s.record m.index with state := .assigned, order := some o } }
      pe := { s.pe with pool := s.pe.pool.erase m.index } } := if_pos (State.finds_iff.mpr pooled)

theorem State.claim_watch {m : ModuleRef} (watch : s.standsIn m [.watch]) (o : OrderIndex) :
    (s.claim m [.watch] fun r => r.ordered .outbound o) = { s with
      mr := { s.mr with
        records := put s.mr.records m.index { s.record m.index with state := .outbound, order := some o } } } :=
  State.claim_applied watch _

end Made

/-- Settles O37: the three kinds differ in the modules claimed and in what follows the slot. -/
theorem choiceMakesOrder : Obligations.ChoiceMakesOrder := by
  unfold Obligations.ChoiceMakesOrder
  intro s c before after q n k stage made finish choice queue slot age kind others noted reserved near number free
    taken behind alone madeIs finishIs
  have request := State.selectedRequest_some queue slot age others
  have applied : ∀ w t, (s.assignIncoming w c.order).claimOutgoing w c.order = t → t.ot = s.ot →
      t.pe.requests = s.pe.requests → s.applyChoice c w = { t.setSlot c.slot (.reserved c.order w.outgoing) with
        ot := made w, pe := { t.pe with requests := before ++ after } } := by
    intro w t claimed ot requests
    rw [State.applyChoice_eq claimed ot, State.newStage_eq behind alone, State.nextNumber_eq near number free taken,
      requests, queue, filter_request slot others, madeIs]
  have completed : ∀ w t, (c.kind = .remove ∨ c.chosen ≠ none) → c.work (c.chosen.map Best.module) = some w →
      s.choiceHolds c w = true → (s.applyChoice c w).afterChoice c w = t → t.mu.pendingCommit = s.mu.pendingCommit →
      exec .choiceCompletion s = finish t := by
    intro w t candidate work holds result pending
    rw [finishIs]
    refine exec_choiceCompletion choice ?_ pending
    rw [State.completeChoice_work request kind candidate work, if_pos holds, result]
  refine ⟨fun b fill empty chosen pooled => ?_, fun b out replace occupied chosen pooled watch => ?_,
    fun out remove occupied watch => ?_⟩
  · have work : c.work (c.chosen.map Best.module) = some (.insert b.module) := by
      unfold Choice.work
      rw [fill, chosen]
      rfl
    have holds : s.choiceHolds c (.insert b.module) = true := by
      refine State.choiceHolds_of noted (by rw [fill, empty]; rfl) (fun m same => ?_) fun m same => nomatch same
      obtain rfl := Option.some.inj same
      exact pooled
    have assigned : (s.assignIncoming (.insert b.module) c.order).claimOutgoing (.insert b.module) c.order = _ :=
      State.assign_pooled pooled c.order
    refine completed _ _ (.inr (by rw [chosen]; nofun)) work holds ?_ ?_
    · unfold State.afterChoice
      rw [applied _ _ assigned rfl rfl]
      rfl
    · simp
  · have work : c.work (c.chosen.map Best.module) = some (.swap b.module out) := by
      unfold Choice.work
      rw [replace, chosen, Choice.outgoing_occupied occupied]
      rfl
    have holds : s.choiceHolds c (.swap b.module out) = true := by
      refine State.choiceHolds_of noted (by rw [replace, occupied]; rfl) (fun m same => ?_) fun m same => ?_
      · obtain rfl := Option.some.inj same
        exact pooled
      · obtain rfl := Option.some.inj same
        exact watch
    have apart : b.module.index ≠ out.index := fun same => by
      have one : (s.record b.module.index).state = .pooled := List.mem_singleton.mp pooled.2
      rw [same, List.mem_singleton.mp watch.2] at one
      cases one
    have still : (s.assign b.module c.order).record out.index = s.record out.index := by
      rw [State.assign_pooled pooled]
      exact State.record_setRecord_other s _ _ _ apart
    have stands : (s.assign b.module c.order).standsIn out [.watch] := by
      unfold State.standsIn
      rw [still]
      exact watch
    have claimed : (s.assignIncoming (.swap b.module out) c.order).claimOutgoing (.swap b.module out) c.order = _ :=
      State.claim_watch stands c.order
    rw [still, State.assign_pooled pooled] at claimed
    refine completed _ _ (.inr (by rw [chosen]; nofun)) work holds ?_ ?_
    · unfold State.afterChoice
      rw [applied _ _ claimed rfl rfl]
      rfl
    · simp
  · have work : c.work (c.chosen.map Best.module) = some (.remove out) := by
      unfold Choice.work
      rw [remove, Choice.outgoing_occupied occupied]
    have holds : s.choiceHolds c (.remove out) = true := by
      refine State.choiceHolds_of noted (by rw [remove, occupied]; rfl) (fun m same => nomatch same) fun m same => ?_
      obtain rfl := Option.some.inj same
      exact watch
    have claimed : (s.assignIncoming (.remove out) c.order).claimOutgoing (.remove out) c.order = _ :=
      State.claim_watch watch c.order
    refine completed _ _ (.inl remove) work holds ?_ ?_
    · unfold State.afterChoice
      rw [applied _ _ claimed rfl rfl]
      rfl
    · simp

/-! ## No order made (R160, R163) -/

theorem State.discardChoice_eq {s : State} {c : Choice} (absent : c.order ∉ s.ot.creation) {l : List Request}
    (requests : s.pe.requests.map (fun q =>
      if q.slot = c.slot ∧ q.age = c.age then { q with status := RequestStatus.ready } else q) = l) :
    s.discardChoice c = { s with
      ot := { s.ot with table := put s.ot.table c.order .free }, pe := { s.pe with requests := l } } := by
  unfold State.discardChoice State.setSelectedStatus State.freeOrderRecord
  dsimp only [State.setOrder]
  rw [requests, List.erase_of_not_mem absent]
  rfl

theorem State.noCandidate_eq {s : State} {c : Choice} (absent : c.order ∉ s.ot.creation) {l : List Request}
    (requests : s.pe.requests.map (fun q => if q.slot = c.slot ∧ q.age = c.age then
      { q with status := if c.stale then RequestStatus.ready else .waiting } else q) = l) :
    s.noCandidate c = { s with
      ot := { s.ot with table := put s.ot.table c.order .free }, pe := { s.pe with requests := l }
      mu := { s.mu with notices := raiseIn (.stringWaiting c.slot) s.mu.notices } } := by
  unfold State.noCandidate State.setSelectedStatus State.freeOrderRecord
  dsimp only [State.setOrder]
  rw [requests, List.erase_of_not_mem absent]
  rfl

/-- Settles O38: the request is gone, there is no candidate, or a check of R161 fails. -/
theorem choiceWithoutOrder : Obligations.ChoiceWithoutOrder := by
  unfold Obligations.ChoiceWithoutOrder
  rintro s c _ finish choice absent rfl finishIs
  refine ⟨fun gone => ?_, fun before after q queue slot age others => ⟨fun kind other none => ?_, fun differs => ?_⟩⟩
  · rw [finishIs]
    refine exec_choiceCompletion choice ?_ rfl
    rw [State.completeChoice_gone (State.selectedRequest_none gone),
      State.discardChoice_eq absent (map_selectedStatus_gone gone .ready)]
    rfl
  · rw [finishIs]
    refine exec_choiceCompletion choice ?_ rfl
    rw [State.completeChoice_noCandidate (State.selectedRequest_some queue slot age others) kind other none,
      State.noCandidate_eq absent ((congrArg (List.map _) queue).trans (map_selectedStatus slot age others _))]
    rfl
  · have request := State.selectedRequest_some queue slot age others
    have discarded : s.completeChoice c = (s.discardChoice c).setChoice none := by
      rcases differs with kind | ⟨candidate, mismatch⟩
      · exact State.completeChoice_otherKind request kind
      · by_cases kind : q.kind = c.kind
        · cases work : c.work (c.chosen.map Best.module) with
          | none => exact State.completeChoice_workless request kind candidate work
          | some w =>
            rw [State.completeChoice_work request kind candidate work, if_neg]
            intro holds
            obtain ⟨same, -, incoming, outgoing⟩ := choiceHolds_iff holds
            rcases mismatch with changed | ⟨other, b, chosen, left⟩ | ⟨other, out, noted, left⟩
            · exact changed same
            · exact left (incoming _ ((Choice.work_incoming work other).trans (by rw [chosen]; rfl)))
            · exact left (outgoing _ ((Choice.work_outgoing work other).trans (Choice.outgoing_occupied noted)))
        · exact State.completeChoice_otherKind request kind
    rw [finishIs]
    refine exec_choiceCompletion choice ?_ rfl
    rw [discarded, State.discardChoice_eq absent ((congrArg (List.map _) queue).trans (map_selectedStatus slot age others _))]
    rfl

end Sys2Proof.Machine
end

section
/-! SUPPORT. The end of an order, reported (R175 to R179) and expired (R181, R182), and the promotion of the next
order of its string (R172). -/

namespace Sys2Proof.Machine

/-! ## Which order is reported (R175) -/

theorem OrderRecord.numbered_iff {r : OrderRecord} {n : Byte} :
    r.numbered n = true ↔ ∃ o, r = .order o ∧ o.number = n := by
  cases r <;> simp [OrderRecord.numbered]

section Numbered

variable {s : State} {n : Byte} {i : OrderIndex} {o : Order}

theorem State.orderNumbered_eq (order : s.order i = .order o) (number : o.number = n)
    (only : ∀ j x, s.order j = .order x → x.number = n → j = i) : s.orderNumbered n = some (i, o) := by
  have first : lowest (OrderRecord.numbered n) s.ot.table = some i := by
    refine lowest_eq_some (OrderRecord.numbered_iff.mpr ⟨o, order, number⟩) fun j less => ?_
    refine Bool.eq_false_iff.mpr fun numbered => ?_
    obtain ⟨x, record, same⟩ := OrderRecord.numbered_iff.mp numbered
    exact absurd (congrArg Fin.val (only j x record same)) less.ne
  unfold State.orderNumbered
  rw [first]
  dsimp only
  rw [order]
  rfl

theorem State.orderNumbered_none (absent : ∀ j x, s.order j = .order x → x.number ≠ n) :
    s.orderNumbered n = none := by
  have none : lowest (OrderRecord.numbered n) s.ot.table = Option.none := by
    refine lowest_none.mpr fun j => Bool.eq_false_iff.mpr fun numbered => ?_
    obtain ⟨x, record, same⟩ := OrderRecord.numbered_iff.mp numbered
    exact absent j x record same
  unfold State.orderNumbered
  rw [none]

theorem State.reportOrder_unknown (absent : s.orderNumbered n = none) (done : Bool) :
    s.reportOrder n done = answer s (if n ∈ s.ot.expired then .late else .notFound) := by
  unfold State.reportOrder
  rw [absent]
  dsimp only
  rw [apply_ite (answer s), List.contains_eq_mem]
  simp only [decide_eq_true_eq]

theorem State.reportOrder_waiting (found : s.orderNumbered n = some (i, o))
    (waiting : o.stage = .deferred ∨ o.stage = .issuing) (done : Bool) : s.reportOrder n done = answer s .state := by
  unfold State.reportOrder
  rw [found]
  dsimp only
  rcases waiting with stage | stage <;> rw [stage]

theorem State.reportOrder_issued {e : Nat} (found : s.orderNumbered n = some (i, o)) (stage : o.stage = .issued e)
    (done : Bool) : s.reportOrder n done =
      answer ((if done then s.endDone i o else s.endRefused i o).closeOrder i o) .ok := by
  unfold State.reportOrder
  rw [found]
  dsimp only
  rw [stage]

end Numbered

/-! ## Modules, slot and request at the end of an order (R176 to R179) -/

theorem State.enterPoolOrWait_eq (s : State) (i : ModuleIndex) :
    s.enterPoolOrWait i = if s.pe.pool.length < 64 then s.enterPool i else s.enterPoolWait i := by
  unfold State.enterPoolOrWait State.poolHasRoom
  simp only [decide_eq_true_eq]
  rfl

theorem State.standsIn_apart {s : State} {m n : ModuleRef} {x y : ModuleState} (one : s.standsIn m [x])
    (other : s.standsIn n [y]) (differ : x ≠ y) : m.index ≠ n.index := by
  intro same
  have state := List.mem_singleton.mp one.2
  rw [same, List.mem_singleton.mp other.2] at state
  exact differ state.symm

/-- A record FREE after its module stood in it (R39). -/
theorem State.freed_of_stands {s : State} {m : ModuleRef} {l : List ModuleState} (stands : s.standsIn m l) :
    (s.record m.index).freed = ModuleRecord.cleared m.generation := congrArg ModuleRecord.cleared stands.1

section Ended

variable {s : State} {i : OrderIndex} {o : Order} {x : Option ModuleRef} {m out : ModuleRef}

theorem State.endDone_insert (held : s.slot o.slot = .reserved i x) (work : o.work = .insert m)
    (incoming : s.standsIn m [.assigned]) : s.endDone i o =
      ((s.setRecord m.index ((s.record m.index).placed o.slot)).setSlot o.slot (.occupied m)).recompute o.slot.string := by
  unfold State.endDone
  rw [work]
  dsimp only [OrderWork.incoming, OrderWork.outgoing]
  rw [State.claimModule_some incoming]
  exact congrArg (State.recompute · o.slot.string) (State.releaseSlot_held (by exact held) _)

theorem State.endDone_swap (held : s.slot o.slot = .reserved i x) (work : o.work = .swap m out)
    (incoming : s.standsIn m [.assigned]) (outgoing : s.standsIn out [.outbound]) : s.endDone i o =
      (((s.setRecord m.index ((s.record m.index).placed o.slot)).setRecord out.index
        (ModuleRecord.cleared out.generation)).setSlot o.slot (.occupied m)).recompute o.slot.string := by
  have apart := State.standsIn_apart incoming outgoing nofun
  have stands := (State.standsIn_setRecord (r := (s.record m.index).placed o.slot) apart).mpr outgoing
  unfold State.endDone
  rw [work]
  dsimp only [OrderWork.incoming, OrderWork.outgoing]
  rw [State.claimModule_some incoming, State.claimModule_some stands, State.freed_of_stands stands]
  exact congrArg (State.recompute · o.slot.string) (State.releaseSlot_held (by exact held) _)

theorem State.endDone_remove (held : s.slot o.slot = .reserved i x) (work : o.work = .remove out)
    (outgoing : s.standsIn out [.outbound]) : s.endDone i o =
      ((s.setRecord out.index (ModuleRecord.cleared out.generation)).setSlot o.slot .empty).raiseRequest o.slot
        .fill .ready := by
  unfold State.endDone
  rw [work]
  dsimp only [OrderWork.incoming, OrderWork.outgoing]
  have kept : s.claimModule none [.assigned] (fun r => r.placed o.slot) = s := rfl
  rw [kept, State.claimModule_some outgoing, State.freed_of_stands outgoing]
  exact congrArg (State.raiseRequest · o.slot .fill .ready) (State.releaseSlot_held (by exact held) _)

theorem State.returnToPool_some (incoming : s.standsIn m [.assigned]) :
    s.returnToPool (some m) = s.enterPoolOrWait m.index := if_pos (State.finds_iff.mpr incoming)

theorem State.endRefused_insert (held : s.slot o.slot = .reserved i x) (work : o.work = .insert m)
    (incoming : s.standsIn m [.assigned]) : s.endRefused i o =
      ((s.enterPoolOrWait m.index).setSlot o.slot .empty).raiseRequest o.slot .fill .waiting := by
  have still : (s.enterPoolOrWait m.index).slot o.slot = .reserved i x := by
    rw [State.slot, (s.enterPoolOrWait_frame m.index).2.2.2.1, ← State.slot, held]
  unfold State.endRefused
  rw [work]
  dsimp only [OrderWork.incoming, OrderWork.outgoing]
  rw [State.returnToPool_some incoming]
  exact congrArg (State.raiseRequest · o.slot .fill .waiting) (State.releaseSlot_held (by exact still) _)

theorem State.enterPoolOrWait_others (s : State) (i : ModuleIndex) : State.Others i s (s.enterPoolOrWait i) := by
  rw [State.enterPoolOrWait_eq]
  split
  · exact s.enterPool_others i
  · exact (State.Others.setRecord s i (s.record i).waitsForPool).trans (.of_eq rfl)

theorem State.endRefused_swap (held : s.slot o.slot = .reserved i x) (work : o.work = .swap m out)
    (incoming : s.standsIn m [.assigned]) (outgoing : s.standsIn out [.outbound]) : s.endRefused i o =
      ((((s.enterPoolOrWait m.index).setRecord out.index ((s.record out.index).returned o.slot)).setSlot o.slot
        (.occupied out)).recompute o.slot.string).raiseRequest o.slot
          (if (s.record out.index).resolved = some .reject then .remove else .replace) .waiting := by
  have apart := State.standsIn_apart incoming outgoing nofun
  have record : (s.enterPoolOrWait m.index).record out.index = s.record out.index :=
    s.enterPoolOrWait_others m.index out.index apart.symm
  have stands : (s.enterPoolOrWait m.index).standsIn out [.outbound] := by
    unfold State.standsIn
    rw [record]
    exact outgoing
  have still : (s.enterPoolOrWait m.index).slot o.slot = .reserved i x := by
    rw [State.slot, (s.enterPoolOrWait_frame m.index).2.2.2.1, ← State.slot, held]
  have graded : ∀ (t : State) (k : Fin 8), ((t.setRecord out.index ((s.record out.index).returned o.slot)).setSlot o.slot
      (.occupied out) |>.recompute k).record out.index = (s.record out.index).returned o.slot := by
    intro t k
    rw [State.record, (State.recompute_frame _ k).2.2.2.1]
    exact State.record_setRecord_same t _ _
  unfold State.endRefused
  rw [work]
  dsimp only [OrderWork.incoming, OrderWork.outgoing, State.refusedKind]
  rw [State.returnToPool_some incoming, State.claimModule_some stands, record,
    State.releaseSlot_held (by exact still), graded]
  rfl

theorem State.endRefused_remove (held : s.slot o.slot = .reserved i x) (work : o.work = .remove out)
    (outgoing : s.standsIn out [.outbound]) : s.endRefused i o =
      (((s.setRecord out.index ((s.record out.index).returned o.slot)).setSlot o.slot (.occupied out)).recompute
        o.slot.string).raiseRequest o.slot .remove .waiting := by
  have kept : s.returnToPool none = s := rfl
  unfold State.endRefused
  rw [work]
  dsimp only [OrderWork.incoming, OrderWork.outgoing, State.refusedKind]
  rw [kept, State.claimModule_some outgoing, State.releaseSlot_held (by exact held)]

end Ended

/-! ## ORDER-DONE -/

section Reported

variable {s : State} {f : Frame} {rest : List Frame} {token n r reason : Byte}

theorem exec_orderDone (ready : CommandReady s f rest 7#8 token [n, r, reason]) :
    exec .orderDone s = .next (offerReply f (reportOrderDone [n, r, reason] (s.taken rest))) :=
  congrArg Host.Outcome.next (State.execute_ready ready .orderDone reportOrderDone rfl rfl)

theorem exec_orderDone_beyond (ready : CommandReady s f rest 7#8 token [n, r, reason]) (beyond : 1 < r.toNat) :
    exec .orderDone s = .next ((s.taken rest).offered f [7#8, token, 5#8, n, r, reason]) := by
  have none : flagOf r.toNat = Option.none := by
    unfold flagOf
    split <;> [omega; omega; rfl]
  rw [exec_orderDone ready]
  unfold reportOrderDone
  dsimp only
  rw [none]
  exact congrArg Host.Outcome.next (offerReply_known ready.body (s.taken rest) .outOfRange [n, r, reason])

theorem exec_orderDone_reports (ready : CommandReady s f rest 7#8 token [n, r, reason]) {refused : Bool}
    (result : flagOf r.toNat = some refused) {t : State} {st : Status}
    (reported : (s.taken rest).reportOrder n (!refused) = answer t st) :
    exec .orderDone s = .next (t.offered f [7#8, token, BitVec.ofNat 8 st.code, n, r, reason]) := by
  rw [exec_orderDone ready]
  unfold reportOrderDone
  dsimp only
  rw [result]
  dsimp only
  rw [reported]
  exact congrArg Host.Outcome.next (offerReply_known ready.body t st [n, r, reason])

end Reported

/-- Settles O39: the number finds an ISSUED order, whose kind and result say how it ends. -/
theorem orderDone : Obligations.OrderDone := by
  unfold Obligations.OrderDone
  rintro s _ f rest token n r reason reply ready rfl replyIs
  have result : r.toNat ≤ 1 → ∃ refused, flagOf r.toNat = some refused := by
    intro within
    rcases Nat.le_one_iff_eq_zero_or_eq_one.mp within with zero | one
    · exact ⟨false, by rw [zero]; rfl⟩
    · exact ⟨true, by rw [one]; rfl⟩
  refine ⟨fun beyond => (exec_orderDone_beyond ready beyond).trans (replyIs _ _).symm, fun within absent => ?_,
    fun i o within order number only => ⟨fun waiting => ?_, ?_⟩⟩
  · obtain ⟨refused, flag⟩ := result within
    have unknown := State.reportOrder_unknown (s := s.taken rest) (State.orderNumbered_none absent) (!refused)
    rw [exec_orderDone_reports ready flag unknown, replyIs]
    have code : BitVec.ofNat 8 (Status.code (if n ∈ (s.taken rest).ot.expired then Status.late else .notFound)) =
        if n ∈ s.ot.expired then 9#8 else 8#8 := by
      rw [apply_ite Status.code, apply_ite (BitVec.ofNat 8)]
      rfl
    rw [code]
  · obtain ⟨refused, flag⟩ := result within
    have found : (s.taken rest).orderNumbered n = some (i, o) := State.orderNumbered_eq order number only
    exact (exec_orderDone_reports ready flag (State.reportOrder_waiting found waiting (!refused))).trans (replyIs _ _).symm
  · rintro e x _ close stage rfl held closeIs
    have found : (s.taken rest).orderNumbered n = some (i, o) := State.orderNumbered_eq order number only
    have done : r = 0#8 → exec .orderDone s = close ((s.taken rest).endDone i o) := by
      rintro rfl
      rw [closeIs, replyIs]
      exact exec_orderDone_reports (refused := false) ready rfl (State.reportOrder_issued found stage true)
    have refused : r = 1#8 → exec .orderDone s = close ((s.taken rest).endRefused i o) := by
      rintro rfl
      rw [closeIs, replyIs]
      exact exec_orderDone_reports (refused := true) ready rfl (State.reportOrder_issued found stage false)
    have same : (s.taken rest).slot o.slot = .reserved i x := held
    refine ⟨fun m work incoming => ⟨fun zero => ?_, fun one => ?_⟩,
      fun m out work incoming outgoing => ⟨fun zero => ?_, fun one => ?_⟩,
      fun out work outgoing => ⟨fun zero => ?_, fun one => ?_⟩⟩
    · rw [done zero, State.endDone_insert same work incoming]
      rfl
    · rw [refused one, State.endRefused_insert same work incoming, State.enterPoolOrWait_eq]
      rfl
    · rw [done zero, State.endDone_swap same work incoming outgoing]
      rfl
    · rw [refused one, State.endRefused_swap same work incoming outgoing, State.enterPoolOrWait_eq]
      rfl
    · rw [done zero, State.endDone_remove same work outgoing]
    · rw [refused one, State.endRefused_remove same work outgoing]
      rfl

/-! ## Expiry (R181, R182) -/

theorem State.orderExpiry_early {s : State} {i : OrderIndex}
    (early : ∀ o t, s.order i = .order o → o.stage = .issued t → ¬ NothingEndsBefore s t) : s.orderExpiry i = s := by
  unfold State.orderExpiry
  split
  · next o found =>
    unfold State.expireOrder
    split
    · next t stage =>
      refine if_neg fun first => ?_
      exact early o t (OrderRecord.order?_eq_some.mp found) stage (State.noneEndsBefore_iff.mp first)
    · rfl
    · rfl
  · rfl

/-- The records once those of an order's modules are replaced, the incoming one first. -/
def OrderWork.replaceRecords (w : OrderWork) (v : Vector ModuleRecord 192) (held : ModuleIndex → ModuleRecord) :
    Vector ModuleRecord 192 :=
  match w with
  | .insert m => put v m.index (held m.index)
  | .swap m out => put (put v m.index (held m.index)) out.index (held out.index)
  | .remove out => put v out.index (held out.index)

section Held

variable {s : State} {i : OrderIndex} {o : Order} {x : Option ModuleRef} {held : ModuleIndex → ModuleRecord}

theorem State.claims_held {w : OrderWork} (incoming : ∀ m, w.incoming = some m → s.standsIn m [.assigned])
    (outgoing : ∀ m, w.outgoing = some m → s.standsIn m [.outbound])
    (heldIs : ∀ k, held k = { s.record k with state := .held, location := .absent, order := none }) :
    (s.claimModule w.incoming [.assigned] ModuleRecord.heldBack).claimModule w.outgoing [.outbound]
      ModuleRecord.heldBack = { s with mr := { s.mr with records := w.replaceRecords s.mr.records held } } := by
  cases w with
  | insert m =>
    dsimp only [OrderWork.incoming, OrderWork.outgoing, OrderWork.replaceRecords]
    rw [State.claimModule_some (incoming m rfl), heldIs]
    rfl
  | swap m out =>
    have apart := State.standsIn_apart (incoming m rfl) (outgoing out rfl) nofun
    have stands := (State.standsIn_setRecord (r := (s.record m.index).heldBack) apart).mpr (outgoing out rfl)
    dsimp only [OrderWork.incoming, OrderWork.outgoing, OrderWork.replaceRecords]
    rw [State.claimModule_some (incoming m rfl), State.claimModule_some stands,
      State.record_setRecord_other s _ _ _ apart, heldIs, heldIs]
    rfl
  | remove out =>
    have kept : s.claimModule none [.assigned] ModuleRecord.heldBack = s := rfl
    dsimp only [OrderWork.incoming, OrderWork.outgoing, OrderWork.replaceRecords]
    rw [kept, State.claimModule_some (outgoing out rfl), heldIs]
    rfl

theorem State.endExpired_eq (slot : s.slot o.slot = .reserved i x)
    (incoming : ∀ m, o.work.incoming = some m → s.standsIn m [.assigned])
    (outgoing : ∀ m, o.work.outgoing = some m → s.standsIn m [.outbound])
    (heldIs : ∀ k, held k = { s.record k with state := .held, location := .absent, order := none }) :
    s.endExpired i o = { s.setSlot o.slot .unknown with
      mr := { s.mr with records := o.work.replaceRecords s.mr.records held }
      mu := { s.mu with notices := raiseIn (.orderExpired o.number) s.mu.notices }
      ot := { s.ot with
        expired := (if s.ot.expired.length < 8 then s.ot.expired else s.ot.expired.tail) ++ [o.number] } } := by
  unfold State.endExpired
  dsimp only
  rw [State.claims_held incoming outgoing heldIs, State.releaseSlot_held (by exact slot)]
  rfl

end Held

theorem State.promoteDeferred_none {s : State} {k : Fin 8} (none : s.oldestDeferred k = Option.none) :
    s.promoteDeferred k = s := by
  unfold State.promoteDeferred
  rw [none]

theorem State.promoteDeferred_some {s : State} {k : Fin 8} {i : OrderIndex} {o : Order}
    (oldest : s.oldestDeferred k = some (i, o)) :
    s.promoteDeferred k = s.setOrder i (.order { o with stage := .issuing }) := by
  unfold State.promoteDeferred
  rw [oldest]

/-- No order of a string among those in a list of places is DEFERRED. -/
theorem State.noDeferred {s : State} {k : Fin 8} {l : List OrderIndex}
    (quiet : ∀ i ∈ l, ∀ o, s.order i = .order o → o.slot.string = k → o.stage ≠ .deferred) :
    (l.filterMap fun i => (s.order i).order?.map fun o => (i, o)).find?
      (fun x => decide (x.2.stage = .deferred) && decide (x.2.slot.string = k)) = none := by
  refine List.find?_eq_none.mpr fun x mem => ?_
  obtain ⟨i, listed, order⟩ := List.mem_filterMap.mp mem
  obtain ⟨o, record, rfl⟩ := Option.map_eq_some_iff.mp order
  intro both
  obtain ⟨stage, string⟩ := (Bool.and_eq_true _ _).mp both
  exact quiet i listed o (OrderRecord.order?_eq_some.mp record) (of_decide_eq_true string) (of_decide_eq_true stage)

theorem State.oldestDeferred_eq {s : State} {k : Fin 8} {before after : List OrderIndex} {i : OrderIndex} {o : Order}
    (creation : s.ot.creation = before ++ i :: after) (order : s.order i = .order o) (stage : o.stage = .deferred)
    (string : o.slot.string = k)
    (older : ∀ j ∈ before, ∀ x, s.order j = .order x → x.slot.string = k → x.stage ≠ .deferred) :
    s.oldestDeferred k = some (i, o) := by
  have here : (s.order i).order?.map (fun o => (i, o)) = some (i, o) := by
    rw [order]
    rfl
  unfold State.oldestDeferred State.orders
  rw [creation, List.filterMap_append, List.find?_append, State.noDeferred older, Option.none_or, List.filterMap_cons,
    here]
  exact List.find?_cons_of_pos (by simp [stage, string])

/-- Settles O40: an expiry that is due, one that is not, and the promotion after it. -/
theorem orderExpires : Obligations.OrderExpires := by
  unfold Obligations.OrderExpires
  refine ⟨fun s i early => ?_, ?_, fun s k => ⟨fun quiet => ?_, ?_⟩⟩
  · rw [exec_orderExpiry, State.orderExpiry_early early]
  · intro s i o t x held order stage first slot incoming outgoing heldIs
    have ended := State.endExpired_eq (s := s.reachTime t) slot incoming outgoing heldIs
    rw [exec_orderExpiry, State.orderExpiry_due order stage first, State.expire_eq, ended]
    cases o.work <;> rfl
  · exact State.promoteDeferred_none (State.noDeferred quiet)
  · intro before i after o creation order stage string older
    rw [State.promoteDeferred_some (State.oldestDeferred_eq creation order stage string older)]
    rfl

end Sys2Proof.Machine
end

section
/-! SUPPORT. LOAD (R188 to R190, R209): how its body is read and what is written. -/

namespace Sys2Proof.Machine

/-! ## A chunk as LOAD reads it (R189) -/

theorem chunkTable_iff {a b c d : Byte} {t : Table} :
    chunkTable a b c d = some t ↔ [a, b, c, d] = t.chunkName := by
  constructor
  · intro named
    unfold chunkTable at named
    split at named
    · next name =>
      obtain rfl := Option.some.inj named
      exact name
    split at named
    · next name =>
      obtain rfl := Option.some.inj named
      exact name
    split at named
    · next name =>
      obtain rfl := Option.some.inj named
      exact name
    split at named
    · next name =>
      obtain rfl := Option.some.inj named
      exact name
    split at named
    · next name =>
      obtain rfl := Option.some.inj named
      exact name
    · cases named
  · intro name
    unfold chunkTable
    rw [name]
    cases t <;> rfl

theorem chunkTable_none {a b c d : Byte} (unknown : ∀ t : Table, [a, b, c, d] ≠ t.chunkName) :
    chunkTable a b c d = none := Option.eq_none_iff_forall_ne_some.mpr fun t named => unknown t (chunkTable_iff.mp named)

theorem Table.entrySize_pos (t : Table) : 0 < t.entrySize := by cases t <;> decide

/-- A name of four characters, character by character. -/
theorem exists_of_length_four {l : List Byte} (four : l.length = 4) : ∃ a b c d, l = [a, b, c, d] := by
  match l, four with
  | [a, b, c, d], _ => exact ⟨a, b, c, d, rfl⟩

section Header

variable {a b c d length : Byte} {rest : List Byte}

theorem chunksOf_short (short : rest.length < length.toNat) (fuel k : Nat) :
    chunksOf (fuel + 1) k (a :: b :: c :: d :: length :: rest) = .error k := by
  rw [chunksOf, if_pos short]

theorem chunksOf_uneven {t : Table} (enough : length.toNat ≤ rest.length) (named : chunkTable a b c d = some t)
    (uneven : length.toNat % t.entrySize ≠ 0) (fuel k : Nat) :
    chunksOf (fuel + 1) k (a :: b :: c :: d :: length :: rest) = .error k := by
  rw [chunksOf, if_neg (Nat.not_lt.mpr enough), named]
  exact if_pos uneven

theorem chunksOf_chunk (enough : length.toNat ≤ rest.length)
    (even : ∀ t, chunkTable a b c d = some t → length.toNat % t.entrySize = 0) (fuel k : Nat) :
    chunksOf (fuel + 1) k (a :: b :: c :: d :: length :: rest) =
      (chunksOf fuel (k + 1) (rest.drop length.toNat)).map
        ({ ordinal := k, table := chunkTable a b c d, chars := rest.take length.toNat } :: ·) := by
  rw [chunksOf, if_neg (Nat.not_lt.mpr enough)]
  cases named : chunkTable a b c d with
  | none =>
    dsimp only
    cases chunksOf fuel (k + 1) (rest.drop length.toNat) <;> rfl
  | some t =>
    dsimp only
    rw [if_neg (not_not_intro (even t named))]
    cases chunksOf fuel (k + 1) (rest.drop length.toNat) <;> rfl

end Header

theorem chunksOf_fails {l : List Byte} (fails : ChunkFails l) (fuel k : Nat) : chunksOf fuel k l = .error k := by
  obtain ⟨some, cut⟩ := fails
  cases fuel with
  | zero =>
    unfold chunksOf
    split
    · exact absurd rfl some
    · next more => exact absurd more (Nat.succ_ne_zero _).symm
    · rfl
  | succ fuel =>
    rcases cut with header | ⟨name, length, rest, rfl, four, body⟩
    · unfold chunksOf
      split
      · exact absurd rfl some
      · simp only [List.length_cons] at header
        omega
      · rfl
    · obtain ⟨a, b, c, d, rfl⟩ := exists_of_length_four four
      by_cases short : rest.length < length.toNat
      · exact chunksOf_short short fuel k
      · obtain ⟨t, name, uneven⟩ := body.resolve_left short
        exact chunksOf_uneven (Nat.not_lt.mp short) (chunkTable_iff.mpr name) uneven fuel k

/-- The characters of a chunk's content. -/
def LoadChunk.content : LoadChunk → List Byte
  | .known _ entries => entries.flatten
  | .unknown _ content => content

/-- A chunk as the part holds it when it has read it. -/
def LoadChunk.read (k : Nat) (c : LoadChunk) : Chunk := { ordinal := k, table := c.table?, chars := c.content }

/-- The chunks read, numbered from a value on. -/
def chunksRead : Nat → List LoadChunk → List Chunk
  | _, [] => []
  | k, c :: cs => c.read k :: chunksRead (k + 1) cs

theorem flatten_length {l : List (List Byte)} {n : Nat} (each : ∀ e ∈ l, e.length = n) :
    l.flatten.length = n * l.length := by
  induction l with
  | nil => rfl
  | cons e l ih =>
    rw [List.flatten_cons, List.length_append, each e List.mem_cons_self,
      ih fun x mem => each x (List.mem_cons_of_mem e mem), List.length_cons, Nat.mul_succ, Nat.add_comm]

theorem LoadChunk.WellFormed.header {c : LoadChunk} (h : c.WellFormed) : ∃ w x y z,
    c.characters = w :: x :: y :: z :: BitVec.ofNat 8 c.content.length :: c.content ∧ c.content.length ≤ 255 ∧
      chunkTable w x y z = c.table? ∧ ∀ t, c.table? = some t → c.content.length % t.entrySize = 0 := by
  cases c with
  | known t entries =>
    obtain ⟨fits, sizes⟩ := h.known t entries rfl
    have even : entries.flatten.length % t.entrySize = 0 := by
      rw [flatten_length sizes, Nat.mul_mod_right]
    have four : t.chunkName.length = 4 := by cases t <;> rfl
    obtain ⟨w, x, y, z, name⟩ := exists_of_length_four four
    refine ⟨w, x, y, z, ?_, fits, chunkTable_iff.mpr name.symm, fun t' same => ?_⟩
    · rw [LoadChunk.characters, name]
      rfl
    · obtain rfl := Option.some.inj same
      exact even
  | unknown name content =>
    obtain ⟨fits, four, other⟩ := h.unknown name content rfl
    obtain ⟨w, x, y, z, rfl⟩ := exists_of_length_four four
    exact ⟨w, x, y, z, rfl, fits, chunkTable_none other, fun t none => nomatch none⟩

theorem chunksOf_wellFormed {c : LoadChunk} (h : c.WellFormed) (fuel k : Nat) (rest : List Byte) :
    chunksOf (fuel + 1) k (c.characters ++ rest) = (chunksOf fuel (k + 1) rest).map (c.read k :: ·) := by
  obtain ⟨w, x, y, z, characters, fits, named, even⟩ := h.header
  have length : (BitVec.ofNat 8 c.content.length).toNat = c.content.length :=
    Nat.mod_eq_of_lt (Nat.lt_succ_of_le fits)
  have read := chunksOf_chunk (a := w) (b := x) (c := y) (d := z) (length := BitVec.ofNat 8 c.content.length)
    (rest := c.content ++ rest) (by rw [length, List.length_append]; exact Nat.le_add_right _ _)
    (fun t some => by rw [length]; exact even t (named.symm.trans some)) fuel k
  rw [length, List.drop_left, List.take_left, named] at read
  rw [characters]
  exact read

section Body

variable {chunks : List LoadChunk}

theorem LoadChunk.WellFormed.characters_pos {c : LoadChunk} (h : c.WellFormed) : 1 ≤ c.characters.length := by
  obtain ⟨w, x, y, z, characters, -⟩ := h.header
  rw [characters]
  exact Nat.succ_pos _

theorem length_le_characters (formed : ∀ c ∈ chunks, c.WellFormed) (fails : List Byte) :
    chunks.length ≤ (chunks.flatMap LoadChunk.characters ++ fails).length := by
  induction chunks with
  | nil => exact Nat.zero_le _
  | cons c cs ih =>
    have first := (formed c List.mem_cons_self).characters_pos
    have more := ih fun x mem => formed x (List.mem_cons_of_mem c mem)
    simp only [List.flatMap_cons, List.length_cons, List.length_append] at more ⊢
    omega

theorem chunksOf_body (formed : ∀ c ∈ chunks, c.WellFormed) {fuel : Nat} (enough : chunks.length ≤ fuel) (k : Nat)
    (fails : List Byte) : (ChunkFails fails →
      chunksOf fuel k (chunks.flatMap LoadChunk.characters ++ fails) = .error (k + chunks.length)) ∧
    (fails = [] → chunksOf fuel k (chunks.flatMap LoadChunk.characters ++ fails) = .ok (chunksRead k chunks)) := by
  induction chunks generalizing fuel k with
  | nil =>
    refine ⟨fun cut => chunksOf_fails cut fuel k, ?_⟩
    rintro rfl
    exact chunksOf.eq_1 fuel k
  | cons c cs ih =>
    obtain ⟨n, rfl⟩ : ∃ n, fuel = n + 1 := ⟨fuel - 1, by simp only [List.length_cons] at enough; omega⟩
    obtain ⟨cut, whole⟩ := ih (fun x mem => formed x (List.mem_cons_of_mem c mem)) (Nat.le_of_succ_le_succ enough) (k + 1)
    rw [List.flatMap_cons, List.append_assoc, chunksOf_wellFormed (formed c List.mem_cons_self)]
    refine ⟨fun f => ?_, fun f => ?_⟩
    · rw [cut f, List.length_cons, Nat.add_right_comm, ← Nat.add_assoc]
      rfl
    · rw [whole f]
      rfl

end Body

/-! ## The entries of the chunks read (R190) -/

theorem piecesOf_flatten {size : Nat} (pos : 0 < size) {entries : List (List Byte)}
    (sizes : ∀ e ∈ entries, e.length = size) {fuel : Nat} (enough : entries.length ≤ fuel) :
    piecesOf size fuel entries.flatten = entries := by
  induction entries generalizing fuel with
  | nil => cases fuel <;> rfl
  | cons e es ih =>
    obtain ⟨n, rfl⟩ : ∃ n, fuel = n + 1 := ⟨fuel - 1, by simp only [List.length_cons] at enough; omega⟩
    have first := sizes e List.mem_cons_self
    have more := ih (fun x mem => sizes x (List.mem_cons_of_mem e mem)) (Nat.le_of_succ_le_succ enough)
    obtain ⟨b, l, rfl⟩ := List.exists_cons_of_length_pos (first ▸ pos)
    have cut : piecesOf size (n + 1) (b :: l ++ es.flatten) =
        (b :: l ++ es.flatten).take size :: piecesOf size n ((b :: l ++ es.flatten).drop size) := rfl
    rw [List.flatten_cons, cut, List.take_left' first, List.drop_left' first, more]

theorem LoadChunk.read_entries {t : Table} {entries : List (List Byte)} (sizes : ∀ e ∈ entries, e.length = t.entrySize)
    (k : Nat) : ((LoadChunk.known t entries).read k).entries = entries.map fun e => (k, t, e) := by
  have enough : entries.length ≤ entries.flatten.length := by
    rw [flatten_length sizes]
    exact Nat.le_mul_of_pos_left _ t.entrySize_pos
  exact congrArg (List.map fun e => (k, t, e)) (piecesOf_flatten t.entrySize_pos sizes enough)

theorem chunksRead_entries {chunks : List LoadChunk} (formed : ∀ c ∈ chunks, c.WellFormed) (k : Nat) :
    (chunksRead k chunks).flatMap Chunk.entries = entriesFrom k chunks := by
  induction chunks generalizing k with
  | nil => rfl
  | cons c cs ih =>
    have more := ih (fun x mem => formed x (List.mem_cons_of_mem c mem)) (k + 1)
    rw [chunksRead, List.flatMap_cons, more]
    cases c with
    | known t entries =>
      rw [LoadChunk.read_entries ((formed _ List.mem_cons_self).known t entries rfl).2]
      rfl
    | unknown name content => rfl

theorem chunksRead_unknown (k : Nat) (chunks : List LoadChunk) :
    ((chunksRead k chunks).filter fun c => c.table.isNone).length =
      (chunks.filter fun c => c.table?.isNone).length := by
  induction chunks generalizing k with
  | nil => rfl
  | cons c cs ih =>
    have here : (c.read k).table = c.table? := rfl
    rw [chunksRead, List.filter_cons, List.filter_cons, here]
    split
    · rw [List.length_cons, List.length_cons, ih]
    · exact ih (k + 1)

/-! ## The checks of a LOAD (R190) -/

theorem LoadChunk.read_collides {mask : BitVec 5} {c : LoadChunk} {k : Nat} :
    (c.read k).collides mask = true ↔ ∃ t, c.table? = some t ∧ mask.getLsbD t.code = true := by
  unfold Chunk.collides
  cases table : c.table? with
  | none => simp [LoadChunk.read, table]
  | some t => simp [LoadChunk.read, table, names]

theorem chunksRead_find {mask : BitVec 5} {before : List LoadChunk} (rest : List LoadChunk)
    (apart : ∀ x ∈ before, ∀ t, x.table? = some t → mask.getLsbD t.code = false) (k : Nat) :
    (chunksRead k (before ++ rest)).find? (Chunk.collides mask) =
      (chunksRead (k + before.length) rest).find? (Chunk.collides mask) := by
  induction before generalizing k with
  | nil => rfl
  | cons c cs ih =>
    have passes : ¬ (c.read k).collides mask = true := fun hit => by
      obtain ⟨t, table, named⟩ := LoadChunk.read_collides.mp hit
      rw [apart c List.mem_cons_self t table] at named
      cases named
    rw [List.cons_append, chunksRead, List.find?_cons_of_neg passes,
      ih fun x mem => apart x (List.mem_cons_of_mem c mem), List.length_cons, Nat.add_right_comm, Nat.add_assoc]

theorem State.collision_at {s : State} {mask : BitVec 5} (pending : s.mu.pendingCommit = some mask)
    {before after : List LoadChunk} {c : LoadChunk} {t : Table} (table : c.table? = some t)
    (named : mask.getLsbD t.code = true)
    (apart : ∀ x ∈ before, ∀ t, x.table? = some t → mask.getLsbD t.code = false) (k : Nat) :
    s.collision (chunksRead k (before ++ c :: after)) = some (k + before.length) := by
  unfold State.collision
  rw [pending]
  dsimp only
  rw [chunksRead_find _ apart, chunksRead, List.find?_cons_of_pos (LoadChunk.read_collides.mpr ⟨t, table, named⟩)]
  rfl

theorem State.collision_none {s : State} {chunks : List LoadChunk}
    (apart : ∀ mask, s.mu.pendingCommit = some mask → ∀ c ∈ chunks, ∀ t, c.table? = some t →
      mask.getLsbD t.code = false) (k : Nat) : s.collision (chunksRead k chunks) = none := by
  unfold State.collision
  split
  · rfl
  · next mask pending =>
    have passes := chunksRead_find [] (apart mask pending) k
    rw [List.append_nil] at passes
    rw [passes]
    rfl

theorem writesOf_ok {l : List (Nat × Table × List Byte)} {writes : List EntryWrite}
    (read : l.map (fun x => entryWriteOf x.2.1 x.2.2) = writes.map some) : writesOf l = .ok writes := by
  induction l generalizing writes with
  | nil =>
    cases writes with
    | nil => rfl
    | cons w ws => cases read
  | cons x xs ih =>
    cases writes with
    | nil => cases read
    | cons w ws =>
      obtain ⟨first, more⟩ := List.cons.inj read
      unfold writesOf
      dsimp only at first
      rw [first, ih more]

theorem writesOf_error {before after : List (Nat × Table × List Byte)} {k : Nat} {t : Table} {i : Byte}
    {fields : List Byte} (read : ∀ x ∈ before, (entryWriteOf x.2.1 x.2.2).isSome)
    (bad : entryWriteOf t (i :: fields) = none) :
    writesOf (before ++ (k, t, i :: fields) :: after) = .error (k, i) := by
  induction before with
  | nil =>
    rw [List.nil_append, writesOf, bad]
    rfl
  | cons x xs ih =>
    obtain ⟨w, first⟩ := Option.isSome_iff_exists.mp (read x List.mem_cons_self)
    have more := ih fun y mem => read y (List.mem_cons_of_mem x mem)
    rw [List.cons_append, writesOf, first, more]

/-! ## LOAD -/

section Load

variable {s : State} {f : Frame} {rest : List Frame} {token : Byte} {params : List Byte}

theorem exec_load (ready : CommandReady s f rest 1#8 token params) {t : State} {st : Status} {data : List Byte}
    (loaded : loadChunks params (s.taken rest) = { state := t, status := st, data := known data }) :
    exec .load s = .next (t.offered f ([1#8, token, BitVec.ofNat 8 st.code] ++ data)) := by
  have taken : exec .load s = .next (offerReply f (loadChunks params (s.taken rest))) :=
    congrArg Host.Outcome.next (State.execute_ready ready .load loadChunks rfl rfl)
  rw [taken, loaded]
  exact congrArg Host.Outcome.next (offerReply_known ready.body t st data)

theorem loadChunks_malformed {k : Nat} (read : chunksOf params.length 1 params = .error k) :
    loadChunks params s = { state := s, status := .malformed, data := known [BitVec.ofNat 8 k, 255#8] } := by
  unfold loadChunks
  rw [read]
  rfl

theorem loadChunks_collision {cs : List Chunk} {k : Nat} (read : chunksOf params.length 1 params = .ok cs)
    (hit : s.collision cs = some k) :
    loadChunks params s = { state := s, status := .collision, data := known [BitVec.ofNat 8 k, 255#8] } := by
  unfold loadChunks
  rw [read]
  dsimp only
  rw [hit]
  rfl

theorem loadChunks_outOfRange {cs : List Chunk} {k : Nat} {i : Byte}
    (read : chunksOf params.length 1 params = .ok cs) (clear : s.collision cs = none)
    (bad : writesOf (cs.flatMap Chunk.entries) = .error (k, i)) :
    loadChunks params s = { state := s, status := .outOfRange, data := known [BitVec.ofNat 8 k, i] } := by
  unfold loadChunks
  rw [read]
  dsimp only
  rw [clear]
  dsimp only
  rw [bad]
  rfl

theorem loadChunks_ok {cs : List Chunk} {ws : List EntryWrite} (read : chunksOf params.length 1 params = .ok cs)
    (clear : s.collision cs = none) (all : writesOf (cs.flatMap Chunk.entries) = .ok ws) :
    loadChunks params s = { state := s.setShadow (ws.foldl Tables.write s.mu.shadow), status := .ok
                            data := known [BitVec.ofNat 8 ws.length,
                              BitVec.ofNat 8 (cs.filter fun c => c.table.isNone).length] } := by
  unfold loadChunks
  rw [read]
  dsimp only
  rw [clear]
  dsimp only
  rw [all]
  rfl

end Load

/-- Settles O41: the body is read chunk by chunk, then checked for a collision, then for its entries' ranges. -/
theorem loadWritesShadow : Obligations.LoadWritesShadow := by
  unfold Obligations.LoadWritesShadow
  rintro s f rest token _ fails chunks ready rfl formed
  have body := chunksOf_body formed (length_le_characters formed fails) 1 fails
  refine ⟨fun cut => ?_, fun whole => ?_⟩
  · have failed := (body.1 cut).trans (congrArg Except.error (Nat.add_comm 1 chunks.length))
    exact exec_load ready (loadChunks_malformed failed)
  have read := body.2 whole
  refine ⟨fun mask before c t after pending split table named apart => ?_,
    fun apart => ⟨fun before k t i fields after entries good bad => ?_, fun writes entries => ?_⟩⟩
  · have hit : (s.taken rest).collision (chunksRead 1 chunks) = some (before.length + 1) := by
      rw [split, State.collision_at (by exact pending) table named apart, Nat.add_comm]
    exact exec_load ready (loadChunks_collision read hit)
  · have clear : (s.taken rest).collision (chunksRead 1 chunks) = none := State.collision_none apart 1
    have error := writesOf_error (after := after) (k := k) good bad
    rw [← entries, ← chunksRead_entries formed] at error
    exact exec_load ready (loadChunks_outOfRange read clear error)
  · have clear : (s.taken rest).collision (chunksRead 1 chunks) = none := State.collision_none apart 1
    have all := writesOf_ok entries
    rw [← chunksRead_entries formed] at all
    have loaded := loadChunks_ok read clear all
    rw [chunksRead_unknown] at loaded
    exact exec_load ready loaded

end Sys2Proof.Machine
end

section
/-! SUPPORT. The characters of table entries (R209, R66, R18, R58, R147, R204), written and read. -/

namespace Sys2Proof.Machine

/-! ## One character and two -/

theorem ofNat_toNat_byte (b : Byte) : BitVec.ofNat 8 b.toNat = b := (eq_ofNat_of_toNat rfl).symm

theorem toNat_ofNat_byte {n : Nat} (fits : n ≤ 255) : (BitVec.ofNat 8 n).toNat = n :=
  Nat.mod_eq_of_lt (Nat.lt_succ_of_le fits)

/-- Two characters spell a number (10 section 10.7). -/
theorem charsOf_two {n : Nat} (fits : n ≤ 65535) : ∃ a b, charsOf 2 n = [a, b] ∧ numberOf [a, b] = n := by
  refine ⟨_, _, rfl, ?_⟩
  exact (numberOf_charsOf 2 n).trans (Nat.mod_eq_of_lt (Nat.lt_succ_of_le fits))

theorem charsOf_numberOf (a b : Byte) : charsOf 2 (numberOf [a, b]) = [a, b] := by
  obtain ⟨c, d, chars, same⟩ := charsOf_two (LimitsKept.numberOf_two_le a b)
  rw [numberOf_two, numberOf_two, toNat_append_byte, toNat_append_byte] at same
  have high : c = a := BitVec.eq_of_toNat_eq (by omega)
  have low : d = b := BitVec.eq_of_toNat_eq (by omega)
  rw [chars, high, low]

/-- Two characters spell a signed number in two's complement. -/
theorem signedChars_two {z : Int} (low : -32768 ≤ z) (high : z ≤ 32767) :
    ∃ a b, signedChars z = [a, b] ∧ signedOf [a, b] = z := by
  obtain ⟨a, b, chars, number⟩ := charsOf_two (n := (BitVec.ofInt 16 z).toNat) (Nat.le_of_lt_succ (BitVec.isLt _))
  refine ⟨a, b, chars, ?_⟩
  rw [signedOf, number, BitVec.ofNat_toNat, BitVec.setWidth_eq, BitVec.toInt_ofInt]
  exact Int.bmod_eq_of_le (by omega) (by omega)

theorem signedChars_signedOf (a b : Byte) : signedChars (signedOf [a, b]) = [a, b] := by
  have number : (BitVec.ofNat 16 (numberOf [a, b])).toNat = numberOf [a, b] :=
    Nat.mod_eq_of_lt (Nat.lt_succ_of_le (LimitsKept.numberOf_two_le a b))
  rw [signedChars, signedOf, BitVec.ofInt_toInt, number, charsOf_numberOf]

theorem signedChars_natCast {n : Nat} (fits : n ≤ 65535) : signedChars n = charsOf 2 n := by
  have number : (BitVec.ofNat 16 n).toNat = n := Nat.mod_eq_of_lt (Nat.lt_succ_of_le fits)
  rw [signedChars, BitVec.ofInt_natCast, number]

/-! ## Codes -/

theorem flagOf_iff {n : Nat} {b : Bool} : flagOf n = some b ↔ flagCode b = n := by
  constructor
  · intro read
    unfold flagOf at read
    split at read <;> cases read <;> rfl
  · rintro rfl
    cases b <;> rfl

theorem applicabilityOf_iff {n : Nat} {x : Applicability} : applicabilityOf n = some x ↔ x.code = n := by
  constructor
  · intro read
    unfold applicabilityOf at read
    split at read <;> cases read <;> rfl
  · rintro rfl
    cases x <;> rfl

theorem metricOf_iff {n : Nat} {x : Metric} : metricOf n = some x ↔ x.code = n := by
  constructor
  · intro read
    unfold metricOf at read
    split at read <;> cases read <;> rfl
  · rintro rfl
    cases x <;> rfl

theorem ruleModeOf_iff {n : Nat} {x : RuleMode} : ruleModeOf n = some x ↔ x.code = n := by
  constructor
  · intro read
    unfold ruleModeOf at read
    split at read <;> cases read <;> rfl
  · rintro rfl
    cases x <;> rfl

theorem gradeOf_iff {n : Nat} {g : Grade} : gradeOf n = some g ↔ g.rank = n := by
  constructor
  · intro read
    unfold gradeOf at read
    split at read <;> cases read <;> rfl
  · rintro rfl
    cases g <;> rfl

theorem ceilingOf_iff {n : Nat} {g : Grade} : ceilingOf n = some g ↔ g ≠ .reject ∧ g.rank = n := by
  constructor
  · intro read
    refine ⟨ceilingOf_ne_reject read, ?_⟩
    unfold ceilingOf at read
    split at read <;> cases read <;> rfl
  · rintro ⟨accepted, rfl⟩
    cases g with
    | reject => exact absurd rfl accepted
    | _ => rfl

theorem roleOf_iff {n : Nat} {x : Role} : roleOf n = some x ↔ x.code = n := by
  constructor
  · intro read
    unfold roleOf at read
    split at read <;> cases read <;> rfl
  · rintro rfl
    cases x <;> rfl

theorem restUnitOf_iff {n : Nat} {x : RestUnit} : restUnitOf n = some x ↔ x.code = n := by
  constructor
  · intro read
    unfold restUnitOf at read
    split at read <;> cases read <;> rfl
  · rintro rfl
    cases x <;> rfl

theorem policyOf_iff {n : Nat} {x : Policy} : policyOf n = some x ↔ x.code = n := by
  constructor
  · intro read
    unfold policyOf at read
    split at read <;> cases read <;> rfl
  · rintro rfl
    cases x <;> rfl

theorem confirmOf_iff {n : Nat} {c : Option Nat} :
    confirmOf n = some c ↔ c.getD 0 = n ∧ ∀ k, c = some k → 1 ≤ k ∧ k ≤ 15 := by
  constructor
  · intro read
    refine ⟨?_, confirmOf_range read⟩
    unfold confirmOf at read
    split at read
    · next zero =>
      obtain rfl := Option.some.inj read
      exact zero.symm
    · split at read
      · obtain rfl := Option.some.inj read
        rfl
      · cases read
  · rintro ⟨rfl, range⟩
    cases c with
    | none => rfl
    | some k =>
      obtain ⟨one, most⟩ := range k rfl
      exact (if_neg (Nat.pos_iff_ne_zero.mp one)).trans (if_pos most)

theorem controllerOf_iff {b : Byte} {c : Option Byte} :
    controllerOf b = c ↔ c.getD 255#8 = b ∧ ∀ a, c = some a → a.toNat ≤ 254 := by
  constructor
  · rintro rfl
    refine ⟨?_, fun _ => controllerOf_range⟩
    unfold controllerOf
    split
    · next any => exact any.symm
    · rfl
  · rintro ⟨rfl, range⟩
    cases c with
    | none => rfl
    | some a =>
      refine if_neg fun any => ?_
      have small := range a rfl
      rw [show a = Config.broadcast from any] at small
      exact absurd small (by decide)

/-- A coded field read from a character is the one whose code the character is. -/
theorem readsCode {α : Type} {f : Nat → Option α} {code : α → Nat} (reads : ∀ {n x}, f n = some x ↔ code x = n)
    {b : Byte} {x : α} (read : f b.toNat = some x) : BitVec.ofNat 8 (code x) = b := by
  rw [reads.mp read, ofNat_toNat_byte]

theorem readsIndex {n : Nat} {b : Byte} {i : Fin n} (read : indexOf n b.toNat = some i) : BitVec.ofNat 8 i.val = b := by
  rw [← indexOf_eq_some.mp read, ofNat_toNat_byte]

theorem indexOf_ofNat {n : Nat} (small : n ≤ 256) (i : Fin n) : indexOf n (BitVec.ofNat 8 i.val).toNat = some i := by
  rw [toNat_ofNat_fin i small, indexOf_val]

theorem Grade.rank_le (g : Grade) : g.rank ≤ 255 := by cases g <;> decide

/-! ## Origin Class Table (R58) -/

/-- The characters of an entry after its index (R209). -/
def OriginClass.fields (e : OriginClass) : List Byte :=
  charsOf 2 e.restCount ++ [BitVec.ofNat 8 e.residency, BitVec.ofNat 8 e.gapLimit, BitVec.ofNat 8 e.ceiling.rank]

theorem originClassChars_eq (e : OriginClass) : originClassChars e = known e.fields := rfl

theorem originClassOf_fields {e : OriginClass} (h : e.InRange) : originClassOf e.fields = some e := by
  obtain ⟨rest, ⟨one, residency⟩, gaps, ceiling⟩ := h
  obtain ⟨a, b, chars, number⟩ := charsOf_two (n := e.restCount) (by omega)
  unfold OriginClass.fields
  rw [chars]
  simp only [List.cons_append, List.nil_append, originClassOf, number, toNat_ofNat_byte residency, toNat_ofNat_byte gaps,
    toNat_ofNat_byte e.ceiling.rank_le, ceilingOf_iff.mpr ⟨ceiling, rfl⟩]
  exact if_pos ⟨rest, one⟩

theorem fields_of_originClassOf {l : List Byte} {e : OriginClass} (read : originClassOf l = some e) : l = e.fields := by
  unfold originClassOf at read
  split at read
  · next a b t g c =>
    split at read
    · next ceiling known =>
      split at read
      · obtain rfl := Option.some.inj read
        simp only [OriginClass.fields, charsOf_numberOf, ofNat_toNat_byte, (ceilingOf_iff.mp known).2, List.cons_append,
          List.nil_append]
      · cases read
    · cases read
  · cases read

/-! ## Pairing Class Table (R147) -/

/-- The characters of an entry after its index (R209). -/
def PairingClass.fields (e : PairingClass) : List Byte :=
  BitVec.ofNat 8 e.minimum.rank :: charsOf 2 e.capTolerance ++ charsOf 2 e.resTolerance ++
    [BitVec.ofNat 8 e.capWeight, BitVec.ofNat 8 e.resWeight, BitVec.ofNat 8 e.referenceMinimum, e.flags,
      BitVec.ofNat 8 e.fillPriority, BitVec.ofNat 8 e.replacePriority, BitVec.ofNat 8 e.watchConfirm]

theorem pairingClassChars_eq (e : PairingClass) : pairingClassChars e = known e.fields := by
  have flags : one e.flags.toNat = known [e.flags] := by rw [one_eq_known, ofNat_toNat_byte]
  unfold pairingClassChars
  rw [flags]
  rfl

theorem pairingClassOf_fields {e : PairingClass} (h : e.InRange) : pairingClassOf e.fields = some e := by
  obtain ⟨minimum, ⟨cap, res⟩, ⟨capWeight, resWeight⟩, reference, ⟨fill, replace⟩, one, watch⟩ := h
  obtain ⟨a, b, capChars, capNumber⟩ := charsOf_two cap
  obtain ⟨c, d, resChars, resNumber⟩ := charsOf_two res
  have byte : ∀ n, n ≤ 16 → (BitVec.ofNat 8 n).toNat = n := fun n fits => toNat_ofNat_byte (by omega)
  unfold PairingClass.fields
  rw [capChars, resChars]
  simp only [List.cons_append, List.nil_append, pairingClassOf, capNumber, resNumber, toNat_ofNat_byte e.minimum.rank_le,
    ceilingOf_iff.mpr ⟨minimum, rfl⟩, byte e.capWeight (by omega), byte e.resWeight (by omega), byte _ reference,
    byte e.fillPriority (by omega), byte e.replacePriority (by omega), byte e.watchConfirm (by omega)]
  exact if_pos ⟨capWeight, resWeight, reference, fill, replace, one, watch⟩

theorem fields_of_pairingClassOf {l : List Byte} {e : PairingClass} (read : pairingClassOf l = some e) :
    l = e.fields := by
  unfold pairingClassOf at read
  split at read
  · split at read
    · next minimum known =>
      split at read
      · obtain rfl := Option.some.inj read
        simp only [PairingClass.fields, charsOf_numberOf, ofNat_toNat_byte, (ceilingOf_iff.mp known).2, List.cons_append,
          List.nil_append]
      · cases read
    · cases read
  · cases read

/-! ## Station Table (R18) -/

/-- The characters of an entry after its index (R209). -/
def Station.fields (e : Station) : List Byte :=
  [BitVec.ofNat 8 (flagCode e.valid), e.address, BitVec.ofNat 8 e.role.code, BitVec.ofNat 8 e.string.val,
    BitVec.ofNat 8 e.basePosition.val, BitVec.ofNat 8 e.channelCount]

theorem stationChars_eq (e : Station) : stationChars e = known e.fields := by
  have address : one e.address.toNat = known [e.address] := by rw [one_eq_known, ofNat_toNat_byte]
  unfold stationChars
  rw [address]
  rfl

theorem stationOf_fields {e : Station} (h : e.InRange) : stationOf e.fields = some e := by
  obtain ⟨address, one, channels⟩ := h
  rw [← e.role.channelMax_eq] at channels
  have few : e.role.channelMax ≤ 8 := by cases e.role <;> decide
  have role : (BitVec.ofNat 8 e.role.code).toNat = e.role.code := by cases e.role <;> rfl
  have valid : (BitVec.ofNat 8 (flagCode e.valid)).toNat = flagCode e.valid := by cases e.valid <;> rfl
  simp only [stationOf, Station.fields, valid, flagOf_iff.mpr rfl, role, roleOf_iff.mpr rfl, indexOf_ofNat,
    toNat_ofNat_byte (n := e.channelCount) (by omega), Nat.reduceLeDiff, Option.bind_eq_bind, Option.bind_some]
  exact if_pos ⟨address, one, channels⟩

theorem fields_of_stationOf {l : List Byte} {e : Station} (read : stationOf l = some e) : l = e.fields := by
  unfold stationOf at read
  split at read
  · simp only [Option.bind_eq_bind, Option.bind_eq_some_iff] at read
    obtain ⟨valid, isValid, role, isRole, string, isString, base, isBase, read⟩ := read
    split at read
    · obtain rfl := Option.some.inj read
      simp only [Station.fields, readsCode flagOf_iff isValid, readsCode roleOf_iff isRole, readsIndex isString,
        readsIndex isBase, ofNat_toNat_byte]
    · cases read
  · cases read

end Sys2Proof.Machine
end

section
/-! SUPPORT. The characters of Bank Settings and of grading rules (R209, R66, R190), and table entries there and back. -/

namespace Sys2Proof.Machine

/-! ## Bank Settings (R190) -/

/-- The characters of the settings after their index (R209). -/
def BankSettings.fields (e : BankSettings) : List Byte :=
  [BitVec.ofNat 8 e.stringsInUse, BitVec.ofNat 8 e.positions] ++
    ((List.finRange 8).map fun k => BitVec.ofNat 8 (e.classes.get k).val) ++
    [BitVec.ofNat 8 e.restUnit.code, BitVec.ofNat 8 e.policy.code] ++ charsOf 2 e.orderDeadline ++
    [e.controller.getD 255#8]

theorem vector_eight {α : Type} (v : Vector α 8) :
    v = #v[v.get 0, v.get 1, v.get 2, v.get 3, v.get 4, v.get 5, v.get 6, v.get 7] := by
  refine Vector.ext fun i bound => ?_
  interval_cases i <;> rfl

theorem finRange_eight {α : Type} (f : Fin 8 → α) :
    (List.finRange 8).map f = [f 0, f 1, f 2, f 3, f 4, f 5, f 6, f 7] := rfl

theorem bankSettingsChars_eq (e : BankSettings) : bankSettingsChars e = known e.fields := by
  have classes : e.classes.toList.flatMap (fun c => one c.val) =
      known ((List.finRange 8).map fun k => BitVec.ofNat 8 (e.classes.get k).val) := by
    rw [vector_eight e.classes]
    rfl
  unfold bankSettingsChars BankSettings.fields
  rw [classes]
  simp only [known_append]
  rfl

theorem bankSettingsOf_fields {e : BankSettings} (h : e.InRange) : bankSettingsOf e.fields = some e := by
  obtain ⟨strings, ⟨one, positions⟩, ⟨first, deadline⟩, controller⟩ := h
  obtain ⟨a, b, chars, number⟩ := charsOf_two (n := e.orderDeadline) (by omega)
  have unit : (BitVec.ofNat 8 e.restUnit.code).toNat = e.restUnit.code := by cases e.restUnit <;> rfl
  have policy : (BitVec.ofNat 8 e.policy.code).toNat = e.policy.code := by cases e.policy <;> rfl
  have classes : ∀ k, indexOf 8 (BitVec.ofNat 8 (e.classes.get k).val).toNat = some (e.classes.get k) :=
    fun k => indexOf_ofNat (by decide) _
  unfold BankSettings.fields
  rw [chars, finRange_eight]
  simp only [List.cons_append, List.nil_append, bankSettingsOf, classes, unit, restUnitOf_iff.mpr rfl, policy,
    policyOf_iff.mpr rfl, number, toNat_ofNat_byte (n := e.stringsInUse) (by omega),
    toNat_ofNat_byte (n := e.positions) (by omega), Option.bind_eq_bind, Option.bind_some,
    controllerOf_iff.mpr ⟨rfl, controller⟩, ← vector_eight]
  exact if_pos ⟨strings, one, positions, first, deadline⟩

theorem fields_of_bankSettingsOf {l : List Byte} {e : BankSettings} (read : bankSettingsOf l = some e) :
    l = e.fields := by
  unfold bankSettingsOf at read
  split at read
  · simp only [Option.bind_eq_bind, Option.bind_eq_some_iff] at read
    obtain ⟨k0, at0, k1, at1, k2, at2, k3, at3, k4, at4, k5, at5, k6, at6, k7, at7, unit, isUnit, policy, isPolicy,
      read⟩ := read
    split at read
    · obtain rfl := Option.some.inj read
      simp only [BankSettings.fields, finRange_eight, ofNat_toNat_byte, readsCode restUnitOf_iff isUnit,
        readsCode policyOf_iff isPolicy, charsOf_numberOf, (controllerOf_iff.mp rfl).1]
      change _ = [_, _, BitVec.ofNat 8 k0.val, BitVec.ofNat 8 k1.val, BitVec.ofNat 8 k2.val, BitVec.ofNat 8 k3.val,
        BitVec.ofNat 8 k4.val, BitVec.ofNat 8 k5.val, BitVec.ofNat 8 k6.val, BitVec.ofNat 8 k7.val, _, _, _, _, _]
      rw [readsIndex at0, readsIndex at1, readsIndex at2, readsIndex at3, readsIndex at4, readsIndex at5,
        readsIndex at6, readsIndex at7]
    · cases read
  · cases read

/-! ## Grading rules (R66) -/

/-- The characters of a rule before its temperatures (R209). -/
def GradingRule.header (e : GradingRule) : List Byte :=
  BitVec.ofNat 8 (flagCode e.valid) :: charsOf 2 e.originMask.toNat ++
    [BitVec.ofNat 8 e.applicability.code, BitVec.ofNat 8 e.metric.code, BitVec.ofNat 8 e.mode.code] ++
    signedChars e.windowLow ++ signedChars e.windowHigh ++ [BitVec.ofNat 8 (flagCode e.qualifier.isSome)]

/-- The characters of a rule after its temperatures (R209). -/
def GradingRule.trailer (e : GradingRule) : List Byte :=
  [BitVec.ofNat 8 e.grade.rank, BitVec.ofNat 8 (e.confirm.getD 0)]

/-- The characters of the temperatures of a qualifier (R66). -/
def Qualifier.fields (q : Qualifier) : List Byte := signedChars q.low ++ signedChars q.high

theorem gradingRuleChars_absent {e : GradingRule} (absent : e.qualifier = none) :
    gradingRuleChars e = known (e.header ++ [0#8, 0#8, 0#8, 0#8] ++ e.trailer) := by
  unfold gradingRuleChars GradingRule.header
  rw [absent]
  rfl

theorem gradingRuleChars_present {e : GradingRule} {q : Qualifier} (present : e.qualifier = some q) :
    gradingRuleChars e = known (e.header ++ q.fields ++ e.trailer) := by
  unfold gradingRuleChars GradingRule.header
  rw [present]
  rfl

/-- A window end is read as the characters that spell it, by the mode (R66). -/
theorem windowOf_chars {mode : RuleMode} {z : Int} (absolute : mode = .absolute → 0 ≤ z ∧ z ≤ 65535)
    (relative : mode = .relative → -32768 ≤ z ∧ z ≤ 32767) : ∃ a b, signedChars z = [a, b] ∧ windowOf mode [a, b] = z := by
  cases mode with
  | absolute =>
    obtain ⟨low, high⟩ := absolute rfl
    obtain ⟨n, rfl⟩ := Int.eq_ofNat_of_zero_le low
    have fits : n ≤ 65535 := by omega
    obtain ⟨a, b, chars, number⟩ := charsOf_two fits
    exact ⟨a, b, (signedChars_natCast fits).trans chars, congrArg Int.ofNat number⟩
  | relative => exact signedChars_two (relative rfl).1 (relative rfl).2

theorem signedChars_windowOf (mode : RuleMode) (a b : Byte) : signedChars (windowOf mode [a, b]) = [a, b] := by
  cases mode with
  | absolute => exact (signedChars_natCast (LimitsKept.numberOf_two_le a b)).trans (charsOf_numberOf a b)
  | relative => exact signedChars_signedOf a b

/-- The temperatures of a qualifier as loaded: those of the qualifier, or any four characters without one (R66). -/
structure GradingRule.Temperatures (e : GradingRule) (l : List Byte) : Prop where
  four    : l.length = 4
  present : ∀ q, e.qualifier = some q → l = q.fields

theorem GradingRule.temperatures_read {e : GradingRule} (h : e.InRange) {l : List Byte} (temperatures : e.Temperatures l) :
    ∃ a b c d, l = [a, b, c, d] ∧
      qualifierOf e.qualifier.isSome (signedOf [a, b]) (signedOf [c, d]) = some e.qualifier := by
  cases qualifier : e.qualifier with
  | none =>
    obtain ⟨a, b, c, d, rfl⟩ := exists_of_length_four temperatures.four
    exact ⟨a, b, c, d, rfl, rfl⟩
  | some q =>
    obtain ⟨lowLeast, lowMost, highLeast, highMost⟩ := h.qualifier q qualifier
    obtain ⟨a, b, low, isLow⟩ := signedChars_two (z := q.low) (by omega) (by omega)
    obtain ⟨c, d, high, isHigh⟩ := signedChars_two (z := q.high) (by omega) (by omega)
    refine ⟨a, b, c, d, ?_, ?_⟩
    · rw [temperatures.present q qualifier, Qualifier.fields, low, high]
      rfl
    · rw [isLow, isHigh]
      exact (if_pos rfl).trans (if_pos ⟨lowLeast, lowMost, highLeast, highMost⟩)

theorem gradingRuleOf_fields {e : GradingRule} (h : e.InRange) {l : List Byte} (temperatures : e.Temperatures l) :
    gradingRuleOf (e.header ++ l ++ e.trailer) = some e := by
  obtain ⟨a, b, c, d, rfl, qualifier⟩ := GradingRule.temperatures_read h temperatures
  obtain ⟨m1, m0, maskChars, mask⟩ := charsOf_two (n := e.originMask.toNat) (Nat.le_of_lt_succ (BitVec.isLt _))
  obtain ⟨l1, l0, lowChars, low⟩ := windowOf_chars (mode := e.mode) (z := e.windowLow)
    (fun absolute => ⟨(h.absolute absolute).1, (h.absolute absolute).2.1⟩)
    fun relative => ⟨(h.relative relative).1, (h.relative relative).2.1⟩
  obtain ⟨h1, h0, highChars, high⟩ := windowOf_chars (mode := e.mode) (z := e.windowHigh)
    (fun absolute => (h.absolute absolute).2.2) fun relative => (h.relative relative).2.2
  have valid : (BitVec.ofNat 8 (flagCode e.valid)).toNat = flagCode e.valid := by cases e.valid <;> rfl
  have present : (BitVec.ofNat 8 (flagCode e.qualifier.isSome)).toNat = flagCode e.qualifier.isSome := by
    cases e.qualifier <;> rfl
  have applicability : (BitVec.ofNat 8 e.applicability.code).toNat = e.applicability.code := by
    cases e.applicability <;> rfl
  have mode : (BitVec.ofNat 8 e.mode.code).toNat = e.mode.code := by cases e.mode <;> rfl
  have few : e.confirm.getD 0 ≤ 255 := by
    cases confirm : e.confirm with
    | none => exact Nat.zero_le _
    | some k => exact (h.confirm k confirm).2.trans (by decide)
  unfold GradingRule.header GradingRule.trailer
  rw [maskChars, lowChars, highChars]
  simp only [List.cons_append, List.nil_append, gradingRuleOf, valid, flagOf_iff.mpr rfl, applicability,
    applicabilityOf_iff.mpr rfl, e.metric.toNat_code, metricOf_code, mode, ruleModeOf_iff.mpr rfl, present, qualifier,
    toNat_ofNat_byte e.grade.rank_le, gradeOf_iff.mpr rfl, toNat_ofNat_byte few, confirmOf_iff.mpr ⟨rfl, h.confirm⟩,
    mask, low, high, BitVec.ofNat_toNat, BitVec.setWidth_eq, Option.bind_eq_bind, Option.bind_some, Option.pure_def]

theorem qualifierOf_some {present : Bool} {a b c d : Byte} {x : Option Qualifier}
    (read : qualifierOf present (signedOf [a, b]) (signedOf [c, d]) = some x) :
    x.isSome = present ∧ ∀ q, x = some q → [a, b, c, d] = q.fields := by
  unfold qualifierOf at read
  split at read
  · next isPresent =>
    split at read
    · obtain rfl := Option.some.inj read
      refine ⟨isPresent.symm, fun q same => ?_⟩
      obtain rfl := Option.some.inj same
      unfold Qualifier.fields
      rw [signedChars_signedOf, signedChars_signedOf]
      rfl
    · cases read
  · next absent =>
    obtain rfl := Option.some.inj read
    exact ⟨(Bool.eq_false_iff.mpr absent).symm, fun q none => nomatch none⟩

theorem fields_of_gradingRuleOf {l : List Byte} {e : GradingRule} (read : gradingRuleOf l = some e) :
    ∃ temperatures, e.Temperatures temperatures ∧ l = e.header ++ temperatures ++ e.trailer := by
  unfold gradingRuleOf at read
  split at read
  · next v m1 m0 ap me mo l1 l0 h1 h0 qp ql1 ql0 qh1 qh0 g cc =>
    simp only [Option.bind_eq_bind, Option.bind_eq_some_iff, Option.pure_def, Option.some.injEq] at read
    obtain ⟨valid, isValid, applicability, isApplicability, metric, isMetric, mode, isMode, present, isPresent, qualifier,
      isQualifier, grade, isGrade, confirm, isConfirm, rfl⟩ := read
    obtain ⟨some, spelt⟩ := qualifierOf_some isQualifier
    have mask : (BitVec.ofNat 16 (numberOf [m1, m0])).toNat = numberOf [m1, m0] :=
      Nat.mod_eq_of_lt (Nat.lt_succ_of_le (LimitsKept.numberOf_two_le m1 m0))
    refine ⟨[ql1, ql0, qh1, qh0], ⟨rfl, spelt⟩, ?_⟩
    simp only [GradingRule.header, GradingRule.trailer, readsCode flagOf_iff isValid, mask, charsOf_numberOf,
      readsCode applicabilityOf_iff isApplicability, readsCode metricOf_iff isMetric, readsCode ruleModeOf_iff isMode,
      signedChars_windowOf, some, readsCode flagOf_iff isPresent, readsCode gradeOf_iff isGrade,
      (confirmOf_iff.mp isConfirm).1, ofNat_toNat_byte, List.cons_append, List.nil_append]
  · cases read

/-! ## Entries with their index (R190) -/

section Entry

variable {loaded fields : List Byte} {w : EntryWrite}

theorem entryWriteOf_orig (i : Fin 16) {e : OriginClass} (read : originClassOf fields = some e) :
    entryWriteOf .orig (BitVec.ofNat 8 i.val :: fields) = some (.orig i e) := by
  simp only [entryWriteOf, indexOf_ofNat (n := 16) (by decide), read, Option.bind_eq_bind, Option.bind_some]
  rfl

theorem entryWriteOf_rule (i : Fin 96) {e : GradingRule} (read : gradingRuleOf fields = some e) :
    entryWriteOf .rule (BitVec.ofNat 8 i.val :: fields) = some (.rule i e) := by
  simp only [entryWriteOf, indexOf_ofNat (n := 96) (by decide), read, Option.bind_eq_bind, Option.bind_some]
  rfl

theorem entryWriteOf_pcls (i : Fin 8) {e : PairingClass} (read : pairingClassOf fields = some e) :
    entryWriteOf .pcls (BitVec.ofNat 8 i.val :: fields) = some (.pcls i e) := by
  simp only [entryWriteOf, indexOf_ofNat (n := 8) (by decide), read, Option.bind_eq_bind, Option.bind_some]
  rfl

theorem entryWriteOf_stat (i : Fin 32) {e : Station} (read : stationOf fields = some e) :
    entryWriteOf .stat (BitVec.ofNat 8 i.val :: fields) = some (.stat i e) := by
  simp only [entryWriteOf, indexOf_ofNat (n := 32) (by decide), read, Option.bind_eq_bind, Option.bind_some]
  rfl

theorem entryWriteOf_bank {e : BankSettings} (read : bankSettingsOf fields = some e) :
    entryWriteOf .bank (0#8 :: fields) = some (.bank e) := by
  simp [entryWriteOf, read]

theorem entryWriteOf_cons {t : Table} (read : entryWriteOf t loaded = some w) : ∃ b fields, loaded = b :: fields := by
  cases loaded with
  | nil => cases read
  | cons b fields => exact ⟨b, fields, rfl⟩

theorem entryWriteOf_orig_some (read : entryWriteOf .orig loaded = some w) : ∃ i e fields,
    w = .orig i e ∧ originClassOf fields = some e ∧ loaded = BitVec.ofNat 8 i.val :: fields := by
  obtain ⟨b, fields, rfl⟩ := entryWriteOf_cons read
  simp only [entryWriteOf, Option.bind_eq_bind, Option.bind_eq_some_iff, Option.pure_def, Option.some.injEq] at read
  obtain ⟨i, index, e, entry, rfl⟩ := read
  exact ⟨i, e, fields, rfl, entry, by rw [readsIndex index]⟩

theorem entryWriteOf_rule_some (read : entryWriteOf .rule loaded = some w) : ∃ i e fields,
    w = .rule i e ∧ gradingRuleOf fields = some e ∧ loaded = BitVec.ofNat 8 i.val :: fields := by
  obtain ⟨b, fields, rfl⟩ := entryWriteOf_cons read
  simp only [entryWriteOf, Option.bind_eq_bind, Option.bind_eq_some_iff, Option.pure_def, Option.some.injEq] at read
  obtain ⟨i, index, e, entry, rfl⟩ := read
  exact ⟨i, e, fields, rfl, entry, by rw [readsIndex index]⟩

theorem entryWriteOf_pcls_some (read : entryWriteOf .pcls loaded = some w) : ∃ i e fields,
    w = .pcls i e ∧ pairingClassOf fields = some e ∧ loaded = BitVec.ofNat 8 i.val :: fields := by
  obtain ⟨b, fields, rfl⟩ := entryWriteOf_cons read
  simp only [entryWriteOf, Option.bind_eq_bind, Option.bind_eq_some_iff, Option.pure_def, Option.some.injEq] at read
  obtain ⟨i, index, e, entry, rfl⟩ := read
  exact ⟨i, e, fields, rfl, entry, by rw [readsIndex index]⟩

theorem entryWriteOf_stat_some (read : entryWriteOf .stat loaded = some w) : ∃ i e fields,
    w = .stat i e ∧ stationOf fields = some e ∧ loaded = BitVec.ofNat 8 i.val :: fields := by
  obtain ⟨b, fields, rfl⟩ := entryWriteOf_cons read
  simp only [entryWriteOf, Option.bind_eq_bind, Option.bind_eq_some_iff, Option.pure_def, Option.some.injEq] at read
  obtain ⟨i, index, e, entry, rfl⟩ := read
  exact ⟨i, e, fields, rfl, entry, by rw [readsIndex index]⟩

theorem entryWriteOf_bank_some (read : entryWriteOf .bank loaded = some w) : ∃ e fields,
    w = .bank e ∧ bankSettingsOf fields = some e ∧ loaded = 0#8 :: fields := by
  obtain ⟨b, fields, rfl⟩ := entryWriteOf_cons read
  simp only [entryWriteOf] at read
  split at read
  · next zero =>
    obtain ⟨e, entry, rfl⟩ := Option.map_eq_some_iff.mp read
    exact ⟨e, fields, rfl, entry, by rw [eq_ofNat_of_toNat zero]⟩
  · cases read

end Entry

theorem length_signedChars (z : Int) : (signedChars z).length = 2 := length_charsOf 2 _

theorem GradingRule.length_header (e : GradingRule) : e.header.length = 11 := by
  simp [GradingRule.header, length_signedChars]

/-- Settles O42, table by table: what is written is read, and what is read was so written. -/
theorem tableEntriesRoundTrip : Obligations.TableEntriesRoundTrip := by
  unfold Obligations.TableEntriesRoundTrip
  refine ⟨?_, ?_, ?_, ?_, ?_, fun loaded w => ⟨fun read => ?_, fun read => ?_, fun read => ?_, fun read => ?_,
    fun read => ?_⟩⟩
  · intro i e chars range spelt
    have fields : chars = e.fields := by
      rw [spelt, ← charsOf_eq_bigEndian]
      rfl
    rw [fields]
    exact ⟨entryWriteOf_orig i (originClassOf_fields range), originClassChars_eq e⟩
  · intro i e chars loaded temperatures before after range absent present beforeIs afterIs loadedIs charsIs
    have header : before = e.header := by
      rw [beforeIs, ← charsOf_eq_bigEndian, ← charsOf_eq_bigEndian, ← charsOf_eq_bigEndian]
      unfold GradingRule.header flagCode
      congr 1
      · congr 1
        · congr 1
          · congr 1
            · cases e.valid <;> rfl
            · congr 1
              · cases e.applicability <;> rfl
              · congr 1
                · cases e.metric <;> rfl
                · cases e.mode <;> rfl
      · cases e.qualifier <;> rfl
    have read : e.Temperatures temperatures := by
      cases qualifier : e.qualifier with
      | none => exact ⟨absent qualifier, fun q some => absurd (qualifier.symm.trans some) nofun⟩
      | some q =>
        have spelt : temperatures = q.fields := by
          rw [present q qualifier, ← charsOf_eq_bigEndian, ← charsOf_eq_bigEndian]
          rfl
        refine ⟨by rw [spelt]; rfl, fun q' some => ?_⟩
        obtain rfl := Option.some.inj (qualifier.symm.trans some)
        exact spelt
    have trailer : after = e.trailer := afterIs
    rw [loadedIs, charsIs, header, trailer]
    refine ⟨entryWriteOf_rule i (gradingRuleOf_fields range read), ?_⟩
    cases qualifier : e.qualifier with
    | none => rw [if_pos rfl, gradingRuleChars_absent qualifier]
    | some q => rw [if_neg nofun, gradingRuleChars_present qualifier, read.present q qualifier]
  · intro i e chars range spelt
    have fields : chars = e.fields := by
      rw [spelt, ← charsOf_eq_bigEndian, ← charsOf_eq_bigEndian]
      rfl
    rw [fields]
    exact ⟨entryWriteOf_pcls i (pairingClassOf_fields range), pairingClassChars_eq e⟩
  · intro i e chars range spelt
    have fields : chars = e.fields := by
      rw [spelt]
      unfold Station.fields flagCode
      congr 1
      · cases e.valid <;> rfl
      · congr 2
        cases e.role <;> rfl
    rw [fields]
    exact ⟨entryWriteOf_stat i (stationOf_fields range), stationChars_eq e⟩
  · intro e chars range spelt
    have fields : chars = e.fields := by
      rw [spelt, ← charsOf_eq_bigEndian]
      unfold BankSettings.fields
      congr 3
      congr 1
      · cases e.restUnit <;> rfl
      · cases e.policy <;> rfl
    rw [fields]
    exact ⟨entryWriteOf_bank (bankSettingsOf_fields range), bankSettingsChars_eq e⟩
  · obtain ⟨i, e, fields, rfl, entry, rfl⟩ := entryWriteOf_orig_some read
    exact ⟨i, e, fields, rfl, originClassOf_inRange entry, by rw [fields_of_originClassOf entry, originClassChars_eq], rfl⟩
  · obtain ⟨i, e, fields, rfl, entry, rfl⟩ := entryWriteOf_rule_some read
    obtain ⟨temperatures, spelt, rfl⟩ := fields_of_gradingRuleOf entry
    refine ⟨i, e, e.header, temperatures, e.trailer, rfl, gradingRuleOf_inRange entry, e.length_header, spelt.four, rfl, ?_⟩
    cases qualifier : e.qualifier with
    | none => rw [if_pos rfl, gradingRuleChars_absent qualifier]
    | some q => rw [if_neg nofun, gradingRuleChars_present qualifier, spelt.present q qualifier]
  · obtain ⟨i, e, fields, rfl, entry, rfl⟩ := entryWriteOf_pcls_some read
    exact ⟨i, e, fields, rfl, pairingClassOf_inRange entry, by rw [fields_of_pairingClassOf entry, pairingClassChars_eq],
      rfl⟩
  · obtain ⟨i, e, fields, rfl, entry, rfl⟩ := entryWriteOf_stat_some read
    exact ⟨i, e, fields, rfl, stationOf_inRange entry, by rw [fields_of_stationOf entry, stationChars_eq], rfl⟩
  · obtain ⟨e, fields, rfl, entry, rfl⟩ := entryWriteOf_bank_some read
    exact ⟨e, fields, rfl, bankSettingsOf_inRange entry, by rw [fields_of_bankSettingsOf entry, bankSettingsChars_eq], rfl⟩

end Sys2Proof.Machine
end

section
/-! SUPPORT. COMMIT, its safe point, and the effects of a commit taken (R191 to R194). -/

namespace Sys2Proof.Machine

/-! ## COMMIT -/

theorem State.selectionConditions_of_pending {s : State} (pending : s.mu.pendingCommit ≠ none) : ¬ s.selectionConditions :=
  fun ⟨_, _, free, _⟩ => pending free

theorem State.settleIfSafe_busy {s : State} (busy : s.ge.evaluation ≠ none ∨ s.pe.choice ≠ none) : s.settleIfSafe = s := by
  have unsafely : ¬ s.atSafePoint = true := fun safely => by
    obtain ⟨evaluation, choice⟩ := (Bool.and_eq_true _ _).mp safely
    exact busy.elim (· (Option.isNone_iff_eq_none.mp evaluation)) (· (Option.isNone_iff_eq_none.mp choice))
  unfold State.settleIfSafe
  split
  · exact if_neg unsafely
  · rfl

theorem State.settleIfSafe_safe {s : State} {mask : BitVec 5} (pending : s.mu.pendingCommit = some mask)
    (evaluation : s.ge.evaluation = none) (choice : s.pe.choice = none) : s.settleIfSafe = s.settleCommit mask := by
  have safely : s.atSafePoint = true := by
    unfold State.atSafePoint
    rw [evaluation, choice]
    rfl
  unfold State.settleIfSafe
  rw [pending]
  exact if_pos safely

section Commit

variable {s : State} {f : Frame} {rest : List Frame} {token m : Byte}

theorem exec_commit (ready : CommandReady s f rest 2#8 token [m]) :
    exec .commit s = .next (offerReply f (commitMask [m] (s.taken rest))) :=
  congrArg Host.Outcome.next (State.execute_ready ready .commit commitMask rfl rfl)

theorem commitMask_outOfRange (beyond : m.toNat = 0 ∨ 31 < m.toNat) : commitMask [m] s = answer s .outOfRange :=
  if_pos beyond

theorem commitMask_pending (within : ¬ (m.toNat = 0 ∨ 31 < m.toNat)) (pending : s.mu.pendingCommit ≠ none) :
    commitMask [m] s = answer s .state := by
  obtain ⟨mask, some⟩ := Option.ne_none_iff_exists'.mp pending
  unfold commitMask
  dsimp only
  rw [if_neg within, some]

theorem commitMask_accepted (within : ¬ (m.toNat = 0 ∨ 31 < m.toNat)) (free : s.mu.pendingCommit = none) :
    commitMask [m] s = { state := (s.setPendingCommit (some (m.setWidth 5))).settleIfSafe.selectIfDue
                         status := .accepted, data := known [m] } := by
  unfold commitMask
  dsimp only
  rw [if_neg within, free]

end Commit

/-! ## The effects, each taken or not (R194) -/

section Effects

variable (b : Bool) (s : State)

theorem ite_applyGeometry (old new : BankSettings) : (if b then s.applyGeometry old new else s) = { s with
    sm := if b then (s.applyGeometry old new).sm else s.sm
    pe := { s.pe with requests := s.pe.requests.filter fun q => !b || inUse new q.slot } } := by
  cases b with
  | true => rfl
  | false =>
    have all : (s.pe.requests.filter fun q => !false || inUse new q.slot) = s.pe.requests :=
      List.filter_eq_self.mpr fun _ _ => rfl
    rw [all]
    rfl

theorem ite_clearRuns : (if b then s.clearRuns else s) = { s with
    mr := { s.mr with records := if b then mapEntries ModuleRecord.runsCleared s.mr.records else s.mr.records } } := by
  cases b <;> rfl

theorem ite_rereadPriorities : (if b then s.rereadPriorities else s) = s.setRequests (s.pe.requests.map fun q =>
    { q with priority := if b then requestPriority (s.classOf q.slot.string) q.kind else q.priority }) := by
  cases b with
  | true => rfl
  | false => exact (congrArg s.setRequests (List.map_id s.pe.requests)).symm

theorem ite_wakeAll : (if b then s.wakeAll else s) = s.setRequests (s.pe.requests.map fun q =>
    { q with status := if b = true ∧ q.status = .waiting then .ready else q.status }) := by
  cases b with
  | true =>
    refine congrArg s.setRequests (List.map_congr_left fun q _ => ?_)
    rw [q.woken_eq]
    split
    · next waiting => rw [if_pos ⟨rfl, waiting⟩]
    · next other => rw [if_neg fun both => other both.2]
  | false => exact (congrArg s.setRequests (List.map_id s.pe.requests)).symm

end Effects

/-- The effects on registers, strings and requests, once the live fields are carried (R194, steps 2 to 5). -/
theorem State.commitEffects_eq (s c : State) (mask : BitVec 5) (old : Tables)
    (carried : (if names mask .stat then s.carryStations old.stat s.mu.active.stat else s) = c) :
    ∃ (records : Vector ModuleRecord 192) (strings : StringMap) (requests : List Request),
      records = (if names mask .rule then mapEntries ModuleRecord.runsCleared c.mr.records else c.mr.records) ∧
      strings = (if names mask .bank then (c.applyGeometry old.bank s.mu.active.bank).sm else c.sm) ∧
      requests = ((c.pe.requests.filter fun q => !names mask .bank || inUse s.mu.active.bank q.slot).map fun q =>
        { q with
          priority := if names mask .pcls || names mask .bank then
            requestPriority (c.mu.active.pcls.get (strings.strings.get q.slot.string).pairingClass) q.kind
            else q.priority
          status := if (names mask .pcls || names mask .bank || names mask .orig) = true ∧ q.status = .waiting
            then .ready else q.status }) ∧
      s.commitEffects mask old = { c with
        mr := { c.mr with records := records }, sm := strings, pe := { c.pe with requests := requests } } := by
  refine ⟨_, _, _, rfl, rfl, rfl, ?_⟩
  unfold State.commitEffects
  dsimp only
  rw [carried, ite_applyGeometry, ite_clearRuns, ite_rereadPriorities, ite_wakeAll]
  unfold State.setRequests
  dsimp only
  rw [List.map_map]
  rfl

theorem State.settleCommit_refused {s : State} {mask : BitVec 5} {x : CommitFailure} (failure : s.validate mask = some x) :
    s.settleCommit mask = { s with mu := { s.mu with
      pendingCommit := none, notices := raiseIn (.commitRefused x) s.mu.notices } } := by
  unfold State.settleCommit
  rw [failure]
  rfl

theorem State.settleCommit_taken {s : State} {mask : BitVec 5} (passes : s.validate mask = none) :
    s.settleCommit mask = (s.setPendingCommit none).takeCommit mask := by
  unfold State.settleCommit
  rw [passes]

/-- A string once the geometry is applied, or as it was (R109). -/
theorem applyGeometry_string (b : Bool) (c : State) (old new : BankSettings) (k : Fin 8) :
    (if b then (c.applyGeometry old new).sm else c.sm).strings.get k =
      if b then { c.string k with pairingClass := new.classes.get k } else c.string k := by
  cases b with
  | true => exact get_tabulate _ k
  | false => rfl

/-- A slot once the geometry is applied, or as it was when the geometry stays (R109). -/
theorem applyGeometry_slot {b : Bool} {c : State} {old new : BankSettings} (same : b = false → new = old) (p : SlotId) :
    ((if b then (c.applyGeometry old new).sm else c.sm).slots.get p.string).get p.position =
      if inUse new p = true ∧ inUse old p = false then .unknown else c.slot p := by
  cases b with
  | true =>
    have slot : ((c.applyGeometry old new).sm.slots.get p.string).get p.position =
        if inUse new p && !inUse old p then .unknown else c.slot p :=
      (congrArg (fun v : Vector SlotRecord 16 => v.get p.position) (get_tabulate _ p.string)).trans (get_tabulate _ _)
    rw [if_pos rfl, slot]
    simp only [Bool.and_eq_true, Bool.not_eq_true']
  | false =>
    have never : ¬ (inUse old p = true ∧ inUse old p = false) := fun ⟨used, idle⟩ => absurd (used.symm.trans idle) nofun
    rw [same rfl, if_neg never]
    rfl

/-- Settles O43: the command, the safe point, and the commit settled. -/
theorem commitSettles : Obligations.CommitSettles := by
  unfold Obligations.CommitSettles
  refine ⟨fun s f rest token m ready => ⟨fun beyond => ?_, fun least most => ?_⟩,
    fun s mask pending => ⟨fun busy => ?_, fun evaluation choice => ?_⟩,
    fun s mask => ⟨fun x failure => State.settleCommit_refused failure, ?_⟩⟩
  · rw [exec_commit ready, commitMask_outOfRange beyond]
    exact congrArg Host.Outcome.next (offerReply_answer ready.body (s.taken rest) .outOfRange)
  · have within : ¬ (m.toNat = 0 ∨ 31 < m.toNat) := by omega
    refine ⟨fun pending => ?_, fun free busy => ?_, fun free evaluation choice => ?_⟩
    · rw [exec_commit ready, commitMask_pending within (by exact pending)]
      exact congrArg Host.Outcome.next (offerReply_answer ready.body (s.taken rest) .state)
    · rw [exec_commit ready, commitMask_accepted within (by exact free), State.settleIfSafe_busy (by exact busy),
        State.selectIfDue_not_due (State.selectionConditions_of_pending (Option.some_ne_none _))]
      exact congrArg Host.Outcome.next (offerReply_known ready.body _ .accepted [m])
    · rw [exec_commit ready, commitMask_accepted within (by exact free),
        State.settleIfSafe_safe rfl (by exact evaluation) (by exact choice)]
      exact congrArg Host.Outcome.next (offerReply_known ready.body _ .accepted [m])
  · have waits : s.mu.pendingCommit ≠ none := by
      rw [pending]
      nofun
    change Host.Outcome.next _ = _
    rw [State.settleIfSafe_busy busy, State.selectIfDue_not_due (State.selectionConditions_of_pending waits)]
  · change Host.Outcome.next _ = _
    rw [State.settleIfSafe_safe pending evaluation choice]
  · rintro new u c passes newIs uIs cIs
    have merged : mergedTables mask s.mu.active s.mu.shadow = new := newIs.symm
    have active : (s.setPendingCommit none).setActive new = u := uIs.symm
    have carried : (if names mask .stat then u.carryStations s.mu.active.stat u.mu.active.stat else u) = c := by
      rw [cIs, uIs]
      rfl
    have mu : c.mu = u.mu := by
      rw [cIs]
      split <;> simp
    have sm : c.sm = s.sm := by
      rw [cIs, uIs]
      split <;> simp
    have bank : mask.getLsbD 4 = false → new.bank = s.mu.active.bank := by
      intro kept
      rw [newIs, kept]
      rfl
    obtain ⟨records, strings, requests, recordsAre, stringsAre, requestsAre, effects⟩ := State.commitEffects_eq u c mask s.mu.active carried
    have settled : s.settleCommit mask = (u.commitEffects mask s.mu.active).raise (.commitTaken mask) := by
      rw [State.settleCommit_taken passes, ← active, ← merged]
      rfl
    have uActive : u.mu.active = new := by rw [uIs]
    have string : ∀ k, c.string k = s.string k := fun k => by rw [State.string, sm, ← State.string]
    have slot : ∀ p, c.slot p = s.slot p := fun p => by rw [State.slot, sm, ← State.slot]
    refine ⟨records, strings, requests, ?_, fun i => ?_, fun k => ?_, fun p => ?_, ?_⟩
    · rw [settled, effects]
      unfold State.raise
      dsimp only
      rw [mu, uIs]
    · rw [recordsAre]
      unfold names
      cases rule : mask.getLsbD Table.rule.code with
      | true =>
        rw [if_pos rfl, get_mapEntries]
        exact (if_pos rule).symm
      | false => exact (if_neg (Bool.eq_false_iff.mp rule)).symm
    · rw [stringsAre, applyGeometry_string, string, uActive]
      rfl
    · rw [stringsAre, applyGeometry_slot (by rw [uActive]; exact bank), slot, uActive]
    · rw [requestsAre, mu, uActive]
      refine List.map_congr_left fun q _ => ?_
      have wakes : (names mask .pcls || names mask .bank || names mask .orig) =
          (mask.getLsbD 0 || mask.getLsbD 2 || mask.getLsbD 4) := by
        rw [Bool.or_comm, ← Bool.or_assoc]
        rfl
      rw [wakes]
      cases q.kind <;> rfl

end Sys2Proof.Machine
end

section
/-! SUPPORT. The validation of a commit, in the order of its checks (R19, R67, R108, R193). -/

namespace Sys2Proof.Machine

/-! ## The first of a list that a check meets -/

section First

variable {α β : Type} {R : α → α → Prop} {l : List α} {a : α}

/-- An element of a sorted list with those before it and those after it. -/
theorem exists_split_of_sorted (sorted : l.Pairwise R) (mem : a ∈ l) :
    ∃ before after, l = before ++ a :: after ∧ ∀ x ∈ before, R x a := by
  obtain ⟨before, after, rfl⟩ := List.append_of_mem mem
  exact ⟨before, after, rfl, fun x listed => (List.pairwise_append.mp sorted).2.2 x listed a List.mem_cons_self⟩

theorem find?_first {p : α → Bool} (sorted : l.Pairwise R) (mem : a ∈ l) (here : p a = true)
    (earlier : ∀ x, R x a → p x = false) : l.find? p = some a := by
  obtain ⟨before, after, rfl, less⟩ := exists_split_of_sorted sorted mem
  refine List.find?_eq_some_iff_append.mpr ⟨here, before, after, rfl, fun x listed => ?_⟩
  rw [earlier x (less x listed)]
  rfl

theorem findSome?_first {f : α → Option β} {b : β} (sorted : l.Pairwise R) (mem : a ∈ l) (here : f a = some b)
    (earlier : ∀ x, R x a → f x = none) : l.findSome? f = some b := by
  obtain ⟨before, after, rfl, less⟩ := exists_split_of_sorted sorted mem
  have none : before.findSome? f = Option.none := List.findSome?_eq_none_iff.mpr fun x listed => earlier x (less x listed)
  rw [List.findSome?_append, none, Option.none_or]
  exact List.findSome?_cons_of_isSome (by rw [here]; rfl) |>.trans here

end First

/-! ## Geometry (R108) -/

/-- The order of the slots, by string and then by position (R108). -/
def SlotId.Before (q p : SlotId) : Prop :=
  q.string.val < p.string.val ∨ q.string = p.string ∧ q.position.val < p.position.val

theorem allSlots_sorted : allSlots.Pairwise SlotId.Before := by
  refine List.pairwise_flatMap.mpr ⟨fun k _ => ?_, ?_⟩
  · exact List.pairwise_map.mpr ((List.pairwise_lt_finRange 16).imp fun less => .inr ⟨rfl, less⟩)
  · refine (List.pairwise_lt_finRange 8).imp fun less p first q second => .inl ?_
    obtain ⟨_, -, rfl⟩ := List.mem_map.mp first
    obtain ⟨_, -, rfl⟩ := List.mem_map.mp second
    exact less

theorem holdsSomething_iff {x : SlotRecord} :
    holdsSomething x = true ↔ (∃ m, x = .occupied m) ∨ ∃ o m, x = .reserved o m := by
  cases x <;> simp [holdsSomething]

section Geometry

variable {s : State} {new : BankSettings} {dropped : SlotId → Prop}

theorem State.geometryFailure_at
    (droppedIs : ∀ p, dropped p ↔ (s.slotInUse p && !inUse new p && holdsSomething (s.slot p)) = true) {p : SlotId}
    (here : dropped p) (earlier : ∀ q : SlotId, q.Before p → ¬ dropped q) :
    s.geometryFailure new = some (.geometryReduction p) := by
  have found := find?_first allSlots_sorted (mem_allSlots p) ((droppedIs p).mp here)
    fun q before => Bool.eq_false_iff.mpr fun hit => earlier q before ((droppedIs q).mpr hit)
  exact congrArg (Option.map CommitFailure.geometryReduction) found

theorem State.geometryFailure_none
    (droppedIs : ∀ p, dropped p ↔ (s.slotInUse p && !inUse new p && holdsSomething (s.slot p)) = true)
    (absent : ∀ p, ¬ dropped p) : s.geometryFailure new = none :=
  congrArg (Option.map CommitFailure.geometryReduction)
    (List.find?_eq_none.mpr fun p _ hit => absent p ((droppedIs p).mpr hit))

end Geometry

/-! ## Stations (R19) -/

theorem any_lowerEntries {t : Vector Station 32} {i : Fin 32} {p : Station → Bool} :
    (lowerEntries t i).any p = true ↔ ∃ j, j.val < i.val ∧ p (t.get j) = true := by
  unfold lowerEntries
  rw [List.any_eq_true]
  constructor
  · rintro ⟨x, mem, hit⟩
    obtain ⟨k, bound, rfl⟩ := List.mem_take_iff_getElem.mp mem
    have inside : k < 32 := by omega
    exact ⟨⟨k, inside⟩, (Nat.lt_min.mp bound).1, by simpa [Vector.get] using hit⟩
  · rintro ⟨j, less, hit⟩
    refine ⟨t.get j, List.mem_take_iff_getElem.mpr ⟨j.val, by simp [less], by simp [Vector.get]⟩, hit⟩

/-- An entry covers a slot of a string (R19). -/
def Station.CoversSlot (e : Station) (k : Fin 8) (n : Nat) : Prop :=
  e.valid = true ∧ e.role = .bank ∧ e.string = k ∧ e.basePosition.val ≤ n ∧ n < e.basePosition.val + e.channelCount

theorem Station.overlaps_iff {x y : Station} : (x.isBank && (y.isBank && x.overlaps y)) = true ↔
    ∃ k n, x.CoversSlot k n ∧ y.CoversSlot k n := by
  simp only [Bool.and_eq_true, Station.isBank, Station.overlaps, Station.covers, List.any_eq_true, List.mem_range,
    decide_eq_true_eq, Station.CoversSlot]
  constructor
  · rintro ⟨⟨validx, bankx⟩, ⟨validy, banky⟩, c, less, ⟨string, base⟩, last⟩
    exact ⟨x.string, _, ⟨validx, bankx, rfl, Nat.le_add_right _ c, Nat.add_lt_add_left less _⟩, validy, banky, string, base,
      last⟩
  · rintro ⟨k, n, ⟨validx, bankx, stringx, least, most⟩, validy, banky, stringy, base, last⟩
    have place : x.basePosition.val + (n - x.basePosition.val) = n := Nat.add_sub_cancel' least
    refine ⟨⟨validx, bankx⟩, ⟨validy, banky⟩, n - x.basePosition.val, by omega, ⟨stringy.trans stringx.symm, ?_⟩, ?_⟩
    · rwa [place]
    · rwa [place]

section Stations

variable {t : Vector Station 32} {new : BankSettings} {duplicate range overlap : Fin 32 → Prop}

/-- The three conditions of R19, each as the part tests it. -/
structure StationChecks (t : Vector Station 32) (new : BankSettings) (duplicate range overlap : Fin 32 → Prop) : Prop where
  duplicate : ∀ i, duplicate i ↔ (t.get i).valid = true ∧ ((lowerEntries t i).any fun x =>
    x.valid && decide (x.address = (t.get i).address)) = true
  range     : ∀ i, range i ↔ ((t.get i).isBank && (decide (new.stringsInUse ≤ (t.get i).string.val) ||
    decide (new.positions < (t.get i).basePosition.val + (t.get i).channelCount))) = true
  overlap   : ∀ i, overlap i ↔
    ((t.get i).isBank && (lowerEntries t i).any fun x => x.isBank && (t.get i).overlaps x) = true

theorem Station.valid_of_isBank {e : Station} {b : Bool} (both : (e.isBank && b) = true) : e.valid = true :=
  ((Bool.and_eq_true _ _).mp ((Bool.and_eq_true _ _).mp both).1).1

theorem stationFailure_eq (checks : StationChecks t new duplicate range overlap) (i : Fin 32) :
    (duplicate i → stationFailure t new i = some (.duplicateAddress i)) ∧
    (¬ duplicate i → range i → stationFailure t new i = some (.slotRange i)) ∧
    (¬ duplicate i → ¬ range i → overlap i → stationFailure t new i = some (.slotOverlap i)) ∧
    (¬ duplicate i → ¬ range i → ¬ overlap i → stationFailure t new i = none) := by
  have invalid : (t.get i).valid = true → ¬ (!(t.get i).valid) = true := fun valid => by rw [valid]; nofun
  unfold stationFailure
  dsimp only
  refine ⟨fun same => ?_, fun apart out => ?_, fun apart inside twice => ?_, fun apart inside once => ?_⟩
  · obtain ⟨valid, shared⟩ := (checks.duplicate i).mp same
    rw [if_neg (invalid valid), if_pos shared]
  · have hit := (checks.range i).mp out
    have valid := Station.valid_of_isBank hit
    rw [if_neg (invalid valid), if_neg fun shared => apart ((checks.duplicate i).mpr ⟨valid, shared⟩), if_pos hit]
  · have hit := (checks.overlap i).mp twice
    have valid := Station.valid_of_isBank hit
    rw [if_neg (invalid valid), if_neg fun shared => apart ((checks.duplicate i).mpr ⟨valid, shared⟩),
      if_neg fun out => inside ((checks.range i).mpr out), if_pos hit]
  · split
    · rfl
    · next valid =>
      have valid : (t.get i).valid = true := by simpa using valid
      rw [if_neg fun shared => apart ((checks.duplicate i).mpr ⟨valid, shared⟩),
        if_neg fun out => inside ((checks.range i).mpr out), if_neg fun hit => once ((checks.overlap i).mpr hit)]

theorem stationFailure_none (checks : StationChecks t new duplicate range overlap) {j : Fin 32}
    (pass : ¬ duplicate j ∧ ¬ range j ∧ ¬ overlap j) : stationFailure t new j = none := by
  obtain ⟨single, inside, once⟩ := pass
  obtain ⟨-, -, -, none⟩ := stationFailure_eq checks j
  exact none single inside once

theorem stationsFailure_at {i : Fin 32} {x : CommitFailure} (here : stationFailure t new i = some x)
    (earlier : ∀ j : Fin 32, j.val < i.val → stationFailure t new j = none) : stationsFailure t new = some x :=
  findSome?_first (List.pairwise_lt_finRange 32) (List.mem_finRange i) here earlier

theorem stationsFailure_none (pass : ∀ j, stationFailure t new j = none) : stationsFailure t new = none :=
  List.findSome?_eq_none_iff.mpr fun j _ => pass j

end Stations

/-! ## Rules (R67) -/

section Rules

variable {t : Vector GradingRule 96} {metric window temperature : Fin 96 → Prop}

/-- The three conditions of R67. -/
structure RuleChecks (t : Vector GradingRule 96) (metric window temperature : Fin 96 → Prop) : Prop where
  metric      : ∀ i, metric i ↔ (t.get i).valid = true ∧ (t.get i).mode = .relative ∧
    ((t.get i).metric = .drift ∨ (t.get i).metric = .heat)
  window      : ∀ i, window i ↔ (t.get i).valid = true ∧ (t.get i).windowHigh < (t.get i).windowLow
  temperature : ∀ i, temperature i ↔ (t.get i).valid = true ∧ ∃ q, (t.get i).qualifier = some q ∧ q.high < q.low

theorem ruleFailure_eq (checks : RuleChecks t metric window temperature) (i : Fin 96) :
    (metric i → ruleFailure t i = some (.relativeMetric i)) ∧
    (¬ metric i → window i → ruleFailure t i = some (.windowOrder i)) ∧
    (¬ metric i → ¬ window i → temperature i → ruleFailure t i = some (.temperatureOrder i)) ∧
    (¬ metric i → ¬ window i → ¬ temperature i → ruleFailure t i = none) := by
  have invalid : (t.get i).valid = true → ¬ (!(t.get i).valid) = true := fun valid => by rw [valid]; nofun
  unfold ruleFailure
  dsimp only
  refine ⟨fun bad => ?_, fun good bad => ?_, fun good ordered bad => ?_, fun good ordered warm => ?_⟩
  · obtain ⟨valid, both⟩ := (checks.metric i).mp bad
    rw [if_neg (invalid valid), if_pos both]
  · obtain ⟨valid, less⟩ := (checks.window i).mp bad
    rw [if_neg (invalid valid), if_neg fun both => good ((checks.metric i).mpr ⟨valid, both⟩), if_pos less]
  · obtain ⟨valid, q, qualifier, less⟩ := (checks.temperature i).mp bad
    rw [if_neg (invalid valid), if_neg fun both => good ((checks.metric i).mpr ⟨valid, both⟩),
      if_neg fun less => ordered ((checks.window i).mpr ⟨valid, less⟩), qualifier]
    exact if_pos less
  · split
    · rfl
    · next valid =>
      have valid : (t.get i).valid = true := by simpa using valid
      rw [if_neg fun both => good ((checks.metric i).mpr ⟨valid, both⟩),
        if_neg fun less => ordered ((checks.window i).mpr ⟨valid, less⟩)]
      split
      · next q qualifier => exact if_neg fun less => warm ((checks.temperature i).mpr ⟨valid, q, qualifier, less⟩)
      · rfl

theorem ruleFailure_none (checks : RuleChecks t metric window temperature) {j : Fin 96}
    (pass : ¬ metric j ∧ ¬ window j ∧ ¬ temperature j) : ruleFailure t j = none := by
  obtain ⟨absolute, ordered, cool⟩ := pass
  obtain ⟨-, -, -, none⟩ := ruleFailure_eq checks j
  exact none absolute ordered cool

theorem rulesFailure_at {i : Fin 96} {x : CommitFailure} (here : ruleFailure t i = some x)
    (earlier : ∀ j : Fin 96, j.val < i.val → ruleFailure t j = none) : rulesFailure t = some x :=
  findSome?_first (List.pairwise_lt_finRange 96) (List.mem_finRange i) here earlier

theorem rulesFailure_none (pass : ∀ j, ruleFailure t j = none) : rulesFailure t = none :=
  List.findSome?_eq_none_iff.mpr fun j _ => pass j

end Rules

/-! ## The three in order (R193) -/

section Validate

variable {s : State} {mask : BitVec 5} {x : CommitFailure}

theorem State.validate_geometry (named : names mask .bank = true)
    (failure : s.geometryFailure (mergedTables mask s.mu.active s.mu.shadow).bank = some x) : s.validate mask = some x := by
  unfold State.validate
  dsimp only
  rw [if_pos named, failure]
  rfl

theorem State.validate_stations
    (geometry : names mask .bank = true → s.geometryFailure (mergedTables mask s.mu.active s.mu.shadow).bank = none)
    (named : (names mask .stat || names mask .bank) = true)
    (failure : stationsFailure (mergedTables mask s.mu.active s.mu.shadow).stat
      (mergedTables mask s.mu.active s.mu.shadow).bank = some x) : s.validate mask = some x := by
  unfold State.validate
  dsimp only
  rw [ite_eq_right_iff.mpr geometry, if_pos named, failure]
  rfl

theorem State.validate_rules
    (geometry : names mask .bank = true → s.geometryFailure (mergedTables mask s.mu.active s.mu.shadow).bank = none)
    (stations : (names mask .stat || names mask .bank) = true →
      stationsFailure (mergedTables mask s.mu.active s.mu.shadow).stat
        (mergedTables mask s.mu.active s.mu.shadow).bank = none) :
    s.validate mask = if names mask .rule then rulesFailure (mergedTables mask s.mu.active s.mu.shadow).rule else none := by
  unfold State.validate
  dsimp only
  rw [ite_eq_right_iff.mpr geometry, ite_eq_right_iff.mpr stations]
  rfl

end Validate

/-- Settles O44: each check reports its first failure when those before it pass. -/
theorem commitValidation : Obligations.CommitValidation := by
  unfold Obligations.CommitValidation
  intro s mask old new stations rules dropped covers duplicate range overlap metric window temperature oldIs newIs
    stationsAre rulesAre droppedIs coversIs duplicateIs rangeIs overlapIs metricIs windowIs temperatureIs
  have bank : (mergedTables mask s.mu.active s.mu.shadow).bank = new := by rw [newIs, oldIs]; rfl
  have stat : (mergedTables mask s.mu.active s.mu.shadow).stat = stations := stationsAre.symm
  have rule : (mergedTables mask s.mu.active s.mu.shadow).rule = rules := rulesAre.symm
  have drops : ∀ p, dropped p ↔ (s.slotInUse p && !inUse new p && holdsSomething (s.slot p)) = true := by
    intro p
    rw [droppedIs, oldIs]
    simp only [State.slotInUse, inUse, Bool.and_eq_true, Bool.not_eq_true', ← Bool.not_eq_true, decide_eq_true_eq,
      holdsSomething_iff, and_assoc]
  have stationChecks : StationChecks stations new duplicate range overlap := by
    refine ⟨fun i => ?_, fun i => ?_, fun i => ?_⟩
    · simp only [duplicateIs, any_lowerEntries, Bool.and_eq_true, decide_eq_true_eq]
    · simp only [rangeIs, Station.isBank, Bool.and_eq_true, Bool.or_eq_true, decide_eq_true_eq, and_assoc]
    · rw [overlapIs, Bool.and_eq_true, any_lowerEntries]
      constructor
      · rintro ⟨k, n, j, less, here, there⟩
        obtain ⟨isBank, both⟩ := (Bool.and_eq_true _ _).mp
          (Station.overlaps_iff.mpr ⟨k, n, (coversIs i k n).mp here, (coversIs j k n).mp there⟩)
        exact ⟨isBank, j, less, both⟩
      · rintro ⟨isBank, j, less, both⟩
        obtain ⟨k, n, here, there⟩ := Station.overlaps_iff.mp ((Bool.and_eq_true _ _).mpr ⟨isBank, both⟩)
        exact ⟨k, n, j, less, (coversIs i k n).mpr here, (coversIs j k n).mpr there⟩
  have ruleChecks : RuleChecks rules metric window temperature := ⟨metricIs, windowIs, temperatureIs⟩
  refine ⟨fun p named here earlier => ?_, fun geometry => ?_⟩
  · exact State.validate_geometry named (by rw [bank]; exact State.geometryFailure_at drops here earlier)
  have fits : names mask .bank = true → s.geometryFailure (mergedTables mask s.mu.active s.mu.shadow).bank = none := by
    intro named
    rw [bank]
    exact State.geometryFailure_none drops (geometry named)
  refine ⟨fun i named earlier => ?_, fun pass => ?_⟩
  · have names : (names mask .stat || names mask .bank) = true := (Bool.or_eq_true _ _).mpr named
    have pass : ∀ j : Fin 32, j.val < i.val → stationFailure stations new j = none := fun j less =>
      stationFailure_none stationChecks (earlier j less)
    have reports : ∀ x, stationFailure stations new i = some x → s.validate mask = some x := fun x here =>
      State.validate_stations fits names (by rw [stat, bank]; exact stationsFailure_at here pass)
    obtain ⟨same, out, twice, -⟩ := stationFailure_eq stationChecks i
    exact ⟨fun bad => reports _ (same bad), fun good bad => reports _ (out good bad),
      fun good inside bad => reports _ (twice good inside bad)⟩
  · have apart : (names mask .stat || names mask .bank) = true → stationsFailure
        (mergedTables mask s.mu.active s.mu.shadow).stat (mergedTables mask s.mu.active s.mu.shadow).bank = none := by
      intro named
      rw [stat, bank]
      exact stationsFailure_none fun j => stationFailure_none stationChecks (pass ((Bool.or_eq_true _ _).mp named) j)
    have validated := State.validate_rules fits apart
    rw [rule] at validated
    refine ⟨fun i named earlier => ?_, fun pass => ?_⟩
    · have ordered : ∀ j : Fin 96, j.val < i.val → ruleFailure rules j = none := fun j less =>
        ruleFailure_none ruleChecks (earlier j less)
      have reports : ∀ x, ruleFailure rules i = some x → s.validate mask = some x := fun x here =>
        validated.trans ((if_pos named).trans (rulesFailure_at here ordered))
      obtain ⟨relative, high, warm, -⟩ := ruleFailure_eq ruleChecks i
      exact ⟨fun bad => reports _ (relative bad), fun good bad => reports _ (high good bad),
        fun good ordered bad => reports _ (warm good ordered bad)⟩
    · exact validated.trans (ite_eq_right_iff.mpr fun named => rulesFailure_none fun j =>
        ruleFailure_none ruleChecks (pass named j))

end Sys2Proof.Machine
end

section
/-! SUPPORT. What a Station Table commit carries (R31, R32, R53). -/

namespace Sys2Proof.Machine

/-! ## Live fields by address (R31) -/

theorem Station.sameAs_iff {x y : Station} : x.sameAs y = true ↔
    x.role = y.role ∧ x.string = y.string ∧ x.basePosition = y.basePosition ∧ x.channelCount = y.channelCount := by
  simp only [Station.sameAs, Bool.and_eq_true, decide_eq_true_eq, and_assoc]

theorem keepsBay_iff {x y : Station} {c : Fin 4} : keepsBay x y c = true ↔
    x.sameAs y = true ∨ x.role = .testBay ∧ y.role = .testBay ∧ c.val < y.channelCount := by
  simp only [keepsBay, Bool.or_eq_true, Bool.and_eq_true, decide_eq_true_eq, and_assoc]

/-- What leaves the Intake Unit as it was at every step leaves it so over a list. -/
theorem foldl_iu {α : Type} {f : State → α → State} (same : ∀ u x, (f u x).iu = u.iu) (l : List α) (u : State) :
    (l.foldl f u).iu = u.iu := by
  induction l generalizing u with
  | nil => rfl
  | cons x l ih => exact (ih _).trans (same u x)

/-- The state with its live fields carried and its queued records re-pointed, before any claim (R31, R32). -/
def State.restationed (s : State) (old new : Vector Station 32) : State :=
  { s with iu := { s.iu with
    live := mapEntries (carriedLive old s.iu.live) new
    intakeQueue := s.iu.intakeQueue.map fun r => { r with station := carriedIndex old new r.station } } }

theorem State.carryStations_eq (s : State) (old new : Vector Station 32) : s.carryStations old new =
    (departing old new s.iu.live).foldl State.departModule
      ((movedOccupants old new s.iu.live).foldl State.moveOccupant (s.restationed old new)) := rfl

theorem State.carryStations_iu (s : State) (old new : Vector Station 32) :
    (s.carryStations old new).iu = (s.restationed old new).iu := by
  rw [State.carryStations_eq, foldl_iu (f := State.departModule) (by simp),
    foldl_iu (f := State.moveOccupant) (by simp [State.moveOccupant])]

theorem State.carryStations_live (s : State) (old new : Vector Station 32) (i : Fin 32) :
    (s.carryStations old new).live i = carriedLive old s.iu.live (new.get i) := by
  rw [State.live, s.carryStations_iu]
  exact get_mapEntries _ _ _

section Carried

variable {old new : Vector Station 32} {live : Vector StationLive 32} {i j : Fin 32}

theorem carriedLive_fresh (fresh : (new.get i).valid = false ∨
    ∀ j, (old.get j).valid = true → (old.get j).address ≠ (new.get i).address) :
    carriedLive old live (new.get i) = .cleared := by
  unfold carriedLive
  rcases fresh with invalid | unknown
  · rw [invalid]
    exact if_neg Bool.false_ne_true
  · rw [findStation_none unknown]
    split <;> rfl

theorem carriedLive_of (apart : StationsApart old) (validNew : (new.get i).valid = true)
    (validOld : (old.get j).valid = true) (address : (old.get j).address = (new.get i).address) :
    carriedLive old live (new.get i) =
      { lastSequence := if (old.get j).sameAs (new.get i) then (live.get j).lastSequence else none
        lostCount := (live.get j).lostCount
        bays := tabulate fun c => if keepsBay (old.get j) (new.get i) c then (live.get j).bays.get c else none } := by
  have found : findStation old (new.get i).address = some j := by
    rw [← address]
    exact findStation_of_apart apart validOld
  unfold carriedLive
  rw [if_pos validNew, found]

theorem tabulate_get {α : Type} {n : Nat} (v : Vector α n) : tabulate (fun c => v.get c) = v :=
  Vector.ext fun k bound => get_tabulate (fun c => v.get c) ⟨k, bound⟩

theorem carriedLive_same (apart : StationsApart old) (validNew : (new.get i).valid = true)
    (validOld : (old.get j).valid = true) (address : (old.get j).address = (new.get i).address)
    (same : (old.get j).sameAs (new.get i) = true) : carriedLive old live (new.get i) = live.get j := by
  have keeps : ∀ c, keepsBay (old.get j) (new.get i) c = true := fun c => keepsBay_iff.mpr (.inl same)
  rw [carriedLive_of apart validNew validOld address]
  simp only [same, keeps, if_true, tabulate_get]

theorem carriedIndex_same (apart : StationsApart new) (validNew : (new.get i).valid = true)
    (address : (new.get i).address = (old.get j).address) (same : (old.get j).sameAs (new.get i) = true) :
    carriedIndex old new (some j) = some i := by
  have found : findStation new (old.get j).address = some i := by
    rw [← address]
    exact findStation_of_apart apart validNew
  unfold carriedIndex
  dsimp only
  rw [found]
  exact if_pos same

theorem carriedIndex_other (other : ∀ i, (new.get i).valid = true → (new.get i).address = (old.get j).address →
    ¬ (old.get j).sameAs (new.get i) = true) : carriedIndex old new (some j) = none := by
  unfold carriedIndex
  dsimp only
  split
  · next i found =>
    obtain ⟨valid, address⟩ := findStation_some found
    exact if_neg (other i valid address)
  · rfl

/-- The new entry that keeps a bay (R31). -/
theorem keptAt_iff (apart : StationsApart new) {c : Fin 4} : keptAt old new j c = some i ↔
    (old.get j).valid = true ∧ (new.get i).valid = true ∧ (old.get j).address = (new.get i).address ∧
      keepsBay (old.get j) (new.get i) c = true := by
  constructor
  · intro kept
    unfold keptAt at kept
    split at kept
    · next valid =>
      split at kept
      · next k found =>
        split at kept
        · next keeps =>
          obtain rfl := Option.some.inj kept
          obtain ⟨validNew, address⟩ := findStation_some found
          exact ⟨valid, validNew, address.symm, keeps⟩
        · cases kept
      · cases kept
    · cases kept
  · rintro ⟨valid, validNew, address, keeps⟩
    unfold keptAt
    rw [if_pos valid, address, findStation_of_apart apart validNew]
    exact if_pos keeps

end Carried

/-! ## Occupants moved and departed (R31, R53) -/

theorem mem_movedOccupants {old new : Vector Station 32} {live : Vector StationLive 32} {x : ModuleRef × Bay} :
    x ∈ movedOccupants old new live ↔ ∃ j, keptAt old new j x.2.channel = some x.2.entry ∧ x.2.entry ≠ j ∧
      (live.get j).bays.get x.2.channel = some x.1 := by
  obtain ⟨m, i, c⟩ := x
  unfold movedOccupants
  rw [List.mem_filterMap]
  constructor
  · rintro ⟨b, -, moved⟩
    split at moved
    · next k n kept held =>
      split at moved
      · cases moved
      · next differs =>
        cases moved
        exact ⟨b.entry, kept, differs, held⟩
    · cases moved
  · rintro ⟨j, kept, differs, held⟩
    refine ⟨{ entry := j, channel := c }, mem_allBays _, ?_⟩
    dsimp only at kept held differs ⊢
    rw [kept, held]
    exact if_neg differs

/-- The claims of a Station Table commit change records alone (R31). -/
theorem foldl_moveOccupant (l : List (ModuleRef × Bay)) (s : State) : l.foldl State.moveOccupant s =
    { s with mr := { s.mr with records := (l.foldl State.moveOccupant s).mr.records } } := by
  induction l generalizing s with
  | nil => rfl
  | cons x l ih =>
    have one : s.moveOccupant x = { s with mr := { s.mr with records := (s.moveOccupant x).mr.records } } := by
      unfold State.moveOccupant State.claim
      split <;> rfl
    rw [List.foldl_cons]
    refine (ih _).trans ?_
    rw [one]

/-- A record that no claim of a Station Table commit applies to stays as it was (R31). -/
theorem record_moveOccupants_other {k : ModuleIndex} (l : List (ModuleRef × Bay)) {s : State}
    (away : ∀ x ∈ l, x.1.index = k → ¬ s.standsIn x.1 bayStates) : (l.foldl State.moveOccupant s).record k = s.record k := by
  induction l generalizing s with
  | nil => rfl
  | cons x l ih =>
    have record : (s.moveOccupant x).record k = s.record k := by
      by_cases same : x.1.index = k
      · exact congrArg (State.record · k) (State.claim_declined (away x List.mem_cons_self same) _)
      · unfold State.moveOccupant State.claim
        split
        · exact State.record_setRecord_other _ _ _ _ same
        · rfl
    rw [List.foldl_cons, ih fun y listed same => ?_, record]
    have before := away y (List.mem_cons_of_mem x listed) same
    unfold State.standsIn at before ⊢
    rw [same] at before ⊢
    rwa [record]

theorem State.departing_eq (s : State) {old new : Vector Station 32} {kept : Fin 32 → Fin 4 → Bool}
    (keptIs : ∀ j c, kept j c = (keptAt old new j c).isSome) : departing old new s.iu.live =
      (List.finRange 32).flatMap fun j => (List.finRange 4).filterMap fun c =>
        if kept j c then none else (s.live j).bays.get c := by
  unfold departing allBays
  rw [List.filterMap_flatMap]
  refine List.flatMap_congr fun j _ => ?_
  rw [List.filterMap_map]
  refine List.filterMap_congr fun c _ => ?_
  rw [keptIs]
  rfl

/-- Settles O45: the live fields, the queued records, and the occupants kept, moved or departed. -/
theorem stationCommitCarriesLiveFields : Obligations.StationCommitCarriesLiveFields := by
  unfold Obligations.StationCommitCarriesLiveFields
  rintro s _ old new same stays rfl apartOld apartNew sameIs staysIs
  have sameAs : ∀ {x y : Station}, x.sameAs y = true ↔ same x y := fun {x y} => Station.sameAs_iff.trans (sameIs x y).symm
  have keeps : ∀ {j c i}, keptAt old new j c = some i ↔ stays j c i := fun {j c i} => by
    rw [keptAt_iff apartNew, staysIs, keepsBay_iff, sameAs]
  refine ⟨fun i fresh => ?_, fun i j validNew validOld address => ⟨fun unchanged => ?_, fun changed => ?_⟩, ?_,
    fun kept keptIs distinct => ?_⟩
  · rw [State.carryStations_live, carriedLive_fresh fresh]
    rfl
  · rw [State.carryStations_live, carriedLive_same apartOld validNew validOld address (sameAs.mpr unchanged)]
    rfl
  · rw [State.carryStations_live, carriedLive_of apartOld validNew validOld address]
    refine ⟨if_neg fun hit => changed (sameAs.mp hit), rfl, fun c => ?_⟩
    have keepsHere : keepsBay (old.get j) (new.get i) c = true ↔ stays j c i := by
      rw [← keeps, keptAt_iff apartNew]
      exact ⟨fun k => ⟨validOld, validNew, address, k⟩, fun ⟨_, _, _, k⟩ => k⟩
    rw [get_tabulate]
    exact ⟨fun stay => if_pos (keepsHere.mpr stay), fun leave => if_neg fun k => leave (keepsHere.mp k)⟩
  · refine ⟨carriedIndex old new, by rw [State.carryStations_iu]; rfl, rfl, fun j _ => ⟨fun i valid address unchanged => ?_,
      fun changed => ?_⟩⟩
    · exact carriedIndex_same apartNew valid address (sameAs.mpr unchanged)
    · exact carriedIndex_other fun i valid address hit => changed i valid address (sameAs.mp hit)
  · have departs := s.departing_eq (kept := kept) (old := old) (new := new) fun j c => by
      rw [Bool.eq_iff_iff, keptIs, Option.isSome_iff_exists]
      exact exists_congr fun i => keeps.symm
    refine ⟨((movedOccupants old new s.iu.live).foldl State.moveOccupant (s.restationed old new)).mr.records, ?_,
      fun j c i m stay differs held stands => ?_, fun k away => ?_⟩
    · have moves := foldl_moveOccupant (movedOccupants old new s.iu.live) (s.restationed old new)
      rw [State.carryStations_iu, ← departs]
      exact congrArg (List.foldl State.departModule · (departing old new s.iu.live)) moves
    · have own : ∀ x ∈ movedOccupants old new s.iu.live, x.1.index = m.index → x = (m, { entry := i, channel := c }) := by
        rintro ⟨n, k, d⟩ listed index
        obtain ⟨l, kept', -, held'⟩ := mem_movedOccupants.mp listed
        obtain ⟨rfl, rfl⟩ := Bay.mk.inj (distinct { entry := l, channel := d } { entry := j, channel := c } n m held' held index)
        obtain rfl := Option.some.inj (kept'.symm.trans (keeps.mpr stay))
        obtain rfl := Option.some.inj (held'.symm.trans held)
        rfl
      have listed : (m, ({ entry := i, channel := c } : Bay)) ∈ movedOccupants old new s.iu.live :=
        mem_movedOccupants.mpr ⟨j, keeps.mpr stay, differs, held⟩
      exact (record_moveOccupants (s := s.restationed old new) _ own stands).trans (if_pos listed)
    · refine record_moveOccupants_other (s := s.restationed old new) _ fun x listed index => ?_
      obtain ⟨j, kept', differs, held⟩ := mem_movedOccupants.mp listed
      exact away j x.2.channel x.2.entry x.1 (keeps.mp kept') differs held index

end Sys2Proof.Machine
end

section
/-! SUPPORT. The commands that read (R54, R125, R196, R199, R200). -/

namespace Sys2Proof.Machine

/-! ## One entry of a table (R196) -/

section Entry

variable (s : State) (active : Bool)

theorem State.tableEntry_orig (i : Fin 16) : s.tableEntry .orig active i.val =
    one i.val ++ originClassChars ((if active then s.mu.active else s.mu.shadow).orig.get i) := by
  unfold State.tableEntry
  dsimp only
  rw [indexOf_val]

theorem State.tableEntry_rule (i : Fin 96) : s.tableEntry .rule active i.val =
    one i.val ++ gradingRuleChars ((if active then s.mu.active else s.mu.shadow).rule.get i) := by
  unfold State.tableEntry
  dsimp only
  rw [indexOf_val]

theorem State.tableEntry_pcls (i : Fin 8) : s.tableEntry .pcls active i.val =
    one i.val ++ pairingClassChars ((if active then s.mu.active else s.mu.shadow).pcls.get i) := by
  unfold State.tableEntry
  dsimp only
  rw [indexOf_val]

theorem State.tableEntry_stat (i : Fin 32) : s.tableEntry .stat active i.val =
    one i.val ++ (stationChars ((if active then s.mu.active else s.mu.shadow).stat.get i) ++
      if active then liveChars (s.live i) else []) := by
  unfold State.tableEntry
  dsimp only
  rw [indexOf_val]

end Entry

/-! ## READ-TABLE (R196) -/

theorem tableOf_iff {n : Nat} {t : Table} : tableOf n = some t ↔ t.code = n := by
  constructor
  · intro read
    unfold tableOf at read
    split at read <;> cases read <;> rfl
  · rintro rfl
    cases t <;> rfl

theorem tableOf_none {n : Nat} (beyond : 4 < n) : tableOf n = none := by
  cases read : tableOf n with
  | none => rfl
  | some t =>
    have code := tableOf_iff.mp read
    have least : t.code ≤ 4 := by cases t <;> decide
    omega

theorem flagOf_none {n : Nat} (beyond : 1 < n) : flagOf n = none := by
  cases read : flagOf n with
  | none => rfl
  | some b =>
    have code := flagOf_iff.mp read
    have least : flagCode b ≤ 1 := by cases b <;> decide
    omega

/-- A yes or no character below 2 is read as whether it is not 0. -/
theorem flagOf_byte {c : Byte} (fits : c.toNat ≤ 1) : flagOf c.toNat = some !(decide (c = 0#8)) := by
  refine flagOf_iff.mpr ?_
  by_cases zero : c = 0#8
  · subst zero
    rfl
  · have one : c.toNat = 1 := by
      have some : c.toNat ≠ 0 := fun none => zero (eq_ofNat_of_toNat none)
      omega
    rw [decide_eq_false zero, one]
    rfl

section ReadTable

variable {s : State} {t c first count : Byte} {table : Table}

theorem readTableEntries_unknown (beyond : 4 < t.toNat ∨ 1 < c.toNat) :
    readTableEntries [t, c, first, count] s = answer s .outOfRange := by
  unfold readTableEntries
  dsimp only
  rcases beyond with noTable | noCopy
  · rw [tableOf_none noTable]
  · rw [flagOf_none noCopy]
    cases tableOf t.toNat <;> rfl

theorem readTableEntries_beyond (fits : c.toNat ≤ 1) (code : t.toNat = table.code) (beyond : table.size ≤ first.toNat) :
    readTableEntries [t, c, first, count] s = answer s .outOfRange := by
  unfold readTableEntries
  dsimp only
  rw [tableOf_iff.mpr code.symm, flagOf_byte fits]
  exact if_neg (Nat.not_lt.mpr beyond)

theorem readTableEntries_within {n : Nat} (fits : c.toNat ≤ 1) (code : t.toNat = table.code)
    (within : first.toNat < table.size)
    (returned : entriesReturned table (decide (c = 0#8)) first.toNat count.toNat = n) :
    readTableEntries [t, c, first, count] s =
      { state := s, status := .ok
        data := known [t, c, first, BitVec.ofNat 8 n] ++
          (List.range n).flatMap fun k => s.tableEntry table (decide (c = 0#8)) (first.toNat + k) } := by
  unfold readTableEntries
  dsimp only
  rw [tableOf_iff.mpr code.symm, flagOf_byte fits]
  dsimp only
  rw [if_pos within, Bool.not_not, returned]
  rfl

theorem entriesReturned_eq (table : Table) (c : Byte) (first count : Nat) :
    entriesReturned table (decide (c = 0#8)) first count =
      min (min count (table.size - first)) (233 / (if table = .stat ∧ c = 0#8 then 18 else table.entrySize)) := by
  unfold entriesReturned readSize
  simp only [decide_eq_true_eq]
  split
  · next stat =>
    rw [stat.1]
    rfl
  · rfl

end ReadTable

/-! ## QUERY-MODULE and QUERY-SLOT (R54, R125) -/

section Query

variable {s : State}

theorem State.moduleAnswer_eq (s : State) (i : ModuleIndex) : s.moduleAnswer i =
    { state := s, status := .ok, data := moduleRecordChars i (s.record i) (decide (i ∈ s.pe.poolWait)) } := by
  unfold State.moduleAnswer
  rw [List.contains_eq_mem]

theorem queryModuleRecord_index {b : Byte} (i : ModuleIndex) :
    queryModuleRecord [b, BitVec.ofNat 8 i.val] s = s.moduleAnswer i := by
  unfold queryModuleRecord
  dsimp only
  rw [indexOf_ofNat (by decide)]

theorem queryModuleRecord_beyond {b i : Byte} (beyond : 192 ≤ i.toNat) :
    queryModuleRecord [b, i] s = answer s .outOfRange := by
  have none : indexOf 192 i.toNat = Option.none := dif_neg (Nat.not_lt.mpr beyond)
  unfold queryModuleRecord
  dsimp only
  rw [none]

/-- Six characters, each by name. -/
theorem exists_of_length_six {l : List Byte} (six : l.length = 6) : ∃ a b c d e f, l = [a, b, c, d, e, f] := by
  match l, six with
  | [a, b, c, d, e, f], _ => exact ⟨a, b, c, d, e, f, rfl⟩

section Tagged

variable {b : Byte} {tag : List Byte}

theorem queryModuleRecord_invalid (six : tag.length = 6) (invalid : validTag (tagOf tag) = false) :
    queryModuleRecord (b :: tag) s = answer s .outOfRange := by
  obtain ⟨t0, t1, t2, t3, t4, t5, rfl⟩ := exists_of_length_six six
  exact if_neg (Bool.eq_false_iff.mp invalid)

theorem queryModuleRecord_found (six : tag.length = 6) (valid : validTag (tagOf tag) = true) {i : ModuleIndex}
    (found : s.findTag (tagOf tag) = some i) : queryModuleRecord (b :: tag) s = s.moduleAnswer i := by
  obtain ⟨t0, t1, t2, t3, t4, t5, rfl⟩ := exists_of_length_six six
  unfold queryModuleRecord
  dsimp only
  rw [if_pos valid, found]

theorem queryModuleRecord_unknown (six : tag.length = 6) (valid : validTag (tagOf tag) = true)
    (none : s.findTag (tagOf tag) = none) : queryModuleRecord (b :: tag) s = answer s .notFound := by
  obtain ⟨t0, t1, t2, t3, t4, t5, rfl⟩ := exists_of_length_six six
  unfold queryModuleRecord
  dsimp only
  rw [if_pos valid, none]

end Tagged

theorem querySlotEntries_beyond {st first count : Byte} (beyond : s.mu.active.bank.stringsInUse ≤ st.toNat ∨
    7 < st.toNat ∨ s.mu.active.bank.positions ≤ first.toNat) :
    querySlotEntries [st, first, count] s = answer s .outOfRange := by
  unfold querySlotEntries
  dsimp only
  split
  · next i index =>
    have place := indexOf_eq_some.mp index
    refine if_neg fun ⟨string, position⟩ => ?_
    rcases beyond with unused | beyond | past
    · omega
    · omega
    · omega
  · rfl

theorem querySlotEntries_within {st first count : Byte} {k : Fin 8} (string : st.toNat = k.val)
    (used : k.val < s.mu.active.bank.stringsInUse) (position : first.toNat < s.mu.active.bank.positions) :
    querySlotEntries [st, first, count] s =
      { state := s, status := .ok
        data := stringRecordChars (s.string k) ++
          one (min count.toNat (s.mu.active.bank.positions - first.toNat)) ++
          (List.range (min count.toNat (s.mu.active.bank.positions - first.toNat))).flatMap fun j =>
            s.slotEntry k (first.toNat + j) } := by
  unfold querySlotEntries
  dsimp only
  rw [indexOf_eq_some.mpr string]
  exact if_pos ⟨used, position⟩

end Query

/-! ## Lengths (R200, R207) -/

theorem length_known (l : List Byte) : (known l).length = l.length := List.length_map _

theorem length_one (n : Nat) : (one n).length = 1 := rfl

theorem State.length_statusChars (s : State) : s.statusChars.length = 23 := by
  unfold State.statusChars
  simp only [List.length_append, length_one, length_known]
  rfl

theorem length_locationChars (l : Location) : (locationChars l).length = 3 := by cases l <;> rfl

theorem length_verdictChars (v : Option Verdict) : (verdictChars v).length = 3 := by cases v <;> rfl

theorem length_evidenceChars (e : Evidence) : (evidenceChars e).length = 8 := by
  unfold evidenceChars
  cases e.lastValue <;> rfl

theorem length_moduleRecordChars (i : ModuleIndex) (r : ModuleRecord) (w : Bool) : (moduleRecordChars i r w).length = 59 := by
  unfold moduleRecordChars tagChars
  simp only [List.length_append]
  rw [length_locationChars, length_verdictChars, length_evidenceChars, length_evidenceChars, length_evidenceChars,
    length_evidenceChars]
  simp only [length_one, length_known, length_charsOf]
  rfl

/-! ## REPLYs with characters that the manual does not state (log 8) -/

theorem offerReply_drawn {f : Frame} {op token : Byte} {params : List Byte} (body : f.body = op :: token :: params)
    (t : State) (st : Status) (d : List BodyChar) : offerReply f { state := t, status := st, data := d } =
      { t with freeCount := t.freeCount + openCount d }.offered f
        (op :: token :: BitVec.ofNat 8 st.code :: fillIn t.freeCount d) := by
  unfold offerReply
  rw [body]
  rfl

theorem openCount_countersChars (c : Counters) : openCount (countersChars c) = 0 := by
  unfold countersChars two
  simp only [← known_append, openCount_known]

theorem fillIn_countersChars (n : Nat) (c : Counters) : fillIn n (countersChars c) =
    charsOf 2 c.rxDamaged ++ charsOf 2 c.transitOverrun ++ charsOf 2 c.intakeOverrun ++ charsOf 2 c.cmdOverrun ++
      charsOf 2 c.samplesIgnored ++ charsOf 2 c.syncLosses := by
  unfold countersChars two
  simp only [← known_append, fillIn_known]

/-- The execution of a command that is ready and passes the length check of its row, by the state once it is taken
(R187, R188). -/
theorem State.execute_taken {s : State} {f : Frame} {rest : List Frame} {op token : Byte} {params : List Byte}
    (ready : CommandReady s f rest op token params) {row : CommandRow} (isRow : rowOf (op :: token :: params) = row)
    (fits : lengthFailure row params = none) (meaning : List Byte → State → Answer) :
    s.execute row meaning = offerReply f (meaning params (s.taken rest)) :=
  State.execute_ready ready row meaning isRow fits

/-- Settles O46: table entries, then the reading commands one by one. -/
theorem queriesAnswer : Obligations.QueriesAnswer := by
  unfold Obligations.QueriesAnswer
  refine ⟨⟨rfl, rfl, rfl⟩, ?_, ?_⟩
  · rintro s active _ rfl
    exact ⟨s.tableEntry_orig active, s.tableEntry_rule active, s.tableEntry_pcls active,
      fun i => (s.tableEntry_stat active i).trans (List.append_assoc _ _ _).symm, rfl⟩
  rintro s _ f rest token op params reply bad ready rfl replyIs badIs
  have ok : ∀ row meaning {d}, rowOf (op :: token :: params) = row → lengthFailure row params = none →
      meaning params (s.taken rest) = { state := s.taken rest, status := .ok, data := d } →
      Host.Outcome.next (s.execute row meaning) = reply d := by
    intro row meaning d isRow fits answered
    rw [State.execute_taken ready isRow fits, answered, offerReply_drawn ready.body, replyIs]
    rfl
  have refused : ∀ row meaning {st}, rowOf (op :: token :: params) = row → lengthFailure row params = none →
      meaning params (s.taken rest) = answer (s.taken rest) st →
      Host.Outcome.next (s.execute row meaning) = bad (BitVec.ofNat 8 st.code) := by
    intro row meaning st isRow fits answered
    rw [State.execute_taken ready isRow fits, answered, offerReply_answer ready.body, badIs]
  refine ⟨?_, ?_, ?_, ?_, ?_, length_moduleRecordChars⟩
  · rintro t c first count rfl rfl
    refine ⟨fun beyond => refused .readTable readTableEntries rfl rfl (readTableEntries_unknown beyond), fun table n fits code =>
      ⟨fun beyond => refused .readTable readTableEntries rfl rfl (readTableEntries_beyond fits code beyond), fun within returned => ?_⟩⟩
    have entries := (entriesReturned_eq table c first.toNat count.toNat).trans returned.symm
    exact ok .readTable readTableEntries rfl rfl (readTableEntries_within fits code within entries)
  · rintro rfl
    refine ⟨?_, ?_, ?_⟩
    · rintro i rfl
      exact ok .queryModule queryModuleRecord rfl rfl ((queryModuleRecord_index i).trans (State.moduleAnswer_eq _ i))
    · rintro i rfl beyond
      exact refused .queryModule queryModuleRecord rfl rfl (queryModuleRecord_beyond beyond)
    · rintro tag six rfl
      have fits : lengthFailure .queryModule (1#8 :: tag) = none := if_pos six
      refine ⟨fun invalid => ?_, fun zero ones => ⟨fun i holds => ?_, fun absent => ?_⟩⟩
      · have reads : validTag (tagOf tag) = false := Bool.eq_false_iff.mpr fun valid => by
          obtain ⟨zero, ones⟩ := validTag_iff.mp valid
          exact invalid.elim zero ones
        exact refused .queryModule queryModuleRecord rfl fits (queryModuleRecord_invalid six reads)
      · have found : (s.taken rest).findTag (tagOf tag) = some i := State.findTag_some ⟨holds.held, holds.only⟩
        exact ok .queryModule queryModuleRecord rfl fits ((queryModuleRecord_found six (validTag_iff.mpr ⟨zero, ones⟩) found).trans
          (State.moduleAnswer_eq _ i))
      · have none : (s.taken rest).findTag (tagOf tag) = Option.none := State.findTag_none absent
        exact refused .queryModule queryModuleRecord rfl fits (queryModuleRecord_unknown six (validTag_iff.mpr ⟨zero, ones⟩) none)
  · rintro st first count rfl rfl
    exact ⟨fun beyond => refused .querySlot querySlotEntries rfl rfl (querySlotEntries_beyond (by exact beyond)), fun k string used position =>
      ok .querySlot querySlotEntries rfl rfl (querySlotEntries_within string (by exact used) (by exact position))⟩
  · rintro c rfl rfl
    refine ⟨fun beyond => ?_, ?_, ?_⟩
    · refine refused .readCounters readErrorCounters (st := .outOfRange) rfl rfl ?_
      unfold readErrorCounters
      dsimp only
      rw [flagOf_none beyond]
    · rintro rfl
      exact ok .readCounters readErrorCounters rfl rfl rfl
    · rintro rfl
      have taken : exec .readCounters s = .next (offerReply f (readErrorCounters [1#8] (s.taken rest))) :=
        congrArg Host.Outcome.next (State.execute_ready ready .readCounters readErrorCounters rfl rfl)
      have answered : readErrorCounters [1#8] (s.taken rest) = { state := (s.taken rest).setCounters .zero, status := .ok
                                                                 data := countersChars s.rp.counters } := rfl
      rw [taken, answered, offerReply_drawn ready.body, openCount_countersChars, fillIn_countersChars]
      rfl
  · rintro rfl rfl
    exact ⟨ok .readStatus readEngineStatus rfl rfl rfl, s.length_statusChars⟩

end Sys2Proof.Machine
end

section
/-! SUPPORT. The characters of what the part reports (R204, R207, R208). -/

namespace Sys2Proof.Machine

/-! ## Fields -/

theorem ofNat_flagCode (b : Bool) : BitVec.ofNat 8 (flagCode b) = if b then 1#8 else 0#8 := by cases b <;> rfl

theorem two_eq (n : Nat) : two n = known (bigEndian 2 n) := by rw [two, charsOf_eq_bigEndian]

theorem tagChars_eq (t : Tag) : tagChars t = bigEndian 6 t.toNat := charsOf_eq_bigEndian 6 _

theorem locationChars_eq {l : Location} {place : List BodyChar} (absent : l = .absent → place = [some 0#8, none, none])
    (bay : ∀ b, l = .bay b → place = known [1#8, BitVec.ofNat 8 b.entry.val, BitVec.ofNat 8 b.channel.val])
    (slot : ∀ p, l = .slot p → place = known [2#8, BitVec.ofNat 8 p.string.val, BitVec.ofNat 8 p.position.val]) :
    locationChars l = place := by
  cases l with
  | absent => exact (absent rfl).symm
  | bay b => exact (bay b rfl).symm
  | slot p => exact (slot p rfl).symm

theorem verdictChars_some (v : Verdict) :
    verdictChars (some v) = known (BitVec.ofNat 8 v.kind.code :: bigEndian 2 v.sequence.toNat) :=
  congrArg (one v.kind.code ++ ·) (two_eq v.sequence.toNat)

/-- The fields of a module record, each by itself (R207). -/
theorem moduleRecordChars_eq (i : ModuleIndex) (r : ModuleRecord) (w : Bool) {place : List BodyChar} {verdict : List Byte}
    {set : Evidence → List BodyChar} (location : locationChars r.location = place)
    (verdictIs : verdictChars r.verdict = known verdict) (sets : ∀ x, evidenceChars x = set x) : moduleRecordChars i r w =
      known ([BitVec.ofNat 8 i.val, r.generation, BitVec.ofNat 8 r.state.code] ++ bigEndian 6 r.tag.toNat ++
        [BitVec.ofNat 8 r.originClass.val] ++ bigEndian 4 r.arrival) ++ place ++
      known ([BitVec.ofNat 8 r.gapCount, BitVec.ofNat 8 (gradeCode r.resolved),
        if r.provisional then 1#8 else 0#8, BitVec.ofNat 8 r.watchCount] ++ verdict ++
        [if r.departed then 1#8 else 0#8, (r.order.map fun o => BitVec.ofNat 8 o.val).getD 255#8,
          if w then 1#8 else 0#8]) ++
      set r.evidence.cap ++ set r.evidence.res ++ set r.evidence.drift ++ set r.evidence.heat := by
  unfold moduleRecordChars
  rw [sets, sets, sets, sets, location, verdictIs, tagChars_eq, charsOf_eq_bigEndian]
  cases r.order <;>
    simp only [one, ofNat_flagCode, known, List.map_append, List.map_cons, List.map_nil, List.cons_append,
      List.nil_append, List.append_assoc, Option.map_none, Option.map_some, Option.getD_none, Option.getD_some]

/-! ## Tables as lists -/

theorem toList_eq_map_get {α : Type} {n : Nat} (v : Vector α n) : v.toList = (List.finRange n).map v.get := by
  refine List.ext_getElem (by simp) fun k bound bound' => ?_
  simp [Vector.get]

theorem length_filter_toList {α : Type} {n : Nat} (v : Vector α n) (p : α → Bool) :
    (v.toList.filter p).length = ((List.finRange n).filter fun i => p (v.get i)).length := by
  rw [toList_eq_map_get, List.filter_map, List.length_map]
  rfl

theorem OrderRecord.isIssued_iff {r : OrderRecord} : r.isIssued = true ↔ ∃ o t, r = .order o ∧ o.stage = .issued t := by
  cases r with
  | free | reservedForChoice p => simp [OrderRecord.isIssued]
  | order o =>
    obtain ⟨stage, slot, number, work⟩ := o
    cases stage <;> simp [OrderRecord.isIssued]

/-! ## The kinds of the pending notices (R200, R207) -/

theorem NoticeArgument.kindCode_range (a : NoticeArgument) : 1 ≤ a.kindCode ∧ a.kindCode ≤ 8 := by
  cases a <;> simp [NoticeArgument.kindCode]

theorem getLsbD_kindBit {k c : Nat} (small : k < 8) (range : 1 ≤ c ∧ c ≤ 8) :
    (1#8 <<< (c - 1)).getLsbD k = true ↔ c = k + 1 := by
  obtain ⟨least, most⟩ := range
  rw [BitVec.getLsbD_shiftLeft, BitVec.getLsbD_one]
  simp only [Bool.and_eq_true, decide_eq_true_eq, Bool.not_eq_true', decide_eq_false_iff_not]
  omega

theorem getLsbD_kindBits {k : Nat} (small : k < 8) (ns : List Notice) (b : Byte) :
    (ns.foldl (fun b n => b ||| (1#8 <<< (n.argument.kindCode - 1))) b).getLsbD k = true ↔
      b.getLsbD k = true ∨ ∃ n ∈ ns, n.argument.kindCode = k + 1 := by
  induction ns generalizing b with
  | nil => simp
  | cons n ns ih =>
    rw [List.foldl_cons, ih, BitVec.getLsbD_or, Bool.or_eq_true, getLsbD_kindBit small n.argument.kindCode_range,
      or_assoc, List.exists_mem_cons_iff]

theorem noticeBits_eq {ns : List Notice} {kinds : Byte}
    (kindsAre : ∀ k < 8, kinds.getLsbD k = true ↔ ∃ n ∈ ns, n.argument.kindCode = k + 1) :
    BitVec.ofNat 8 (noticeBits ns) = kinds := by
  unfold noticeBits
  rw [ofNat_toNat_byte]
  refine BitVec.eq_of_getLsbD_eq fun k small => ?_
  rw [Bool.eq_iff_iff, getLsbD_kindBits small, kindsAre k small]
  simp

/-! ## The slot shown (R125) -/

theorem State.slotEntry_at (s : State) (p : SlotId) : s.slotEntry p.string p.position.val =
    slotEntryChars p.position (s.slot p) ((s.slot p).module.map fun m => (m, (s.record m.index).tag))
      (s.slotNumber (s.slot p)) (s.request p) := by
  unfold State.slotEntry
  rw [indexOf_val]

section Shown

variable {position : Fin 16} {x : SlotRecord} {shown : Option (ModuleRef × Tag)} {number : Option Byte}
  {pending : Option Request} {state : Byte} {moduleChars numberChars requestChars : List BodyChar}

/-- The fields of a slot entry, each by itself (R207). -/
structure SlotFields (x : SlotRecord) (shown : Option (ModuleRef × Tag)) (number : Option Byte) (pending : Option Request)
    (state : Byte) (moduleChars numberChars requestChars : List BodyChar) : Prop where
  code           : BitVec.ofNat 8 x.code = state
  module         : ∀ m t, shown = some (m, t) →
    moduleChars = known ([BitVec.ofNat 8 m.index.val, m.generation] ++ bigEndian 6 t.toNat)
  withoutModule  : shown = none → moduleChars = known [255#8, 255#8, 0#8, 0#8, 0#8, 0#8, 0#8, 0#8]
  order          : ∀ n, number = some n → numberChars = known [n]
  withoutOrder   : number = none → numberChars = [none]
  request        : ∀ q, pending = some q → requestChars = known [BitVec.ofNat 8 q.kind.code, BitVec.ofNat 8 q.status.code]
  withoutRequest : pending = none → requestChars = [some 0#8, none]

theorem slotEntryChars_eq (h : SlotFields x shown number pending state moduleChars numberChars requestChars) :
    slotEntryChars position x shown number pending =
      known [BitVec.ofNat 8 position.val, state] ++ moduleChars ++ numberChars ++ requestChars := by
  unfold slotEntryChars
  rw [← h.code]
  congr 1
  · congr 1
    · congr 1
      cases is : shown with
      | none => exact (h.withoutModule is).symm
      | some x =>
        obtain ⟨m, t⟩ := x
        rw [h.module m t is, tagChars_eq]
        rfl
    · cases is : number with
      | none => exact (h.withoutOrder is).symm
      | some n => exact (h.order n is).symm
  · cases is : pending with
    | none => exact (h.withoutRequest is).symm
    | some q => exact (h.request q is).symm

end Shown

/-- Settles O47, body by body. -/
theorem bodiesAreLaidOut : Obligations.BodiesAreLaidOut := by
  unfold Obligations.BodiesAreLaidOut
  refine ⟨⟨rfl, rfl, rfl⟩, ?_, ?_, ?_, ?_, ?_, ?_, ?_, ?_⟩
  · intro i r w place verdict set absent bay slot noVerdict hasVerdict setIs
    have sets : ∀ x, evidenceChars x = set x := by
      intro x
      rw [setIs]
      unfold evidenceChars
      cases x.candidate <;> cases x.lastValue <;> rfl
    refine moduleRecordChars_eq i r w (locationChars_eq absent bay slot) ?_ sets
    cases is : r.verdict with
    | none => rw [noVerdict is]; rfl
    | some v =>
      rw [hasVerdict v is, verdictChars_some]
      cases v.kind <;> rfl
  · intro r reference referenceIs
    have references : ∀ x, referenceChars x = reference x := by
      intro x
      rw [referenceIs]
      unfold referenceChars
      cases x.value <;> rfl
    unfold stringRecordChars
    rw [references, references]
    rfl
  · intro s p state module number request shown shownIs unknown empty blocked vacant occupied reserved noOrder noRequest
      hasRequest
    rw [State.slotEntry_at]
    refine slotEntryChars_eq ⟨?_, fun m t is => ?_, fun is => ?_, fun n is => ?_, fun is => ?_, fun q is => ?_, noRequest⟩
    · cases slot : s.slot p with
      | unknown => exact (unknown slot).symm
      | empty => exact (empty slot).symm
      | occupied m => exact (occupied m slot).1.symm
      | reserved o x => exact (reserved o x slot).1.symm
      | blocked => exact (blocked slot).symm
    · obtain ⟨m', module', same⟩ := Option.map_eq_some_iff.mp is
      obtain ⟨rfl, rfl⟩ := Prod.mk.inj same
      rw [← shownIs]
      cases slot : s.slot p with
      | occupied n =>
        rw [slot] at module'
        obtain rfl := Option.some.inj module'
        exact (occupied _ slot).2
      | reserved o x =>
        rw [slot] at module'
        obtain ⟨-, outgoing, -⟩ := reserved o x slot
        exact outgoing _ module'
      | _ => rw [slot] at module'; cases module'
    · have none := Option.map_eq_none_iff.mp is
      refine vacant ?_
      cases slot : s.slot p with
      | unknown => exact .inl rfl
      | empty => exact .inr (.inl rfl)
      | blocked => exact .inr (.inr (.inl rfl))
      | occupied m => rw [slot] at none; cases none
      | reserved o x =>
        rw [slot] at none
        obtain rfl : x = Option.none := none
        exact .inr (.inr (.inr ⟨o, rfl⟩))
    · cases slot : s.slot p with
      | reserved o x =>
        rw [slot] at is
        obtain ⟨d, order, rfl⟩ := Option.map_eq_some_iff.mp is
        obtain ⟨-, -, numbered⟩ := reserved o x slot
        exact numbered d (OrderRecord.order?_eq_some.mp order)
      | _ => rw [slot] at is; cases is
    · refine noOrder fun o d ⟨x, slot⟩ order => ?_
      rw [slot] at is
      have none := Option.map_eq_none_iff.mp is
      rw [order] at none
      cases none
    · rw [hasRequest q is]
      cases q.kind <;> cases q.status <;> rfl
  · intro l
    unfold liveChars
    rw [toList_eq_map_get, List.flatMap_map]
    refine congrArg₂ (· ++ ·) ?_ (List.flatMap_congr fun c _ => ?_)
    · cases l.lastSequence <;> rfl
    · cases l.bays.get c <;> rfl
  · intro s kinds records requests issued kindsAre recordsAre requestsAre issuedIs
    have counted : ∀ st, s.countState st = records st := fun st => by
      rw [recordsAre]
      exact length_filter_toList _ _
    have live : s.liveOrders = ((List.finRange 8).filter fun i => decide (s.order i ≠ .free)).length :=
      length_filter_toList _ _
    have onRing : s.issuedOrders = ((List.finRange 8).filter issued).length := by
      refine (length_filter_toList _ _).trans (congrArg List.length (List.filter_congr fun i _ => ?_))
      rw [Bool.eq_iff_iff, issuedIs]
      exact OrderRecord.isIssued_iff
    have statuses : ∀ st, s.countStatus st = requests st := fun st => (requestsAre st).symm
    unfold State.statusChars
    simp only [counted, live, onRing, statuses, one, noticeBits_eq kindsAre, allStates, List.flatMap_cons,
      List.flatMap_nil, known, List.map_cons, List.map_nil, List.cons_append, List.nil_append,
      List.append_nil]
    cases s.mu.pendingCommit with
    | none => cases s.mu.mode <;> cases s.rp.link <;> rfl
    | some m =>
      have mask : BitVec.ofNat 8 m.toNat = m.setWidth 8 := BitVec.ofNat_toNat 8 m
      simp only [mask, Option.map_some, Option.getD_some]
      cases s.mu.mode <;> cases s.rp.link <;> rfl
  · intro v r
    unfold verdictBody
    simp only [charsOf_one, tagChars_eq, charsOf_eq_bigEndian 2, ofNat_flagCode]
    cases v.kind <;> rfl
  · intro o incoming outgoing
    unfold orderBody
    simp only [charsOf_one, tagChars_eq]
    cases o.work <;> rfl
  · rintro a _ place slot placeIs slotIs rfl
    refine ⟨?_, rfl, ?_⟩
    · cases a with
      | registerFull t => exact tagChars_eq t
      | tagConflict t st => simp only [argumentChars, tagChars_eq, charsOf_one]
      | ruleHole i m => simp only [argumentChars, charsOf_one, List.cons_append, List.nil_append]
      | orderExpired n => rfl
      | linkRelock k => exact charsOf_eq_bigEndian 2 k
      | commitTaken mask => exact (charsOf_one _).trans (congrArg (fun b => [b]) (BitVec.ofNat_toNat 8 mask))
      | commitRefused x =>
        cases x <;>
          simp only [argumentChars, failureChars, charsOf_one, placeIs, slotIs, Table.code, List.cons_append,
            List.nil_append]
      | stringWaiting p => simp only [argumentChars, charsOf_one, slotIs, List.cons_append, List.nil_append]
    · cases a <;> rfl

end Sys2Proof.Machine
end

section
/-! SUPPORT. The INVENTORY forms that name a slot (R119 to R123). -/

namespace Sys2Proof.Machine

/-! ## Commands that are ready, and their REPLYs (R187, R188) -/

section Ready

variable {s v : State} {f : Frame} {rest : List Frame} {op token : Byte} {params : List Byte} {row : CommandRow}

theorem execute_answer (ready : CommandReady s f rest op token params) (isRow : rowOf (op :: token :: params) = row)
    (fits : lengthFailure row params = none) (meaning : List Byte → State → Answer) {st : Status}
    (answered : meaning params (s.taken rest) = answer v st) :
    Host.Outcome.next (s.execute row meaning) =
      (.next (v.offered f [op, token, BitVec.ofNat 8 st.code]) : Host.Outcome State Fault Refusal) := by
  rw [State.execute_taken ready isRow fits, answered, offerReply_answer ready.body]

theorem execute_inventoryOk (ready : CommandReady s f rest op token params) (isRow : rowOf (op :: token :: params) = row)
    (fits : lengthFailure row params = none) (meaning : List Byte → State → Answer) {form : Nat}
    (answered : meaning params (s.taken rest) = inventoryOk v form) :
    Host.Outcome.next (s.execute row meaning) =
      (.next (v.offered f [op, token, 0#8, BitVec.ofNat 8 form]) : Host.Outcome State Fault Refusal) := by
  rw [State.execute_taken ready isRow fits, answered]
  exact congrArg Host.Outcome.next (offerReply_one ready.body v .ok form)

theorem NamesSlot.taken {st po : Byte} {p : SlotId} (h : NamesSlot s st po p) (rest : List Frame) :
    (s.taken rest).slotNamed st po = some p := State.slotNamed_some ⟨h.string, h.position, h.inUse⟩

theorem slotNamed_taken {st po : Byte} (absent : ∀ p, ¬ NamesSlot s st po p) (rest : List Frame) :
    (s.taken rest).slotNamed st po = none :=
  State.slotNamed_none fun p h => absent p ⟨h.string, h.position, h.inUse⟩

end Ready

/-! ## SLOT-EMPTY, SLOT-BLOCK, SLOT-UNBLOCK (R120, R123) -/

section Forms

variable {s : State} {form st po : Byte} {p : SlotId}

theorem inventorySlotEmpty_named (named : s.slotNamed st po = some p) :
    inventorySlotEmpty [form, st, po] s = s.slotEmptyAt p := by
  unfold inventorySlotEmpty
  dsimp only
  rw [named]

theorem inventorySlotEmpty_unnamed (unnamed : s.slotNamed st po = none) :
    inventorySlotEmpty [form, st, po] s = answer s .outOfRange := by
  unfold inventorySlotEmpty
  dsimp only
  rw [unnamed]

theorem State.slotEmptyAt_unknown (slot : s.slot p = .unknown) :
    s.slotEmptyAt p = inventoryOk ((s.setSlot p .empty).raiseRequest p .fill .ready).selectIfDue 0 := by
  unfold State.slotEmptyAt
  rw [slot]

theorem State.slotEmptyAt_empty (slot : s.slot p = .empty) :
    s.slotEmptyAt p = inventoryOk (s.raiseRequest p .fill .ready).selectIfDue 0 := by
  unfold State.slotEmptyAt
  rw [slot]

theorem State.slotEmptyAt_occupied {m : ModuleRef} (slot : s.slot p = .occupied m) :
    s.slotEmptyAt p = inventoryOk (s.emptyOccupied p m).selectIfDue 0 := by
  unfold State.slotEmptyAt
  rw [slot]

theorem State.slotEmptyAt_state (slot : (∃ o m, s.slot p = .reserved o m) ∨ s.slot p = .blocked) :
    s.slotEmptyAt p = answer s .state := by
  unfold State.slotEmptyAt
  rcases slot with ⟨o, m, reserved⟩ | blocked
  · rw [reserved]
  · rw [blocked]

theorem State.emptyOccupied_stands {m : ModuleRef} (stands : s.standsIn m [.inService, .watch]) :
    s.emptyOccupied p m = ((((s.setRecord m.index (ModuleRecord.cleared m.generation)).withdraw p).setSlot p
      .empty).raiseRequest p .fill .ready).recompute p.string := by
  unfold State.emptyOccupied
  rw [State.claim_applied stands, State.freed_of_stands stands]

theorem inventorySlotBlock_unnamed (unnamed : s.slotNamed st po = none) :
    inventorySlotBlock [form, st, po] s = answer s .outOfRange := by
  unfold inventorySlotBlock
  dsimp only
  rw [unnamed]

theorem inventorySlotBlock_blocks (named : s.slotNamed st po = some p) (slot : s.slot p = .empty ∨ s.slot p = .unknown) :
    inventorySlotBlock [form, st, po] s = inventoryOk ((s.setSlot p .blocked).withdraw p) 2 := by
  unfold inventorySlotBlock
  dsimp only
  rw [named]
  dsimp only
  rcases slot with empty | unknown
  · rw [empty]
  · rw [unknown]

theorem inventorySlotBlock_state (named : s.slotNamed st po = some p)
    (slot : (∃ o m, s.slot p = .reserved o m) ∨ (∃ m, s.slot p = .occupied m) ∨ s.slot p = .blocked) :
    inventorySlotBlock [form, st, po] s = answer s .state := by
  unfold inventorySlotBlock
  dsimp only
  rw [named]
  dsimp only
  rcases slot with ⟨o, m, reserved⟩ | ⟨m, occupied⟩ | blocked
  · rw [reserved]
  · rw [occupied]
  · rw [blocked]

theorem inventorySlotUnblock_unnamed (unnamed : s.slotNamed st po = none) :
    inventorySlotUnblock [form, st, po] s = answer s .outOfRange := by
  unfold inventorySlotUnblock
  dsimp only
  rw [unnamed]

theorem inventorySlotUnblock_unblocks (named : s.slotNamed st po = some p) (slot : s.slot p = .blocked) :
    inventorySlotUnblock [form, st, po] s =
      inventoryOk ((s.setSlot p .empty).raiseRequest p .fill .ready).selectIfDue 3 := by
  unfold inventorySlotUnblock
  dsimp only
  rw [named]
  dsimp only
  rw [slot]

theorem inventorySlotUnblock_state (named : s.slotNamed st po = some p) (slot : s.slot p ≠ .blocked) :
    inventorySlotUnblock [form, st, po] s = answer s .state := by
  unfold inventorySlotUnblock
  dsimp only
  rw [named]
  dsimp only
  cases is : s.slot p with
  | blocked => exact absurd is slot
  | _ => rfl

end Forms

/-- Settles O48, form by form and by the slot's state. -/
theorem slotForms : Obligations.SlotForms := by
  unfold Obligations.SlotForms
  rintro s _ f rest token form st po reply ready rfl replyIs
  refine ⟨fun absent => ?_, fun p names => ?_⟩
  · have unnamed := slotNamed_taken absent rest
    simp only [replyIs]
    refine ⟨?_, ?_, ?_⟩ <;> rintro rfl
    · exact execute_answer ready rfl rfl inventorySlotEmpty (inventorySlotEmpty_unnamed unnamed)
    · exact execute_answer ready rfl rfl inventorySlotBlock (inventorySlotBlock_unnamed unnamed)
    · exact execute_answer ready rfl rfl inventorySlotUnblock (inventorySlotUnblock_unnamed unnamed)
  have named := names.taken rest
  simp only [replyIs]
  refine ⟨?_, ?_, ?_⟩ <;> rintro rfl
  · have answered := inventorySlotEmpty_named (form := 0#8) named
    refine ⟨fun slot => ?_, fun slot => ?_, fun m slot stands => ?_, fun slot => ?_⟩
    · exact execute_inventoryOk ready rfl rfl inventorySlotEmpty (answered.trans (State.slotEmptyAt_unknown (by exact slot)))
    · exact execute_inventoryOk ready rfl rfl inventorySlotEmpty (answered.trans (State.slotEmptyAt_empty (by exact slot)))
    · have empties := State.emptyOccupied_stands (s := s.taken rest) (p := p) (by exact stands)
      have occupied := State.slotEmptyAt_occupied (s := s.taken rest) (by exact slot)
      rw [empties] at occupied
      exact execute_inventoryOk ready rfl rfl inventorySlotEmpty (answered.trans occupied)
    · exact execute_answer ready rfl rfl inventorySlotEmpty (answered.trans (State.slotEmptyAt_state (by exact slot)))
  · exact ⟨fun slot => execute_inventoryOk ready rfl rfl inventorySlotBlock
        (inventorySlotBlock_blocks named (by exact slot)),
      fun slot => execute_answer ready rfl rfl inventorySlotBlock (inventorySlotBlock_state named (by exact slot))⟩
  · exact ⟨fun slot => execute_inventoryOk ready rfl rfl inventorySlotUnblock
        (inventorySlotUnblock_unblocks named (by exact slot)),
      fun slot => execute_answer ready rfl rfl inventorySlotUnblock (inventorySlotUnblock_state named (by exact slot))⟩

end Sys2Proof.Machine
end

section
/-! SUPPORT. SLOT-HOLDS (R119, R121, R122). -/

namespace Sys2Proof.Machine

/-! ## The slot that is filled -/

section Holds

variable {s v : State} {p : SlotId} {i : ModuleIndex} {tag : Tag}

/-- The state once the previous occupant, if any, is FREE (R122). -/
theorem State.displace_eq (displaced : ((s.slot p = .unknown ∨ s.slot p = .empty) ∧ v = s) ∨
    (∃ m, s.slot p = .occupied m ∧ s.standsIn m [.inService, .watch] ∧
      v = s.setRecord m.index (ModuleRecord.cleared m.generation))) : s.displace p = v := by
  unfold State.displace
  rcases displaced with ⟨unknown | empty, rfl⟩ | ⟨m, occupied, stands, rfl⟩
  · rw [unknown]
  · rw [empty]
  · rw [occupied]
    dsimp only
    rw [State.claim_applied stands, State.freed_of_stands stands]

theorem State.displace_pe (s : State) (p : SlotId) : (s.displace p).pe = s.pe := by
  unfold State.displace State.claim
  split
  · split <;> rfl
  all_goals rfl

/-- A promotion keeps every record's generation (R131). -/
theorem State.leavePool_generation (s : State) (i k : ModuleIndex) :
    ((s.leavePool i).record k).generation = (s.record k).generation := by
  unfold State.leavePool State.promote
  split
  · rfl
  · next j rest _ =>
    by_cases same : k = j
    · subst same
      rw [State.enterPool_record]
      rfl
    · exact congrArg ModuleRecord.generation (State.enterPool_others ((s.dropFromPool i).setPoolWait rest) j k same)

theorem State.occupy_eq {g : Byte} (generation : (s.record i).generation = g) :
    s.occupy p i = ((s.setSlot p (.occupied { index := i, generation := g })).withdraw p).recompute p.string := by
  unfold State.occupy State.refOf
  rw [generation]

theorem State.takeFor_of_held (state : (s.record i).state = .held) :
    s.takeFor p i = ((s.displace p).setRecord i ((s.record i).heldIn p)).occupy p i := by
  unfold State.takeFor
  rw [state]

theorem State.takeFor_of_pooled (state : (s.record i).state = .pooled) :
    s.takeFor p i = (((s.displace p).setRecord i ((s.record i).heldIn p)).leavePool i).occupy p i := by
  unfold State.takeFor
  rw [state]

theorem State.takeFor_of_graded (state : (s.record i).state = .graded) :
    s.takeFor p i = (((s.displace p).setRecord i ((s.record i).heldIn p)).leavePoolWait i).occupy p i := by
  unfold State.takeFor
  rw [state]

theorem ModuleRecord.takable_iff {r : ModuleRecord} :
    r.takable = true ↔ r.state = .held ∨ r.state = .pooled ∨ r.poolWaiting = true := by
  simp only [ModuleRecord.takable, Bool.or_eq_true, decide_eq_true_eq, or_assoc]

theorem State.holdAt_own (found : s.findTag tag = some i) (own : s.slot p = .occupied (s.refOf i)) :
    s.holdAt p tag = inventoryOk s 1 := by
  unfold State.holdAt
  rw [found]
  exact if_pos own

theorem State.holdAt_takes (found : s.findTag tag = some i) (other : s.slot p ≠ .occupied (s.refOf i))
    (takable : (s.record i).takable = true) : s.holdAt p tag = inventoryOk (s.takeFor p i).selectIfDue 1 := by
  unfold State.holdAt
  rw [found]
  exact (if_neg other).trans (if_pos takable)

theorem State.holdAt_state (found : s.findTag tag = some i) (other : s.slot p ≠ .occupied (s.refOf i))
    (elsewhere : ¬ (s.record i).takable = true) : s.holdAt p tag = answer s .state := by
  unfold State.holdAt
  rw [found]
  exact (if_neg other).trans (if_neg elsewhere)

theorem State.holdAt_adopts (unknown : s.findTag tag = none) (free : (s.displace p).lowestFree = some i) :
    s.holdAt p tag = inventoryOk (s.adoptFor p i tag).selectIfDue 1 := by
  unfold State.holdAt
  rw [unknown]
  dsimp only
  rw [free]

theorem State.holdAt_full (unknown : s.findTag tag = none) (full : (s.displace p).lowestFree = none) :
    s.holdAt p tag = answer s .full := by
  unfold State.holdAt
  rw [unknown]
  dsimp only
  rw [full]

end Holds

/-! ## The command -/

section Command

variable {s : State} {form st po : Byte} {tag : List Byte} {p : SlotId}

theorem inventorySlotHolds_unnamed (six : tag.length = 6) (unnamed : s.slotNamed st po = none) :
    inventorySlotHolds (form :: st :: po :: tag) s = answer s .outOfRange := by
  obtain ⟨t0, t1, t2, t3, t4, t5, rfl⟩ := exists_of_length_six six
  unfold inventorySlotHolds
  dsimp only
  rw [unnamed]

theorem inventorySlotHolds_invalid (six : tag.length = 6) (named : s.slotNamed st po = some p)
    (invalid : validTag (tagOf tag) = false) :
    inventorySlotHolds (form :: st :: po :: tag) s = answer s .outOfRange := by
  obtain ⟨t0, t1, t2, t3, t4, t5, rfl⟩ := exists_of_length_six six
  unfold inventorySlotHolds
  dsimp only
  rw [named, invalid]
  rfl

theorem inventorySlotHolds_state (six : tag.length = 6) (named : s.slotNamed st po = some p)
    (valid : validTag (tagOf tag) = true) (slot : (∃ o m, s.slot p = .reserved o m) ∨ s.slot p = .blocked) :
    inventorySlotHolds (form :: st :: po :: tag) s = answer s .state := by
  obtain ⟨t0, t1, t2, t3, t4, t5, rfl⟩ := exists_of_length_six six
  unfold inventorySlotHolds
  dsimp only
  rw [named]
  dsimp only
  rw [if_pos valid]
  rcases slot with ⟨o, m, reserved⟩ | blocked
  · rw [reserved]
  · rw [blocked]

theorem inventorySlotHolds_holds (six : tag.length = 6) (named : s.slotNamed st po = some p)
    (valid : validTag (tagOf tag) = true)
    (slot : s.slot p = .unknown ∨ s.slot p = .empty ∨ ∃ m, s.slot p = .occupied m) :
    inventorySlotHolds (form :: st :: po :: tag) s = s.holdAt p (tagOf tag) := by
  obtain ⟨t0, t1, t2, t3, t4, t5, rfl⟩ := exists_of_length_six six
  unfold inventorySlotHolds
  dsimp only
  rw [named]
  dsimp only
  rw [if_pos valid]
  rcases slot with unknown | empty | ⟨m, occupied⟩
  · rw [unknown]
  · rw [empty]
  · rw [occupied]

end Command

theorem length_slotHolds {form st po : Byte} {tag : List Byte} (one : form = 1#8) (six : tag.length = 6) :
    lengthFailure .slotHolds (form :: st :: po :: tag) = none := by
  subst one
  exact if_pos (by rw [List.length_cons, List.length_cons, six])

/-- Settles O49: the slot, the tag, the slot's state, and then the record of the tag. -/
theorem slotHolds : Obligations.SlotHolds := by
  unfold Obligations.SlotHolds
  rintro s _ v f rest token st po tag p reply finish ready six rfl replyIs finishIs
  have fits := length_slotHolds (st := st) (po := po) rfl six
  simp only [replyIs]
  refine ⟨fun absent => ?_, fun names => ⟨fun invalid => ?_, fun zero ones => ⟨fun slot => ?_, fun displaced => ?_⟩⟩⟩
  · exact execute_answer ready rfl fits inventorySlotHolds (inventorySlotHolds_unnamed six (slotNamed_taken absent rest))
  · have reads : validTag (tagOf tag) = false := Bool.eq_false_iff.mpr fun valid => by
      obtain ⟨zero, ones⟩ := validTag_iff.mp valid
      exact invalid.elim zero ones
    exact execute_answer ready rfl fits inventorySlotHolds (inventorySlotHolds_invalid six (names.taken rest) reads)
  · exact execute_answer ready rfl fits inventorySlotHolds
      (inventorySlotHolds_state six (names.taken rest) (validTag_iff.mpr ⟨zero, ones⟩) (by exact slot))
  have fillable : s.slot p = .unknown ∨ s.slot p = .empty ∨ ∃ m, s.slot p = .occupied m := by
    rcases displaced with ⟨unknown | empty, -⟩ | ⟨m, occupied, -⟩
    · exact .inl unknown
    · exact .inr (.inl empty)
    · exact .inr (.inr ⟨m, occupied⟩)
  have holds := inventorySlotHolds_holds (form := 1#8) six (names.taken rest) (validTag_iff.mpr ⟨zero, ones⟩)
    (by exact fillable)
  have displace : (s.taken rest).displace p = v := State.displace_eq (by exact displaced)
  have pe : v.pe = s.pe := by
    rw [← displace, State.displace_pe]
    rfl
  have ok : ∀ {w}, (s.taken rest).holdAt p (tagOf tag) = inventoryOk w 1 →
      exec .slotHolds s = .next (w.offered f [6#8, token, 0#8, 1#8]) :=
    fun held => execute_inventoryOk ready rfl fits inventorySlotHolds (holds.trans held)
  refine ⟨fun i here => ?_, fun absent => ?_⟩
  · have found : (s.taken rest).findTag (tagOf tag) = some i := State.findTag_some ⟨here.held, here.only⟩
    refine ⟨fun own => ok (State.holdAt_own found own), ?_⟩
    rintro other _ rfl
    have takes : ∀ {w}, (s.record i).takable = true → (s.taken rest).takeFor p i = w →
        exec .slotHolds s = .next (w.selectIfDue.offered f [6#8, token, 0#8, 1#8]) := fun takable taken => by
      have held := State.holdAt_takes found (by exact other) (by exact takable)
      rw [taken] at held
      exact ok held
    have occupies : ∀ {w : State}, (w.record i).generation = (s.record i).generation →
        (w.occupy p i).selectIfDue = finish w { index := i, generation := (s.record i).generation } := fun same => by
      rw [finishIs, State.occupy_eq same]
    have generation : ((v.setRecord i ((s.record i).heldIn p)).record i).generation = (s.record i).generation := by
      rw [State.record_setRecord_same]
      rfl
    refine ⟨fun state => ?_, fun state => ?_, fun waits => ?_, fun notHeld notPooled notWaiting => ?_⟩
    · have taken := State.takeFor_of_held (s := s.taken rest) (p := p) (i := i) (by exact state)
      rw [displace] at taken
      rw [takes (ModuleRecord.takable_iff.mpr (.inl state)) taken]
      exact congrArg (fun w : State => Host.Outcome.next (w.offered f _)) (occupies generation)
    · have taken := State.takeFor_of_pooled (s := s.taken rest) (p := p) (i := i) (by exact state)
      rw [displace] at taken
      rw [takes (ModuleRecord.takable_iff.mpr (.inr (.inl state))) taken]
      exact congrArg (fun w : State => Host.Outcome.next (w.offered f _))
        (occupies ((State.leavePool_generation _ i i).trans generation))
    · obtain ⟨state, -⟩ := (ModuleRecord.poolWaiting_iff _).mp waits
      have taken := State.takeFor_of_graded (s := s.taken rest) (p := p) (i := i) (by exact state)
      rw [displace] at taken
      rw [takes (ModuleRecord.takable_iff.mpr (.inr (.inr waits))) taken, ← pe]
      exact congrArg (fun w : State => Host.Outcome.next (w.offered f _)) (occupies generation)
    · have elsewhere : ¬ (s.record i).takable = true := fun takable => by
        rcases ModuleRecord.takable_iff.mp takable with held | pooled | waiting
        · exact notHeld held
        · exact notPooled pooled
        · rw [notWaiting] at waiting
          cases waiting
      exact execute_answer ready rfl fits inventorySlotHolds
        (holds.trans (State.holdAt_state found (by exact other) (by exact elsewhere)))
  · have unknown : (s.taken rest).findTag (tagOf tag) = none := State.findTag_none absent
    refine ⟨fun i free lower => ?_, fun full => ?_⟩
    · have lowest : ((s.taken rest).displace p).lowestFree = some i := by
        rw [displace]
        exact State.lowestFree_some free lower
      have adopted := State.holdAt_adopts unknown lowest
      unfold State.adoptFor at adopted
      rw [displace] at adopted
      rw [ok adopted, finishIs]
      refine congrArg (fun w : State => Host.Outcome.next (w.selectIfDue.offered f _)) (State.occupy_eq ?_)
      rw [State.record_setRecord_same]
      rfl
    · have none : ((s.taken rest).displace p).lowestFree = none := by
        rw [displace]
        exact State.lowestFree_none full
      exact execute_answer ready rfl fits inventorySlotHolds (holds.trans (State.holdAt_full unknown none))

end Sys2Proof.Machine
end

section
/-! SUPPORT. The INVENTORY forms that name a module (R55, R56), and the commands about requests (R140 to R142). -/

namespace Sys2Proof.Machine

/-! ## MODULE-TO-POOL and MODULE-GONE -/

section Record

variable {s : State} {i : ModuleIndex}

theorem State.toPool_pools (held : (s.record i).state = .held) (graded : poolable (s.record i).resolved = true) :
    s.toPool i = if s.pe.pool.length < 64 then inventoryOk (s.enterPool i).selectIfDue 4 else answer s .full := by
  unfold State.toPool State.poolHasRoom
  rw [if_pos ⟨held, graded⟩]
  simp only [decide_eq_true_eq]
  rfl

theorem State.toPool_state (other : ¬ ((s.record i).state = .held ∧ poolable (s.record i).resolved = true)) :
    s.toPool i = answer s .state := if_neg other

theorem State.forget_of_held (held : (s.record i).state = .held) :
    s.forget i = inventoryOk (s.freeRecord i).selectIfDue 5 := by
  unfold State.forget
  rw [held]

theorem State.forget_of_pooled (pooled : (s.record i).state = .pooled) :
    s.forget i = inventoryOk ((s.freeRecord i).leavePool i).selectIfDue 5 := by
  unfold State.forget
  rw [pooled]

theorem State.forget_of_waiting (waits : (s.record i).poolWaiting = true) :
    s.forget i = inventoryOk ((s.freeRecord i).leavePoolWait i).selectIfDue 5 := by
  obtain ⟨graded, -⟩ := (ModuleRecord.poolWaiting_iff _).mp waits
  unfold State.forget
  rw [graded]
  exact if_pos waits

theorem State.forget_state (notHeld : (s.record i).state ≠ .held) (notPooled : (s.record i).state ≠ .pooled)
    (notWaiting : (s.record i).poolWaiting = false) : s.forget i = answer s .state := by
  unfold State.forget
  split
  · next held => exact absurd held notHeld
  · next pooled => exact absurd pooled notPooled
  · exact if_neg (Bool.eq_false_iff.mp notWaiting)

end Record

section Tagged

variable {s : State} {form : Byte} {tag : List Byte} {i : ModuleIndex}

theorem inventoryModuleToPool_invalid (six : tag.length = 6) (invalid : validTag (tagOf tag) = false) :
    inventoryModuleToPool (form :: tag) s = answer s .outOfRange := by
  obtain ⟨t0, t1, t2, t3, t4, t5, rfl⟩ := exists_of_length_six six
  exact if_neg (Bool.eq_false_iff.mp invalid)

theorem inventoryModuleToPool_unknown (six : tag.length = 6) (valid : validTag (tagOf tag) = true)
    (unknown : s.findTag (tagOf tag) = none) : inventoryModuleToPool (form :: tag) s = answer s .notFound := by
  obtain ⟨t0, t1, t2, t3, t4, t5, rfl⟩ := exists_of_length_six six
  unfold inventoryModuleToPool
  dsimp only
  rw [if_pos valid, unknown]

theorem inventoryModuleToPool_found (six : tag.length = 6) (valid : validTag (tagOf tag) = true)
    (found : s.findTag (tagOf tag) = some i) : inventoryModuleToPool (form :: tag) s = s.toPool i := by
  obtain ⟨t0, t1, t2, t3, t4, t5, rfl⟩ := exists_of_length_six six
  unfold inventoryModuleToPool
  dsimp only
  rw [if_pos valid, found]

theorem inventoryModuleGone_invalid (six : tag.length = 6) (invalid : validTag (tagOf tag) = false) :
    inventoryModuleGone (form :: tag) s = answer s .outOfRange := by
  obtain ⟨t0, t1, t2, t3, t4, t5, rfl⟩ := exists_of_length_six six
  exact if_neg (Bool.eq_false_iff.mp invalid)

theorem inventoryModuleGone_unknown (six : tag.length = 6) (valid : validTag (tagOf tag) = true)
    (unknown : s.findTag (tagOf tag) = none) : inventoryModuleGone (form :: tag) s = answer s .notFound := by
  obtain ⟨t0, t1, t2, t3, t4, t5, rfl⟩ := exists_of_length_six six
  unfold inventoryModuleGone
  dsimp only
  rw [if_pos valid, unknown]

theorem inventoryModuleGone_found (six : tag.length = 6) (valid : validTag (tagOf tag) = true)
    (found : s.findTag (tagOf tag) = some i) : inventoryModuleGone (form :: tag) s = s.forget i := by
  obtain ⟨t0, t1, t2, t3, t4, t5, rfl⟩ := exists_of_length_six six
  unfold inventoryModuleGone
  dsimp only
  rw [if_pos valid, found]

theorem validTag_false (invalid : tagOf tag = 0 ∨ tagOf tag = 0xFFFFFFFFFFFF#48) : validTag (tagOf tag) = false :=
  Bool.eq_false_iff.mpr fun valid => by
    obtain ⟨zero, ones⟩ := validTag_iff.mp valid
    exact invalid.elim zero ones

end Tagged

/-- Settles O50: the tag is read and found, and the record's state says what becomes of it. -/
theorem moduleForms : Obligations.ModuleForms := by
  unfold Obligations.ModuleForms
  rintro s _ f rest token form tag c reply ready six rfl which replyIs
  simp only [replyIs]
  rcases which with ⟨rfl, rfl⟩ | ⟨rfl, rfl⟩
  · have fits : lengthFailure .moduleToPool (4#8 :: tag) = none := if_pos six
    refine ⟨fun invalid => ?_, fun zero ones => ⟨fun absent => ?_, fun i here => ⟨fun _ => ⟨fun held graded => ?_,
      fun other => ?_⟩, fun never => absurd never (by decide)⟩⟩⟩
    · exact execute_answer ready rfl fits inventoryModuleToPool (inventoryModuleToPool_invalid six (validTag_false invalid))
    · exact execute_answer ready rfl fits inventoryModuleToPool
        (inventoryModuleToPool_unknown six (validTag_iff.mpr ⟨zero, ones⟩) (State.findTag_none absent))
    · have found : (s.taken rest).findTag (tagOf tag) = some i := State.findTag_some ⟨here.held, here.only⟩
      have answered := (inventoryModuleToPool_found (form := 4#8) six (validTag_iff.mpr ⟨zero, ones⟩) found).trans
        (State.toPool_pools (by exact held) (poolable_eq_true.mpr graded))
      split
      · next room =>
        exact execute_inventoryOk ready rfl fits inventoryModuleToPool (answered.trans (if_pos room))
      · next full => exact execute_answer ready rfl fits inventoryModuleToPool (answered.trans (if_neg full))
    · have found : (s.taken rest).findTag (tagOf tag) = some i := State.findTag_some ⟨here.held, here.only⟩
      have stays : ¬ ((s.record i).state = .held ∧ poolable (s.record i).resolved = true) := fun ⟨held, graded⟩ => by
        obtain ⟨g, grade, accepted⟩ := poolable_eq_true.mp graded
        rcases other with elsewhere | none | reject
        · exact elsewhere held
        · rw [none] at grade
          cases grade
        · rw [reject] at grade
          exact accepted (Option.some.inj grade).symm
      exact execute_answer ready rfl fits inventoryModuleToPool
        ((inventoryModuleToPool_found six (validTag_iff.mpr ⟨zero, ones⟩) found).trans (State.toPool_state (by exact stays)))
  · have fits : lengthFailure .moduleGone (5#8 :: tag) = none := if_pos six
    refine ⟨fun invalid => ?_, fun zero ones => ⟨fun absent => ?_, fun i here => ⟨fun never => absurd never (by decide), ?_⟩⟩⟩
    · exact execute_answer ready rfl fits inventoryModuleGone (inventoryModuleGone_invalid six (validTag_false invalid))
    · exact execute_answer ready rfl fits inventoryModuleGone
        (inventoryModuleGone_unknown six (validTag_iff.mpr ⟨zero, ones⟩) (State.findTag_none absent))
    · rintro - _ rfl
      have found : (s.taken rest).findTag (tagOf tag) = some i := State.findTag_some ⟨here.held, here.only⟩
      have forgets := inventoryModuleGone_found (form := 5#8) six (validTag_iff.mpr ⟨zero, ones⟩) found
      refine ⟨fun held => ?_, fun pooled => ?_, fun waits => ?_, fun notHeld notPooled notWaiting => ?_⟩
      · exact execute_inventoryOk ready rfl fits inventoryModuleGone (forgets.trans (State.forget_of_held (by exact held)))
      · exact execute_inventoryOk ready rfl fits inventoryModuleGone
          (forgets.trans (State.forget_of_pooled (by exact pooled)))
      · exact execute_inventoryOk ready rfl fits inventoryModuleGone
          (forgets.trans (State.forget_of_waiting (by exact waits)))
      · exact execute_answer ready rfl fits inventoryModuleGone
          (forgets.trans (State.forget_state (by exact notHeld) (by exact notPooled) (by exact notWaiting)))

/-! ## REQUEST-SLOT (R140, R141) -/

section Fill

variable {s : State} {p : SlotId} {q : Request}

theorem State.requestFillAt_wakes {before after : List Request} (queue : s.pe.requests = before ++ q :: after)
    (slot : q.slot = p) (others : ∀ x ∈ before ++ after, x.slot ≠ p) (waits : q.status = .waiting) :
    s.requestFillAt p =
      answer (s.setRequests (before ++ { q with status := .ready } :: after)).selectIfDue .ok := by
  unfold State.requestFillAt
  rw [State.request_some queue slot others]
  dsimp only
  rw [waits, State.updateRequest_eq queue slot others, q.woken_eq, if_pos waits]

theorem State.requestFillAt_busy (pending : s.request p = some q) (busy : q.status ≠ .waiting) :
    s.requestFillAt p = answer s .state := by
  unfold State.requestFillAt
  rw [pending]
  dsimp only
  cases status : q.status with
  | waiting => exact absurd status busy
  | _ => rfl

theorem State.requestFillAt_empty (free : s.request p = none) (slot : s.slot p = .empty) :
    s.requestFillAt p = answer (s.raiseRequest p .fill .ready).selectIfDue .ok := by
  unfold State.requestFillAt
  rw [free]
  dsimp only
  rw [slot]

theorem State.requestFillAt_full (free : s.request p = none) (slot : s.slot p ≠ .empty) :
    s.requestFillAt p = answer s .state := by
  unfold State.requestFillAt
  rw [free]
  dsimp only
  cases is : s.slot p with
  | empty => exact absurd is slot
  | _ => rfl

theorem requestFill_unnamed {form st po : Byte} (unnamed : s.slotNamed st po = none) :
    requestFill [form, st, po] s = answer s .outOfRange := by
  unfold requestFill
  dsimp only
  rw [unnamed]

theorem requestFill_named {form st po : Byte} (named : s.slotNamed st po = some p) :
    requestFill [form, st, po] s = s.requestFillAt p := by
  unfold requestFill
  dsimp only
  rw [named]

end Fill

/-! ## RETIRE-SLOT (R142) -/

section Retire

variable {s : State} {st po : Byte} {p : SlotId}

theorem retire_unnamed (unnamed : s.slotNamed st po = none) : retire [st, po] s = answer s .outOfRange := by
  unfold retire
  dsimp only
  rw [unnamed]

theorem retire_occupied {m : ModuleRef} (named : s.slotNamed st po = some p) (slot : s.slot p = .occupied m)
    (stands : s.standsIn m [.inService, .watch]) : retire [st, po] s =
      answer ((s.setRecord m.index { s.record m.index with state := .watch }).raiseRequest p .remove .ready).selectIfDue
        .ok := by
  unfold retire
  dsimp only
  rw [named]
  dsimp only
  rw [slot]
  dsimp only [State.retireAt]
  rw [State.claim_applied stands]
  rfl

theorem retire_state (named : s.slotNamed st po = some p) (slot : ∀ m, s.slot p ≠ .occupied m) :
    retire [st, po] s = answer s .state := by
  unfold retire
  dsimp only
  rw [named]
  dsimp only
  cases is : s.slot p with
  | occupied m => exact absurd is (slot m)
  | _ => rfl

end Retire

/-- Settles O51: the three commands in turn. -/
theorem requestCommands : Obligations.RequestCommands := by
  unfold Obligations.RequestCommands
  rintro s _ f rest token st po rfl
  refine ⟨fun ready => ⟨fun absent => ?_, fun p names => ⟨fun before q after queue slot others => ⟨fun waits => ?_,
    fun busy => ?_⟩, fun free => ⟨fun empty => ?_, fun full => ?_⟩⟩⟩, fun ready => ?_, fun ready =>
    ⟨fun absent => ?_, fun p names => ⟨fun m slot stands => ?_, fun slot => ?_⟩⟩⟩
  · exact execute_answer ready rfl rfl requestFill (requestFill_unnamed (slotNamed_taken absent rest))
  · exact execute_answer ready rfl rfl requestFill ((requestFill_named (names.taken rest)).trans
      (State.requestFillAt_wakes (by exact queue) slot others waits))
  · exact execute_answer ready rfl rfl requestFill ((requestFill_named (names.taken rest)).trans
      (State.requestFillAt_busy (State.request_some (by exact queue) slot others) busy))
  · exact execute_answer ready rfl rfl requestFill ((requestFill_named (names.taken rest)).trans
      (State.requestFillAt_empty (State.request_none (by exact free)) (by exact empty)))
  · exact execute_answer ready rfl rfl requestFill ((requestFill_named (names.taken rest)).trans
      (State.requestFillAt_full (State.request_none (by exact free)) (by exact full)))
  · have taken : exec .requestSlotWake s = .next (offerReply f (requestWake [1#8] (s.taken rest))) :=
      congrArg Host.Outcome.next (State.execute_taken ready rfl rfl requestWake)
    rw [taken, ← map_woken]
    exact congrArg Host.Outcome.next (offerReply_one ready.body _ .ok _)
  · exact execute_answer ready rfl rfl retire (retire_unnamed (slotNamed_taken absent rest))
  · exact execute_answer ready rfl rfl retire (retire_occupied (names.taken rest) (by exact slot) (by exact stands))
  · exact execute_answer ready rfl rfl retire (retire_state (names.taken rest) (by exact slot))

end Sys2Proof.Machine
end

section
/-! SUPPORT. HALT, RESUME and CLEAR-ENGINE (R34, R126, R195, R197, R198). -/

namespace Sys2Proof.Machine

theorem resumeEngine_run {s : State} {params : List Byte} (run : s.mu.mode = .run) :
    resumeEngine params s = answer s .ok := by
  unfold resumeEngine
  rw [run]

theorem resumeEngine_halted {s : State} {params : List Byte} (halted : s.mu.mode = .halted) :
    resumeEngine params s = answer (s.setMode .run).forgetSequences.selectIfDue .ok := by
  unfold resumeEngine
  rw [halted]

/-- A cleared engine has neither an evaluation nor a choice, so a pending commit is at its safe point (R198). -/
theorem State.clearEngine_settles (s : State) : (s.mu.pendingCommit = none → s.clearEngine.settleIfSafe = s.clearEngine) ∧
    ∀ mask, s.mu.pendingCommit = some mask → s.clearEngine.settleIfSafe = s.clearEngine.settleCommit mask := by
  refine ⟨fun free => ?_, fun mask pending => State.settleIfSafe_safe pending rfl rfl⟩
  have kept : s.clearEngine.mu.pendingCommit = none := free
  unfold State.settleIfSafe
  rw [kept]

theorem State.clearedStrings_string (s : State) (k : Fin 8) : s.clearedStrings.strings.get k =
    { pairingClass := (s.string k).pairingClass, cap := .absent, res := .absent } := get_mapEntries _ _ k

theorem State.clearedStrings_slot (s : State) (p : SlotId) : (s.clearedStrings.slots.get p.string).get p.position =
    if s.slotInUse p = true then .unknown else s.slot p :=
  (congrArg (fun v : Vector SlotRecord 16 => v.get p.position) (get_tabulate _ p.string)).trans (get_tabulate _ _)

/-- Settles O52: the three commands in turn. -/
theorem modeCommands : Obligations.ModeCommands := by
  unfold Obligations.ModeCommands
  rintro s _ f rest token rfl
  refine ⟨fun ready => execute_answer ready rfl rfl haltEngine rfl, fun ready => ⟨fun run => ?_, fun halted => ?_⟩,
    fun ready => ?_⟩
  · exact execute_answer ready rfl rfl resumeEngine (resumeEngine_run (by exact run))
  · refine ⟨mapEntries (fun l => { l with lastSequence := none }) s.iu.live, fun e => get_mapEntries _ _ e, ?_⟩
    exact execute_answer ready rfl rfl resumeEngine (resumeEngine_halted (by exact halted))
  · refine ⟨(s.taken rest).clearEngine, s.clearedStrings.slots, s.clearedStrings.strings, ?_, rfl, s.clearedStrings_string,
      s.clearedStrings_slot⟩
    have cleared : exec .clearEngine s = _ := execute_answer ready rfl rfl clearEngineNow (st := .ok) rfl
    obtain ⟨stays, settles⟩ := (s.taken rest).clearEngine_settles
    rw [cleared]
    cases pending : s.mu.pendingCommit with
    | none =>
      rw [stays pending]
      rfl
    | some mask =>
      rw [settles mask pending]
      rfl

end Sys2Proof.Machine
end

section
/-! SUPPORT. The common checks of commands (R186 to R188). -/

namespace Sys2Proof.Machine

/-! ## A command by its checks -/

section Checks

variable {s : State} {f : Frame} {rest : List Frame} {row : CommandRow} {meaning : List Byte → State → Answer}

theorem State.execute_replying (waits : s.mu.reply ≠ none) : s.execute row meaning = s := by
  obtain ⟨reply, some⟩ := Option.ne_none_iff_exists'.mp waits
  unfold State.execute
  rw [some]

theorem State.execute_head (replied : s.mu.reply = none) (head : s.mu.commandQueue = f :: rest) (isRow : rowOf f.body = row) :
    s.execute row meaning = offerReply f ((s.taken rest).answerCommand row meaning f) := by
  unfold State.execute
  rw [replied, head]
  exact if_pos isRow

theorem State.permits_not (excluded : ∃ a, s.mu.active.bank.controller = some a ∧ a ≠ f.source) :
    s.permits f.source = false := by
  obtain ⟨a, controller, other⟩ := excluded
  unfold State.permits
  rw [controller]
  exact decide_eq_false other

theorem State.permits_of (admitted : s.mu.active.bank.controller = none ∨ s.mu.active.bank.controller = some f.source) :
    s.permits f.source = true := by
  unfold State.permits
  rcases admitted with any | same
  · rw [any]
  · rw [same]
    exact decide_eq_true rfl

theorem State.answerCommand_not {op token : Byte} {params : List Byte} (body : f.body = op :: token :: params)
    (excluded : s.permits f.source = false) : s.answerCommand row meaning f =
      { state := s, status := .notPermitted, data := echoedData row params } := by
  unfold State.answerCommand
  rw [body]
  exact if_neg (Bool.eq_false_iff.mp excluded)

theorem State.answerCommand_length {op token : Byte} {params : List Byte} (body : f.body = op :: token :: params)
    (admitted : s.permits f.source = true) {st : Status} (failure : lengthFailure row params = some st) :
    s.answerCommand row meaning f = answer s st := by
  unfold State.answerCommand
  rw [body]
  dsimp only
  rw [if_pos admitted, failure]

end Checks

/-! ## The rows of the commands (R207, log 9) -/

theorem rowOf_unknown {op : Byte} (unlisted : op = 0#8 ∨ 14 < op.toNat) (token : Byte) (params : List Byte) :
    rowOf (op :: token :: params) = .unknown := by
  rcases unlisted with rfl | beyond
  · rfl
  · obtain ⟨k, number⟩ : ∃ k, op.toNat = k + 15 := ⟨op.toNat - 15, by omega⟩
    unfold rowOf
    dsimp only
    rw [number]
    rfl

/-- A row of the commands: what executes it, and how its parameters are checked and echoed. -/
structure ExecutesRow (x : Byte × List Byte × Option Nat × Instr) (row : CommandRow)
    (meaning : List Byte → State → Answer) : Prop where
  runs   : ∀ s, exec x.2.2.2 s = .next (s.execute row meaning)
  isRow  : ∀ token params, rowOf (x.1 :: token :: (x.2.1 ++ params)) = row
  length : ∀ params n, x.2.2.1 = some n → lengthFailure row (x.2.1 ++ params) = lengthIs n params
  echo   : ∀ params, echoedData row (x.2.1 ++ params) = known (if x.1 = 7#8 ∧ params.length = 3 then params else [])

/-- Every row but that of ORDER-DONE echoes no data (log 10). -/
theorem executesRow_of_silent {op : Byte} {form : List Byte} {count : Option Nat} {c : Instr} {row : CommandRow}
    {meaning : List Byte → State → Answer} (other : op ≠ 7#8) (runs : ∀ s, exec c s = .next (s.execute row meaning))
    (isRow : ∀ token params, rowOf (op :: token :: (form ++ params)) = row)
    (length : ∀ params n, count = some n → lengthFailure row (form ++ params) = lengthIs n params)
    (silent : ∀ params, echoedData row params = []) : ExecutesRow (op, form, count, c) row meaning :=
  ⟨runs, isRow, length, fun params => (silent _).trans (by rw [if_neg fun both => other both.1]; rfl)⟩

theorem echoedData_orderDone (params : List Byte) :
    echoedData .orderDone params = known (if params.length = 3 then params else []) := by
  match params with
  | [] | [_] | [_, _] | [_, _, _] => rfl
  | _ :: _ :: _ :: _ :: l => rfl

theorem executesRow {x : Byte × List Byte × Option Nat × Instr} (listed : x ∈ commandRows) :
    ∃ row meaning, ExecutesRow x row meaning := by
  simp only [commandRows, List.cons_append, List.nil_append, List.mem_cons, List.not_mem_nil, or_false] at listed
  rcases listed with rfl | rfl | rfl | rfl | rfl | rfl | rfl | rfl | rfl | rfl | rfl | rfl | rfl | rfl | rfl | rfl | rfl |
    rfl | rfl | rfl | rfl
  case inl => exact ⟨.load, loadChunks, executesRow_of_silent (by decide) (fun _ => rfl) (fun _ _ => rfl) nofun fun _ => rfl⟩
  case inr.inr.inr.inr.inr.inr.inl =>
    exact ⟨.orderDone, reportOrderDone, fun _ => rfl, fun _ _ => rfl, fun | _, _, rfl => rfl, fun params => by
      simpa using echoedData_orderDone params⟩
  all_goals
    exact ⟨_, _, executesRow_of_silent (by decide) (fun _ => rfl) (fun _ _ => rfl) (fun | _, _, rfl => rfl) fun _ => rfl⟩

/-- The commands with a form, each with the greatest form and the row of a body without a listed form (log 9). -/
structure FormRow (op : Byte) (c : Instr) (row : CommandRow) (meaning : List Byte → State → Answer) : Prop where
  runs    : ∀ s, exec c s = .next (s.execute row meaning)
  bare    : ∀ token, rowOf [op, token] = row
  beyond  : ∀ token b ps, (if op = 6#8 then 5 else 1) < b.toNat → rowOf (op :: token :: b :: ps) = row
  missing : lengthFailure row [] = some .malformed
  listed  : ∀ b ps, (if op = 6#8 then 5 else 1) < b.toNat → lengthFailure row (b :: ps) = some .outOfRange
  echo    : ∀ params, echoedData row params = []

theorem formRow {op : Byte} {c : Instr}
    (listed : (op, c) ∈ [(4#8, Instr.queryModule), (6#8, .slotEmpty), (8#8, .requestSlotFill)]) :
    ∃ row meaning, FormRow op c row meaning := by
  simp only [List.mem_cons, Prod.mk.injEq, List.not_mem_nil, or_false] at listed
  rcases listed with ⟨rfl, rfl⟩ | ⟨rfl, rfl⟩ | ⟨rfl, rfl⟩
  · refine ⟨.queryModule, queryModuleRecord, fun _ => rfl, fun _ => rfl, fun _ _ _ _ => rfl, rfl, fun b ps beyond => ?_,
      fun _ => rfl⟩
    obtain ⟨k, number⟩ : ∃ k, b.toNat = k + 2 := ⟨b.toNat - 2, by have : 1 < b.toNat := beyond; omega⟩
    unfold lengthFailure queryModuleLength
    dsimp only
    rw [number]
    rfl
  · refine ⟨.slotEmpty, inventorySlotEmpty, fun _ => rfl, fun _ => rfl, fun token b ps beyond => ?_, rfl,
      fun b ps beyond => ?_, fun _ => rfl⟩
    all_goals obtain ⟨k, number⟩ : ∃ k, b.toNat = k + 6 := ⟨b.toNat - 6, by have : 5 < b.toNat := beyond; omega⟩
    · change inventoryRow (b :: ps) = .slotEmpty
      unfold inventoryRow
      dsimp only
      rw [number]
      rfl
    · unfold lengthFailure inventoryLength
      dsimp only
      rw [number]
      rfl
  · refine ⟨.requestSlotFill, requestFill, fun _ => rfl, fun _ => rfl, fun token b ps beyond => ?_, rfl,
      fun b ps beyond => ?_, fun _ => rfl⟩
    all_goals have least : 1 < b.toNat := beyond
    · exact if_neg least.ne'
    · obtain ⟨k, number⟩ : ∃ k, b.toNat = k + 2 := ⟨b.toNat - 2, by omega⟩
      unfold lengthFailure requestLength
      dsimp only
      rw [number]
      rfl

/-- Settles O53: the checks in their order, for each row of the commands. -/
theorem commonChecks : Obligations.CommonChecks := by
  unfold Obligations.CommonChecks
  rintro s _ f rest head rfl
  have unknown : ∀ t : State, exec .unknownCommand t = .next (t.execute .unknown noCommand) := fun _ => rfl
  refine ⟨fun waits => ⟨fun x listed => ?_, ?_⟩, fun replied => ?_⟩
  · obtain ⟨row, meaning, executes⟩ := executesRow listed
    rw [executes.runs, State.execute_replying waits]
  · rw [unknown, State.execute_replying waits]
  have lengthFails : ∀ {row meaning op token params st}, f.body = op :: token :: params →
      (s.taken rest).permits f.source = true → rowOf (op :: token :: params) = row → lengthFailure row params = some st →
      s.execute row meaning = (s.taken rest).offered f [op, token, BitVec.ofNat 8 st.code] := by
    intro row meaning op token params st body admitted isRow failure
    rw [State.execute_head replied head (by rw [body]; exact isRow), State.answerCommand_length body admitted failure,
      offerReply_answer body]
  have excludes : ∀ {row meaning op token params} {data : List Byte}, f.body = op :: token :: params →
      (s.taken rest).permits f.source = false → rowOf (op :: token :: params) = row → echoedData row params = known data →
      s.execute row meaning = (s.taken rest).offered f (op :: token :: 4#8 :: data) := by
    intro row meaning op token params data body excluded isRow echo
    rw [State.execute_head replied head (by rw [body]; exact isRow), State.answerCommand_not body excluded, echo,
      offerReply_known body]
    rfl
  refine ⟨fun body => ?_, fun op body => ?_, fun excluded => ?_, fun admitted => ?_⟩
  · rw [unknown, State.execute_head replied head (by rw [body]; rfl)]
    unfold State.answerCommand offerReply
    rw [body]
    rfl
  · rw [unknown, State.execute_head replied head (by rw [body]; rfl)]
    unfold State.answerCommand offerReply
    rw [body]
    rfl
  · have excluded : (s.taken rest).permits f.source = false := State.permits_not (by exact excluded)
    refine ⟨fun op token params body unlisted => ?_, fun x listed token params body => ?_,
      fun op token c params listed body bad => ?_⟩
    · exact congrArg Host.Outcome.next (excludes (data := []) body excluded (rowOf_unknown unlisted token params) rfl)
    · obtain ⟨row, meaning, executes⟩ := executesRow listed
      rw [executes.runs, excludes body excluded (executes.isRow token params) (executes.echo params)]
    · obtain ⟨row, meaning, form⟩ := formRow listed
      have isRow : rowOf (op :: token :: params) = row := by
        rcases bad with rfl | ⟨b, ps, rfl, beyond⟩
        · exact form.bare token
        · exact form.beyond token b ps beyond
      rw [form.runs, excludes (data := []) body excluded isRow (form.echo params)]
  · have admitted : (s.taken rest).permits f.source = true := State.permits_of (by exact admitted)
    refine ⟨fun op token params body unlisted => ?_, fun x listed token params n body takes other => ?_,
      fun op token c params listed body => ⟨?_, ?_⟩⟩
    · exact congrArg Host.Outcome.next
        (lengthFails (st := .unknownCommand) body admitted (rowOf_unknown unlisted token params) rfl)
    · obtain ⟨row, meaning, executes⟩ := executesRow listed
      have failure : lengthFailure row (x.2.1 ++ params) = some .malformed :=
        (executes.length params n takes).trans (if_neg other)
      rw [executes.runs, lengthFails body admitted (executes.isRow token params) failure]
      rfl
    · rintro rfl
      obtain ⟨row, meaning, form⟩ := formRow listed
      rw [form.runs, lengthFails body admitted (form.bare token) form.missing]
      rfl
    · rintro b ps rfl beyond
      obtain ⟨row, meaning, form⟩ := formRow listed
      rw [form.runs, lengthFails body admitted (form.beyond token b ps beyond) (form.listed b ps beyond)]
      rfl

end Sys2Proof.Machine
end
